-- ==== Sys2Proof/Word.lean ====
section
/-!
DEFINITION. The word type of the Olbrin 2740 model: the byte that the link and the segments carry,
and the pair of like things (two packs, two segments, two fans, two streams).
-/

namespace Sys2Proof

/-- One byte of a frame, a table entry or a segment transaction. -/
abbrev Byte := BitVec 8

/-- Two like things: of pack A and pack B, of SEG0 and SEG1, of fan 1 and fan 2, of the BATTERY and
the THERMAL stream. -/
structure Pair (α : Type) where
  one : α
  two : α
  deriving DecidableEq, Repr

/-- The member of a pair that an index names: `false` the first, `true` the second. -/
def Pair.get {α : Type} (p : Pair α) (i : Bool) : α :=
  match i with
  | false => p.one
  | true => p.two

/-- The pair with the named member replaced. -/
def Pair.set {α : Type} (p : Pair α) (i : Bool) (x : α) : Pair α :=
  match i with
  | false => { p with one := x }
  | true => { p with two := x }

/-- Both members of a pair made the same. -/
def Pair.both {α : Type} (x : α) : Pair α := ⟨x, x⟩

end Sys2Proof
end

