-- ==== Sys2Proof/Config.lean ====
section
/-!
DEFINITION. What the part fixes once and for all: sizes of queues and lists, fixed times, the step of
time that the model's idle part takes; and the one free value, the order that R180 leaves open.  The spec
leaves no result of any event undefined.
-/

namespace Sys2Proof.Config

/-- Matrix positions 0 to 143, side buttons 144 to 147 (R1). -/
def matrixPositions : Nat := 144
/-- All positions (R1). -/
def positions : Nat := 148
/-- Sense lines of the matrix: position = drive × 8 + sense (R1). -/
def senseLines : Nat := 8
/-- Drive lines of the matrix (R1). -/
def driveLines : Nat := 18
/-- Entries of the raw event queue (R10). -/
def rawQueueSize : Nat := 16
/-- Codes of the held-code list (R26). -/
def heldSize : Nat := 16
/-- Records of the key report queue (R34). -/
def keyQueueSize : Nat := 32
/-- Records in one KEY_REPORT frame (R34). -/
def keyReportMax : Nat := 8
/-- Frames of the receive queue (R176). -/
def receiveQueueSize : Nat := 6
/-- Response slots of the PLI (R179). -/
def slots : Nat := 8
/-- Class-3 records one segment queue may hold (R145). -/
def passThroughCap : Nat := 4
/-- Largest payload of a frame in bytes (R175). -/
def payloadMax : Nat := 60
/-- Largest length of a received frame in bytes (R175). -/
def frameMax : Nat := 64
/-- Bytes of entries one table access may carry (R162). -/
def tableBytesMax : Nat := 56
/-- The part code IDENTIFY returns (R182). -/
def partCode : Nat := 2740
/-- The revision level IDENTIFY returns (R182). -/
def revision : Nat := 1

/-- Fixed times in ms: presence debounce (R46), wake-line debounce (R135), age tick (R45), skin read
(R91), fan update (R99), tach window (R103), stretch limit (R147), sequence idle (R153). -/
def presenceDebounceMs : Nat := 100
/-- R135. -/
def wakeLineDebounceMs : Nat := 50
/-- R45. -/
def ageTickMs : Nat := 1000
/-- R91. -/
def skinReadMs : Nat := 1000
/-- R99. -/
def fanUpdateMs : Nat := 250
/-- R103. -/
def tachWindowMs : Nat := 1000
/-- R147. -/
def stretchMs : Nat := 25
/-- R153. -/
def sequenceIdleMs : Nat := 50

/-- The step of time, in µs, by which an idle part's timers run on.  DESIGN CHOICE (log entry 3): the
finest time the spec names, SCAN.on_period 0.5 ms. -/
def tickUs : Nat := 500

/-- A free value (log entry 37), one for each draw: at the send of the OK to an accepted POWER_REQUEST, with
a frame at the head of the receive queue that may be taken, whether that take comes before the link DOWN
(R180: either may be taken first).  Nothing constrains it. -/
opaque takeFirst : Nat → Bool

end Sys2Proof.Config
end

