-- ==== Sys2Proof/Syntax.lean ====
section
/-!
DEFINITION. The commands of the Olbrin 2740: one constructor of `Instr` for each row of
spec/opcode_table.json, with what the event carries as operands.

A request row carries the frame's tag and payload bytes (and the segment for the pass-through
channels); a row that is one selector or one action of a request (POWER_REQUEST_SLEEP,
STATUS_READ_BATTERY, SEGMENT_RESET_HOLD, ...) carries the tag and what the selector leaves open.
A row that accepts an input carries the level accepted, a completion row what the bus returned.
-/

namespace Sys2Proof

/-- A battery pack: A sits on SEG0, B on SEG1. -/
inductive Pack where
  | a
  | b
  deriving DecidableEq, Repr

/-- The index of a pack in a pair. -/
def Pack.ix : Pack → Bool
  | .a => false
  | .b => true

/-- A downstream segment. -/
inductive Seg where
  | seg0
  | seg1
  deriving DecidableEq, Repr

/-- The index of a segment in a pair. -/
def Seg.ix : Seg → Bool
  | .seg0 => false
  | .seg1 => true

/-- A fan. -/
inductive Fan where
  | fan1
  | fan2
  deriving DecidableEq, Repr

/-- The index of a fan in a pair. -/
def Fan.ix : Fan → Bool
  | .fan1 => false
  | .fan2 => true

/-- A status stream. -/
inductive StreamId where
  | battery
  | thermal
  deriving DecidableEq, Repr

/-- The index of a stream in a pair. -/
def StreamId.ix : StreamId → Bool
  | .battery => false
  | .thermal => true

/-- The board profile that the three straps give (00_scope.md, Board profile). -/
structure Profile where
  /-- packs A and B fitted; clear: pack A only -/
  twoPacks : Bool
  /-- fans 1 and 2 fitted; clear: fan 1 only -/
  twoFans : Bool
  sideButtons : Bool
  deriving DecidableEq, Repr

/-- How a transaction ends on the bus (R144, R147): with every byte acknowledged and, for a read, the
bytes read; with the address or a later byte not acknowledged; or, for the completion of an internal
requester's transaction, by the stretch timer. -/
inductive BusEnd where
  | ok (data : List Byte)
  | addrNack
  | dataNack
  | timeout
  deriving DecidableEq, Repr

/-- The accepted level of the lid sensor or of the fold sensor (R112). -/
inductive LidFold where
  | lid (closed : Bool)
  | fold (folded : Bool)
  deriving DecidableEq, Repr

/-- The commands: one constructor per row of spec/opcode_table.json, in the table's order. -/
inductive Instr where
  | powerOnReset (straps : Profile)
  | platformResetAssert
  | platformResetRelease
  | scan (raw : BitVec 148)
  | takeRawEvent
  | keyResync (tag : Byte) (payload : List Byte)
  | restatementResume
  | presenceActive (k : Pack)
  | packRemoval (k : Pack)
  | pollTimerExpiry (k : Pack)
  | ageTick (k : Pack)
  | packItemCompletion (k : Pack) (e : BusEnd)
  | adapterPresentAccept (present : Bool) (cls : BitVec 4)
  | allocationTimerExpiry
  | inputReadCompletion (e : BusEnd)
  | fastChargeExpiry (k : Pack)
  | chargeClear (tag : Byte) (payload : List Byte)
  | chargerWriteCompletion (k : Pack) (e : BusEnd)
  | chargerRefreshExpiry
  | batteryGraceExpiry
  | tempReport (tag : Byte) (payload : List Byte)
  | hostReportTimeout
  | skinReadTimerExpiry
  | skinReadCompletion (e : BusEnd)
  | criticalGraceExpiry
  | fanUpdate (f : Fan)
  | tachPulse (f : Fan)
  | tachWindowEnd (f : Fan)
  | lidFoldAccept (x : LidFold)
  | shortPress
  | buttonRelease
  | overrideExpiry
  | powerGoodChange (level : Bool)
  | powerUpTimeout
  | powerDownTimeout
  | restartTimerExpiry
  | powerRequestSleep (tag : Byte)
  | powerRequestOff (tag : Byte)
  | powerRequestRestart (tag : Byte)
  | wakeLineAccept
  | wakeSet (tag : Byte) (payload : List Byte)
  | wakeStatusRead (tag : Byte) (payload : List Byte)
  | wakeStatusClear (tag : Byte) (payload : List Byte)
  | transactionComplete (g : Seg) (e : BusEnd)
  | stretchTimeout (g : Seg)
  | recoveryEnd (g : Seg) (dataHigh : Bool)
  | ptRead (g : Seg) (tag : Byte) (payload : List Byte)
  | ptWrite (g : Seg) (tag : Byte) (payload : List Byte)
  | ptSeqOpen (g : Seg) (tag : Byte) (payload : List Byte)
  | ptSeqClose (g : Seg) (tag : Byte) (payload : List Byte)
  | sequenceIdleExpiry (g : Seg)
  | segmentResetHold (tag : Byte) (segment : Byte)
  | segmentResetRelease (tag : Byte) (segment : Byte)
  | drain (tag : Byte) (payload : List Byte)
  | tableRead (tag : Byte) (payload : List Byte)
  | tableWrite (tag : Byte) (payload : List Byte)
  | tableWriteCond (tag : Byte) (payload : List Byte)
  | tableLock (tag : Byte) (payload : List Byte)
  | frameReceived (bytes : List Byte)
  | requestTake
  | identify (tag : Byte) (payload : List Byte)
  | statusReadBattery (tag : Byte)
  | statusReadThermal (tag : Byte)
  | statusReadKeyboard (tag : Byte)
  | summaryRead (tag : Byte)
  | transmitChoice (permit : Bool)
  | frameSent
  | streamStart (tag : Byte) (payload : List Byte)
  | streamStop (tag : Byte) (payload : List Byte)
  | streamPeriodExpiry (i : StreamId)
  | wakeLineInactiveAccept
  deriving DecidableEq, Repr

end Sys2Proof
end

