-- ==== Sys2Proof/WellFormed.lean ====
section
/-!
DEFINITION. Which commands are well formed: a request's payload is one that a frame can carry (R175:
0 to 60 bytes), and a completed read returns what a transaction can carry (R143: 1 to 32 bytes).
A command that is not well formed still has a meaning (R175 gives one to every byte string
received); no frame and no bus of the spec can send it.
-/

namespace Sys2Proof

/-- A payload that a frame can carry (R175). -/
def payloadOk (p : List Byte) : Bool := decide (p.length ≤ Config.payloadMax)

/-- Data that a transaction can return (R143). -/
def BusEnd.wf : BusEnd → Bool
  | .ok data => decide (data.length ≤ 32)
  | .addrNack => true
  | .dataNack => true
  | .timeout => true

/-- The end of a transaction that TRANSACTION_COMPLETE can report: OK or a NACK (R144, R147); a
TIMEOUT is STRETCH_TIMEOUT's. -/
def BusEnd.notTimeout : BusEnd → Bool
  | .timeout => false
  | .ok _ => true
  | .addrNack => true
  | .dataNack => true

/-- Well-formed commands. -/
def Instr.wf : Instr → Bool
  | .keyResync _ p | .chargeClear _ p | .tempReport _ p | .wakeSet _ p | .wakeStatusRead _ p
  | .wakeStatusClear _ p | .ptRead _ _ p | .ptWrite _ _ p | .ptSeqOpen _ _ p | .ptSeqClose _ _ p
  | .drain _ p | .tableRead _ p | .tableWrite _ p | .tableWriteCond _ p | .tableLock _ p
  | .identify _ p | .streamStart _ p | .streamStop _ p => payloadOk p
  | .packItemCompletion _ e | .inputReadCompletion e | .chargerWriteCompletion _ e
  | .skinReadCompletion e => e.wf
  | .transactionComplete _ e => e.wf && e.notTimeout
  | .frameReceived bytes => !bytes.isEmpty
  | .powerOnReset _ | .platformResetAssert | .platformResetRelease | .scan _ | .takeRawEvent
  | .restatementResume | .presenceActive _ | .packRemoval _ | .pollTimerExpiry _ | .ageTick _
  | .adapterPresentAccept _ _ | .allocationTimerExpiry | .fastChargeExpiry _
  | .chargerRefreshExpiry | .batteryGraceExpiry | .hostReportTimeout | .skinReadTimerExpiry
  | .criticalGraceExpiry | .fanUpdate _ | .tachPulse _ | .tachWindowEnd _ | .lidFoldAccept _
  | .shortPress | .buttonRelease | .overrideExpiry | .powerGoodChange _ | .powerUpTimeout
  | .powerDownTimeout | .restartTimerExpiry | .powerRequestSleep _ | .powerRequestOff _
  | .powerRequestRestart _ | .wakeLineAccept | .stretchTimeout _ | .recoveryEnd _ _
  | .sequenceIdleExpiry _ | .segmentResetHold _ _ | .segmentResetRelease _ _ | .requestTake
  | .statusReadBattery _ | .statusReadThermal _ | .statusReadKeyboard _ | .summaryRead _
  | .transmitChoice _ | .frameSent | .streamPeriodExpiry _ | .wakeLineInactiveAccept => true

end Sys2Proof
end

