-- ==== Sys2Proof/Decode.lean ====
section
/-!
DEFINITION. The decoder over the rows of spec/opcode_table.json that give bits: none does (the part
takes events and frames, not instruction words), so no word spells a command.  The decoding of a
FRAME of the Platform Link (channel, kind, tag, length, payload, CRC) is the part's own work and
stands in Machine/Link.lean (R175, R178, R195).
-/

namespace Sys2Proof

/-- The command that a word of `nbits` bits spells by the table's bits: no row of the table gives
bits, so none. -/
def decodeTableWord (_nbits _w : Nat) : Option Instr := none

end Sys2Proof
end

