-- ==== Sys2Proof/Machine/Types.lean ====
section
/-!
DEFINITION. The types of the state of the Olbrin 2740, as plain data: every record, queue, list, timer,
mark and table that the spec gives one of the twelve blocks, and the levels of the part's input lines.

Times inside a `Timer` are kept in µs.  Outputs that the spec defines from other state (the two rail
enables, RX_READY, the mode of a fast-charge timer) are functions in Machine/Ops.lean, not fields.
-/

namespace Sys2Proof.Machine

/-! ## Timers and debounced inputs -/

/-- A running timer: the period it was started with and what is left of it, both in µs.  A stopped
timer is `none`. -/
structure Timer where
  period : Nat
  left : Nat
  deriving DecidableEq, Repr

/-- A debounced input: the accepted level (`none`: none accepted yet) and the wait for a new level,
with its own timer (R46, R110, R135). -/
structure Debounce where
  accepted : Option Bool
  wait : Option (Bool × Timer)
  deriving DecidableEq, Repr

/-! ## Matrix Scan Engine (chapter 1) -/

/-- A position record (R2). -/
structure PosRec where
  down : Bool
  counter : Nat
  suspect : Bool
  masked : Bool
  deriving DecidableEq, Repr

/-- An entry of the raw event queue (section 1.6). -/
inductive RawEntry where
  | change (pos : Nat) (press : Bool) (synthesized : Bool)
  | resync
  deriving DecidableEq, Repr

/-- The matrix scan state (R13). -/
inductive ScanState where
  | gated
  | baseline
  | active
  deriving DecidableEq, Repr

/-- What the MSE holds. -/
structure Mse where
  /-- the 148 position records -/
  recs : List PosRec
  /-- the raw event queue, head first -/
  raw : List RawEntry
  overrun : Bool
  scanState : ScanState
  scanTimer : Option Timer
  deriving DecidableEq, Repr

/-! ## Key Translation Unit (chapter 2) -/

/-- What a pressed-as record says was used (R25). -/
inductive Used where
  | code (c : Nat)
  | fn
  | action (id : Nat)
  | noKey
  | rolled
  deriving DecidableEq, Repr

/-- A pressed-as record that is not empty (R25). -/
structure KeyRec where
  used : Used
  swallow : Bool
  slotted : Bool
  deriving DecidableEq, Repr

/-- A KEY_REPORT record (R34). -/
structure KeyReport where
  code : Nat
  release : Bool
  synthesized : Bool
  rollover : Bool
  deriving DecidableEq, Repr

/-- The restatement with its progress (R36): IDLE; in step 1 with the index of the next held code to
release; in step 3 with the next position to visit; or in step 3 at a visited position whose press of
a code waits for room. -/
inductive Restatement where
  | idle
  | releasing (next : Nat)
  | pressing (next : Nat)
  | pressWaiting (pos : Nat) (code : Nat)
  deriving DecidableEq, Repr

/-- The wake key slot when it is not empty (R39, R40). -/
structure WakeKey where
  pos : Nat
  code : Nat
  /-- `none`: the release has not arrived; else the SYNTHESIZED flag of its report (R34) -/
  release : Option Bool
  deriving DecidableEq, Repr

/-- What the KTU holds. -/
structure Ktu where
  /-- the 148 pressed-as records; `none`: empty -/
  recs : List (Option KeyRec)
  /-- the held-code list: usage code and holder count, in order of first press -/
  held : List (Nat × Nat)
  layer : Nat
  rollover : Bool
  /-- the key report queue, head first -/
  queue : List KeyReport
  restate : Restatement
  wakeKey : Option WakeKey
  deriving DecidableEq, Repr

/-! ## Pack Monitor (chapter 3) -/

/-- The state of a pack record (R44). -/
inductive PackState where
  | absent
  | identifying
  | ready
  | commLost
  | unsupported
  deriving DecidableEq, Repr

/-- The identity fields of a pack record (R44). -/
structure Identity where
  chemistry : Nat
  cells : Nat
  designCapacity : Nat
  deriving DecidableEq, Repr

/-- The status flags of a pack (R49). -/
structure PackStatus where
  overTemp : Bool
  terminate : Bool
  overCharge : Bool
  full : Bool
  empty : Bool
  deriving DecidableEq, Repr

/-- The telemetry fields of a pack record (R44); the temperature in 0.1 °C. -/
structure Telemetry where
  voltage : Nat
  current : Int
  temperature : Int
  soc : Nat
  fullCapacity : Nat
  reqCurrent : Option Nat
  reqVoltage : Option Nat
  status : PackStatus
  deriving DecidableEq, Repr

/-- A pack record (R44). -/
structure PackRecord where
  state : PackState
  identity : Option Identity
  telemetry : Option Telemetry
  stale : Bool
  age : Nat
  failures : Nat
  deriving DecidableEq, Repr

/-- The kind of a cycle (R51, R54). -/
inductive CycleKind where
  | identify
  | poll
  deriving DecidableEq, Repr

/-- A cycle in progress: its kind, how many of its items have been read, and whether the retry of the
item being read has been used. -/
structure Cycle where
  kind : CycleKind
  item : Nat
  retryUsed : Bool
  deriving DecidableEq, Repr

/-- What the PKM holds for one pack. -/
structure PackMonitor where
  record : PackRecord
  presence : Debounce
  cycle : Option Cycle
  /-- the staged sample: the values read in the cycle so far, in item order; `none` for a requested
  value that the pack left out -/
  staged : List (Option Int)
  /-- the cycle copy: pack address and the 11 command bytes (R48) -/
  copyAddress : Nat
  copyCommands : List Nat
  outstanding : Bool
  orphan : Bool
  pollTimer : Option Timer
  ageTick : Option Timer
  deriving DecidableEq, Repr

/-! ## Charge Controller (chapter 4) -/

/-- The charge stage (section 4.3). -/
inductive Stage where
  | none
  | precharge
  | fast
  | topoff
  | full
  | hold
  | inhibit
  | fault
  deriving DecidableEq, Repr

/-- The charger writer (R78). -/
inductive WriterState where
  | idle
  | writingCurrent
  | writingVoltage
  deriving DecidableEq, Repr

/-- What the CHG holds for one pack.  The mode of the fast-charge timer (CLEAR, RUNNING or PAUSED)
follows from the stage and the commanded current (R70) and is `ChargePack.timerMode`. -/
structure ChargePack where
  stage : Stage
  current : Nat
  voltage : Nat
  termCount : Nat
  /-- elapsed time of the fast-charge timer, in µs -/
  elapsedUs : Nat
  writer : WriterState
  retryUsed : Bool
  again : Bool
  deriving DecidableEq, Repr

/-- The input reader (R63): READING_CURRENT keeps the voltage read before it. -/
inductive InputReader where
  | idle
  | readingVoltage
  | readingCurrent (voltage : Nat)
  deriving DecidableEq, Repr

/-- What the CHG holds. -/
structure Chg where
  /-- the adapter record: `none` not present, else the class (R61) -/
  adapter : Option Nat
  vIn : Option Nat
  iSys : Option Nat
  inputFailures : Nat
  reader : InputReader
  allocTimer : Option Timer
  packs : Pair ChargePack
  headroom : Nat
  refreshTimer : Option Timer
  /-- the system SoC; `none`: unknown (R82) -/
  systemSoc : Option Nat
  lowMark : Bool
  graceTimer : Option Timer
  deriving DecidableEq, Repr

/-! ## Thermal and Fan Unit (chapter 5) -/

/-- The condition of a die source or of S (R88). -/
inductive Condition where
  | absent
  | real
  | failSafe
  deriving DecidableEq, Repr

/-- A die source or S: the value (0 while ABSENT) and its condition. -/
structure Source where
  value : Int
  cond : Condition
  deriving DecidableEq, Repr

/-- The host report timer (R90). -/
inductive HostTimer where
  | stopped
  | running (t : Timer)
  | expired
  deriving DecidableEq, Repr

/-- What the TFU holds for one fan. -/
structure FanState where
  /-- evaluation temperature E -/
  eval : Int
  duty : Nat
  updateTimer : Option Timer
  pulses : Nat
  windowTimer : Option Timer
  lastRpm : Nat
  lowDuty : Bool
  fault : Bool
  stallCount : Nat
  recoveryCount : Nat
  /-- the stall-check duty in force: FANCURVE's as of the last fan update (R102, R166) -/
  stallCheckDuty : Nat
  /-- the stall speed in force, likewise -/
  stallSpeed : Nat
  deriving DecidableEq, Repr

/-- What the TFU holds. -/
structure Tfu where
  /-- die sources D0 to D3 -/
  die : List Source
  skin : Source
  /-- pack sources PA and PB, in whole °C -/
  pack : Pair (Option Int)
  hostTimer : HostTimer
  skinTimer : Option Timer
  skinReading : Bool
  skinFailures : Nat
  zone : Nat
  critical : Bool
  graceTimer : Option Timer
  fans : Pair FanState
  deriving DecidableEq, Repr

/-! ## Posture and Power Unit (chapter 6) and Wake Unit (chapter 7) -/

/-- The posture (R112). -/
inductive Posture where
  | unknown
  | opened
  | tablet
  | closed
  deriving DecidableEq, Repr

/-- The platform power state (section 6.4). -/
inductive PowerState where
  | off
  | poweringUp
  | on
  | sleepEntry
  | sleep
  | poweringDown
  deriving DecidableEq, Repr

/-- The value of a POWER_REQUEST (R120). -/
inductive PowerReq where
  | sleep
  | off
  | restart
  deriving DecidableEq, Repr

/-- A shutdown cause (R137). -/
inductive Cause where
  | none
  | hostRequest
  | buttonOverride
  | thermal
  | battery
  deriving DecidableEq, Repr

/-- What the PPU holds. -/
structure Ppu where
  lid : Debounce
  fold : Debounce
  posture : Posture
  button : Debounce
  overrideTimer : Option Timer
  adapter : Debounce
  power : PowerState
  transition : Option Timer
  /-- the request pending with the tag of the request that awaits its send -/
  request : Option (PowerReq × Byte)
  restartPending : Bool
  restartTimer : Option Timer
  wakeLatch : Bool
  cause : Cause
  deriving DecidableEq, Repr

/-- The seven wake sources, by number (section 7.1). -/
inductive WakeSource where
  | powerButton
  | lidOpen
  | key
  | sideButton
  | adapterChange
  | batteryCritical
  | wakeLine
  deriving DecidableEq, Repr

/-- The sticky wake record (section 7.4) and the wake line (R135). -/
structure Wku where
  lastSource : Option WakeSource
  /-- sources seen: bit n for source n, as the link carries the set -/
  seen : BitVec 7
  lastCause : Cause
  powerFault : Bool
  line : Debounce
  deriving DecidableEq, Repr

/-! ## Segments (chapter 8) -/

/-- The segment state (section 8.2). -/
inductive SegState where
  | idle
  | busy
  | recovering
  | held
  | fault
  deriving DecidableEq, Repr

/-- Where a completion goes (R143). -/
inductive Requester where
  | charger
  | pkm
  | input
  | skin
  | hub
  deriving DecidableEq, Repr

/-- A transaction record (R143).  `slot` is the response slot of a class-3 record; `none` for the
internal requesters and for a class-3 record whose slot link DOWN has released (R151). -/
structure Txn where
  cls : Nat
  requester : Requester
  write : Bool
  address : Nat
  command : Nat
  length : Nat
  data : List Byte
  slot : Option Nat
  member : Bool
  order : Nat
  inFlight : Bool
  deriving DecidableEq, Repr

/-- How a transaction completes (R48, R151). -/
inductive Completion where
  | ok (data : List Byte)
  | addrNack
  | dataNack
  | timeout
  | segReset
  | segFault
  deriving DecidableEq, Repr

/-- The sequence record (R153): NONE, PENDING with the slot of the PT_SEQ_OPEN, or OPEN with its idle
timer. -/
inductive Sequence where
  | noSeq
  | pending (slot : Nat)
  | opened (idle : Timer)
  deriving DecidableEq, Repr

/-- A drain entry (R158): the slot of the DRAIN and the arrival orders of the writes it waits for. -/
structure DrainEntry where
  slot : Nat
  writes : List Nat
  deriving DecidableEq, Repr

/-- What a Segment Controller holds. -/
structure Segment where
  state : SegState
  queue : List Txn
  /-- the arrival order that the next record takes -/
  nextOrder : Nat
  /-- the stretch timer, running while the transaction in flight waits on a line (R147) -/
  stretch : Option Timer
  sequence : Sequence
  drains : List DrainEntry
  /-- set while RECOVERING by a RELEASE from FAULT: a success raises RECOVERED (R157) -/
  fromFault : Bool
  /-- the transaction in flight was taken while a line read low and waits for both lines before its
  start; clear once the start is made, when the clock alone is waited on (R147) -/
  startWait : Bool
  deriving DecidableEq, Repr

/-! ## Tables (chapter 9) -/

/-- The eleven tables (R161). -/
inductive TableId where
  | scan
  | keymap
  | profile
  | power
  | adapter
  | itemmap
  | fancurve
  | thermal
  | filter
  | wake
  | settings
  deriving DecidableEq, Repr

/-- The SCAN record (R17); `onPeriod` is the code of R197, `sleepPeriod` in ms as the link carries it, which is
a DESIGN CHOICE (log entry 44). -/
structure ScanTab where
  driveLines : Nat
  senseLines : Nat
  onPeriod : Nat
  sleepPeriod : Nat
  pressCount : Nat
  releaseCount : Nat
  diodeMatrix : Bool
  deriving DecidableEq, Repr

/-- The kind of a KEYMAP entry with its value (R22). -/
inductive KeyKind where
  | noKey
  | code (c : Nat)
  | fn
  | action (id : Nat)
  | transparent
  deriving DecidableEq, Repr

/-- A KEYMAP entry (R22). -/
structure KeymapEntry where
  kind : KeyKind
  wakeMark : Bool
  deriving DecidableEq, Repr

/-- A temperature band of a PROFILE entry (R68, R84). -/
structure Band where
  low : Int
  high : Int
  factor : Nat
  reduction : Nat
  deriving DecidableEq, Repr

/-- A PROFILE entry (R84). -/
structure ProfileTab where
  prechargeThreshold : Nat
  prechargeCurrent : Nat
  fastCurrent : Nat
  chargeVoltage : Nat
  terminationCurrent : Nat
  topoffWindow : Nat
  rechargeSoc : Nat
  ceilingHysteresis : Nat
  fastChargeTime : Nat
  bandCount : Nat
  bands : List Band
  deriving DecidableEq, Repr

/-- The POWER record (R48, R85, R107, R127), in the order of R197. -/
structure PowerTab where
  derate : Nat
  guard : Nat
  efficiency : Nat
  minCurrent : Nat
  step : Nat
  slew : Nat
  zone1Factor : Nat
  zone2Factor : Nat
  fanFaultFactor : Nat
  criticalSoc : Nat
  shutdownSoc : Nat
  batteryGrace : Nat
  allocOn : Nat
  allocOther : Nat
  refresh : Nat
  chargerAddress : Pair Nat
  cmdCurrent : Nat
  cmdVoltage : Nat
  cmdInputVoltage : Nat
  cmdSystemCurrent : Nat
  packAddress : Pair Nat
  pollOn : Nat
  pollOther : Nat
  skinAddress : Nat
  powerUpTimeout : Nat
  powerDownTimeout : Nat
  restartOffTime : Nat
  overrideHold : Nat
  buttonDebounce : Nat
  lidFoldDebounce : Nat
  adapterDebounce : Nat
  deriving DecidableEq, Repr

/-- A point of a fan curve (R101): temperature and duty. -/
structure Point where
  temp : Int
  duty : Nat
  deriving DecidableEq, Repr

/-- A FANCURVE entry (R106); `sources` has bits 0 to 6 for D0, D1, D2, D3, S, PA, PB, and `offsets`
one offset for each in that order. -/
structure FanTab where
  points : List Point
  sources : Nat
  offsets : List Int
  hysteresis : Nat
  boostFloor : Nat
  closedCap : Nat
  heatAddition : Nat
  heatThreshold : Nat
  minStart : Nat
  decreaseStep : Nat
  stallCheckDuty : Nat
  stallSpeed : Nat
  deriving DecidableEq, Repr

/-- The THERMAL record (R107). -/
structure ThermalTab where
  zone1 : Nat
  zone2 : Nat
  zone3 : Nat
  zoneHysteresis : Nat
  hostTimeout : Nat
  failSafe : Nat
  dieCritical : Nat
  skinCritical : Nat
  criticalHysteresis : Nat
  criticalGrace : Nat
  skinCommand : Nat
  deriving DecidableEq, Repr

/-- The access field of a FILTER entry (R152). -/
inductive Access where
  | read
  | write
  | both
  deriving DecidableEq, Repr

/-- The action of a FILTER entry (R152). -/
inductive FilterAction where
  | pass
  | deny
  | shadow
  deriving DecidableEq, Repr

/-- A FILTER entry (R152). -/
structure FilterEntry where
  valid : Bool
  seg : Seg
  address : Nat
  first : Nat
  last : Nat
  access : Access
  action : FilterAction
  deriving DecidableEq, Repr

/-- A WAKE entry (R130). -/
structure WakeEntry where
  inSleep : Bool
  inOff : Bool
  deliver : Bool
  deriving DecidableEq, Repr

/-- The SETTINGS record (R171); `noticeMask` has bit n for notice class n. -/
structure SettingsTab where
  ceilingEnable : Bool
  ceiling : Nat
  boost : Bool
  fnLock : Bool
  noticeMask : BitVec 16
  prioResponse : Nat
  prioKey : Nat
  prioNotice : Nat
  prioBattery : Nat
  prioThermal : Nat
  deriving DecidableEq, Repr

/-- What the TST holds: the contents of the eleven tables, and one reservation flag and one lock flag
per table, at the index of its id less 1. -/
structure Tst where
  scan : ScanTab
  keymap : List KeymapEntry
  profile : List ProfileTab
  power : PowerTab
  adapter : List Nat
  itemmap : List Nat
  fancurve : Pair FanTab
  thermal : ThermalTab
  filter : List FilterEntry
  wake : List WakeEntry
  settings : SettingsTab
  reserved : List Bool
  locked : List Bool
  deriving DecidableEq, Repr

/-! ## Platform Link Interface (chapter 10) -/

/-- A frame as received: its header fields and its payload (R195). -/
structure Frame where
  channel : Nat
  kind : Nat
  tag : Byte
  payload : List Byte
  deriving DecidableEq, Repr

/-- The statuses of a response (00_scope.md, Requests and responses). -/
inductive Status where
  | ok
  | busy
  | locked
  | stale
  | badRequest
  | unsupported
  | denied
  | absent
  | addrNack
  | dataNack
  | timeout
  | segReset
  | segFault
  deriving DecidableEq, Repr

/-- A built response: status, CLAMPED flag and data (R179). -/
structure Response where
  status : Status
  clamped : Bool
  data : List Byte
  deriving DecidableEq, Repr

/-- The state of a response slot (R179). -/
inductive SlotState where
  | free
  | waiting
  | ready
  | sending
  deriving DecidableEq, Repr

/-- A response slot. -/
structure Slot where
  state : SlotState
  channel : Nat
  kind : Nat
  tag : Byte
  response : Option Response
  deriving DecidableEq, Repr

/-- The source of an upstream frame (section 10.8); a response names its slot. -/
inductive TxSource where
  | response (slot : Nat)
  | key
  | notice
  | battery
  | thermal
  deriving DecidableEq, Repr

/-- The frame being sent: its source and its bytes, CRC included. -/
structure TxFrame where
  source : TxSource
  bytes : List Byte
  deriving DecidableEq, Repr

/-- What the PLI holds.  `linkUp` is the link state. -/
structure Pli where
  linkUp : Bool
  rx : List Frame
  slots : List Slot
  /-- the READY slots in the order they became READY -/
  readyOrder : List Nat
  tx : Option TxFrame
  seqKey : Nat
  seqNotice : Nat
  seqBattery : Nat
  seqThermal : Nat
  powerOn : Bool
  deriving DecidableEq, Repr

/-! ## Notice and Stream Unit (chapter 11) -/

/-- The cause of a LINK_ERROR (R175, R176). -/
inductive LinkCause where
  | length
  | crc
  | overflow
  deriving DecidableEq, Repr

/-- The kind of a SEGMENT_EVENT (R160). -/
inductive SegEvent where
  | fault
  | recovered
  | seqTimeout
  deriving DecidableEq, Repr

/-- A notice: its class and the payload of its class (R188). -/
inductive Notice where
  | linkUp (source : Option WakeSource) (cause : Cause) (powerFault : Bool)
  | linkError (cause : LinkCause)
  | keyOverrun
  | actionLocked (action : Nat)
  | button (sleep : Bool)
  | posture (old new : Posture)
  | packChange (k : Pack) (st : PackState)
  | chargeStage (k : Pack) (old new : Stage)
  | adapterChange (present : Bool) (cls : Nat) (rated : Nat)
  | batteryCritical (soc : Nat)
  | fanFault (f : Fan) (fault : Bool)
  | thermalZone (old new : Nat) (skin : Int)
  | thermalCritical (source : Nat) (value : Int)
  | thermalInputLost (skin : Bool)
  | segmentEvent (g : Seg) (kind : SegEvent)
  | settingsChanged (field : Nat) (value : Bool)
  deriving DecidableEq, Repr

/-- A built status frame in a stream's slot: the remaining count and the flags it carries, and the
record (R193). -/
structure StatusFrame where
  remaining : Nat
  skipped : Bool
  half : Bool
  complete : Bool
  record : List Byte
  deriving DecidableEq, Repr

/-- A status stream (R192).  `timer` runs exactly while the stream is RUNNING. -/
structure Stream where
  running : Bool
  periodMs : Nat
  count : Nat
  circular : Bool
  remaining : Nat
  timer : Option Timer
  slot : Option StatusFrame
  deriving DecidableEq, Repr

/-- What the NSU holds. -/
structure Nsu where
  /-- the notice queue, head first -/
  queue : List Notice
  /-- the pending summary: bit n for notice class n -/
  summary : BitVec 16
  streams : Pair Stream
  deriving DecidableEq, Repr

/-! ## The input lines -/

/-- The levels of the part's input lines as last seen.  They belong to the board: no reset of the part
changes them. -/
structure Pins where
  straps : Profile
  /-- bit p: the path of position p reads closed -/
  keys : BitVec 148
  lidClosed : Bool
  foldFolded : Bool
  buttonPressed : Bool
  adapterPresent : Bool
  adapterClass : BitVec 4
  /-- the wake line reads low, its ACTIVE level -/
  wakeLow : Bool
  presence : Pair Bool
  powerGood : Bool
  /-- the platform reset input is asserted -/
  platformReset : Bool
  txPermit : Bool
  /-- the clock and the data line of each segment read high -/
  clockHigh : Pair Bool
  dataHigh : Pair Bool
  deriving DecidableEq, Repr

/-! ## The part and the machine -/

/-- The part: its board profile, its lines and its twelve blocks; and, the model's own and no part of the
spec's state, how many free values have been drawn so far (log entry 37). -/
structure Dev where
  profile : Profile
  pins : Pins
  mse : Mse
  ktu : Ktu
  pkm : Pair PackMonitor
  chg : Chg
  tfu : Tfu
  ppu : Ppu
  wku : Wku
  segs : Pair Segment
  tst : Tst
  pli : Pli
  nsu : Nsu
  /-- the draws of `Config.takeFirst` so far -/
  draws : Nat
  deriving DecidableEq, Repr

end Sys2Proof.Machine
end

