-- ==== Sys2Proof/Machine/Defaults.lean ====
section
/-!
DEFINITION. The values that a power-on reset gives: the built-in defaults of the eleven tables and the
reset values of every block, each by the rule its docstring names.
-/

namespace Sys2Proof.Machine

/-! ## Empty records -/

/-- The position record of R20: UP, counter 0, flags clear. -/
def PosRec.up : PosRec := ⟨false, 0, false, false⟩

/-- The ABSENT record (R44, R47). -/
def PackRecord.empty : PackRecord := ⟨.absent, none, none, false, 0, 0⟩

/-- An ABSENT source. -/
def Source.gone : Source := ⟨0, .absent⟩

/-- A FREE slot. -/
def Slot.empty : Slot := ⟨.free, 0, 0, 0, none⟩

/-! ## Tables and blocks -/

/-- The SCAN defaults (R17). -/
def ScanTab.default : ScanTab := ⟨16, 8, 1, 16, 3, 5, false⟩

/-- The built-in KEYMAP entry at an index (R22): in layer 0 position p has CODE p + 1, in layers 1 and
2 every entry is TRANSPARENT; no wake mark. -/
def KeymapEntry.default (i : Nat) : KeymapEntry :=
  ⟨if i < Config.positions then .code (i + 1) else .transparent, false⟩

/-- The PROFILE defaults, the same for every class (R84). -/
def ProfileTab.default : ProfileTab :=
  ⟨3000, 128, 512, 4100, 64, 15, 95, 5, 300, 1,
    [⟨10, 45, 100, 0⟩, ⟨0, 0, 100, 0⟩, ⟨0, 0, 100, 0⟩, ⟨0, 0, 100, 0⟩]⟩

/-- The POWER defaults (R48, R85, R107, R127). -/
def PowerTab.default : PowerTab where
  derate := 90
  guard := 2000
  efficiency := 90
  minCurrent := 128
  step := 32
  slew := 256
  zone1Factor := 75
  zone2Factor := 50
  fanFaultFactor := 50
  criticalSoc := 5
  shutdownSoc := 2
  batteryGrace := 60000
  allocOn := 500
  allocOther := 2000
  refresh := 10000
  chargerAddress := ⟨0x09, 0x09⟩
  cmdCurrent := 0x22
  cmdVoltage := 0x23
  cmdInputVoltage := 0x30
  cmdSystemCurrent := 0x31
  packAddress := ⟨0x0B, 0x0B⟩
  pollOn := 1000
  pollOther := 10000
  skinAddress := 0x48
  powerUpTimeout := 2000
  powerDownTimeout := 1000
  restartOffTime := 500
  overrideHold := 4000
  buttonDebounce := 30
  lidFoldDebounce := 50
  adapterDebounce := 200

/-- The FANCURVE defaults, the same for both fans (R106). -/
def FanTab.default : FanTab where
  points := [⟨40, 20⟩, ⟨60, 50⟩, ⟨80, 100⟩, ⟨0, 0⟩, ⟨0, 0⟩, ⟨0, 0⟩, ⟨0, 0⟩, ⟨0, 0⟩]
  sources := 127
  offsets := [0, 0, 0, 0, 0, 0, 0]
  hysteresis := 4
  boostFloor := 60
  closedCap := 40
  heatAddition := 10
  heatThreshold := 1000
  minStart := 25
  decreaseStep := 5
  stallCheckDuty := 30
  stallSpeed := 300

/-- The THERMAL defaults (R107). -/
def ThermalTab.default : ThermalTab := ⟨45, 50, 55, 2, 3000, 95, 105, 60, 5, 10000, 0⟩

/-- The FILTER default (R152). -/
def FilterEntry.default : FilterEntry := ⟨false, .seg0, 0, 0, 0, .read, .deny⟩

/-- The WAKE defaults, by source number (R130). -/
def WakeEntry.defaults : List WakeEntry :=
  [⟨true, true, false⟩, ⟨true, false, false⟩, ⟨true, false, false⟩, ⟨false, false, false⟩,
    ⟨false, false, false⟩, ⟨true, false, false⟩, ⟨true, false, false⟩]

/-- The SETTINGS defaults (R171). -/
def SettingsTab.default : SettingsTab := ⟨false, 80, false, false, 0xFFFF, 3, 3, 2, 1, 1⟩

/-- The TST after power-on reset (R173). -/
def Tst.reset : Tst where
  scan := ScanTab.default
  keymap := (List.range (3 * Config.positions)).map KeymapEntry.default
  profile := List.replicate 4 ProfileTab.default
  power := PowerTab.default
  adapter := List.replicate 16 45000
  itemmap := (List.range 11).map (0x40 + ·)
  fancurve := Pair.both FanTab.default
  thermal := ThermalTab.default
  filter := List.replicate 24 FilterEntry.default
  wake := WakeEntry.defaults
  settings := SettingsTab.default
  reserved := List.replicate 11 false
  locked := List.replicate 11 false

/-- A timer started with a time in ms. -/
def Timer.ofMs (ms : Nat) : Timer := ⟨ms * 1000, ms * 1000⟩

/-- The MSE after power-on reset (R20); the scan timer is stopped, as R3 gives for OFF and the default
WAKE. -/
def Mse.reset : Mse :=
  ⟨List.replicate Config.positions PosRec.up, [], false, .gated, none⟩

/-- The KTU after power-on reset (R42). -/
def Ktu.reset : Ktu := ⟨List.replicate Config.positions none, [], 0, false, [], .idle, none⟩

/-- A debounced input as its wait starts from a line's level (R60, R110, R128): a wait for a level
that is not the accepted one. -/
def Debounce.start (accepted : Option Bool) (ms : Nat) (level : Bool) : Debounce :=
  ⟨accepted, if accepted = some level then none else some (level, Timer.ofMs ms)⟩

/-- The PKM of one pack after power-on reset, fitted or not, with its presence line at a level (R60): the
presence INACTIVE, and the wait of a fitted pack started from its line (R46).  The cycle copy has no meaning
while no cycle runs; its reset value is the model's (log entry 2). -/
def PackMonitor.reset (fitted level : Bool) : PackMonitor where
  record := PackRecord.empty
  presence := Debounce.start (some false) Config.presenceDebounceMs (fitted && level)
  cycle := none
  staged := []
  copyAddress := 0
  copyCommands := []
  outstanding := false
  orphan := false
  pollTimer := none
  ageTick := none

/-- The CHG of one pack after power-on reset (R86). -/
def ChargePack.reset : ChargePack := ⟨.none, 0, 0, 0, 0, .idle, false, false⟩

/-- The CHG after power-on reset (R86): the allocation and refresh timers start with the defaults, in
OFF. -/
def Chg.reset : Chg where
  adapter := none
  vIn := none
  iSys := none
  inputFailures := 0
  reader := .idle
  allocTimer := some (Timer.ofMs PowerTab.default.allocOther)
  packs := Pair.both ChargePack.reset
  headroom := 0
  refreshTimer := some (Timer.ofMs PowerTab.default.refresh)
  systemSoc := none
  lowMark := false
  graceTimer := none

/-- A fan after power-on reset (R108); only a fitted fan has an update timer and a tach window.  The stall
fields in force are the FANCURVE defaults (R106; DEDUCED, log entry 22). -/
def FanState.reset (fitted : Bool) : FanState where
  eval := -40
  duty := 0
  updateTimer := if fitted then some (Timer.ofMs Config.fanUpdateMs) else none
  pulses := 0
  windowTimer := if fitted then some (Timer.ofMs Config.tachWindowMs) else none
  lastRpm := 0
  lowDuty := false
  fault := false
  stallCount := 0
  recoveryCount := 0
  stallCheckDuty := FanTab.default.stallCheckDuty
  stallSpeed := FanTab.default.stallSpeed

/-- The TFU after power-on reset (R108). -/
def Tfu.reset (p : Profile) : Tfu where
  die := List.replicate 4 Source.gone
  skin := Source.gone
  pack := Pair.both none
  hostTimer := .stopped
  skinTimer := some (Timer.ofMs Config.skinReadMs)
  skinReading := false
  skinFailures := 0
  zone := 0
  critical := false
  graceTimer := none
  fans := ⟨FanState.reset true, FanState.reset p.twoFans⟩

/-- The PPU after power-on reset with these lines (R128): lid and fold without an accepted level, the
button RELEASED, adapter-present INACTIVE, every wait started from its line. -/
def Ppu.reset (pins : Pins) : Ppu where
  lid := Debounce.start none PowerTab.default.lidFoldDebounce pins.lidClosed
  fold := Debounce.start none PowerTab.default.lidFoldDebounce pins.foldFolded
  posture := .unknown
  button := Debounce.start (some false) PowerTab.default.buttonDebounce pins.buttonPressed
  overrideTimer := none
  adapter := Debounce.start (some false) PowerTab.default.adapterDebounce pins.adapterPresent
  power := .off
  transition := none
  request := none
  restartPending := false
  restartTimer := none
  wakeLatch := false
  cause := .none

/-- The WKU after power-on reset (R142): the wake line's accepted level INACTIVE with no wait running, so the
wait for a line held low starts with the time that passes next (R135). -/
def Wku.reset : Wku := ⟨none, 0, .none, false, ⟨some false, none⟩⟩

/-- A segment after power-on reset (R159).  DESIGN CHOICE (log entry 41): the arrival order that the first
record takes is 0, for which the spec gives no value. -/
def Segment.reset : Segment := ⟨.idle, [], 0, none, .noSeq, [], false, false⟩

/-- The PLI after power-on reset (R185). -/
def Pli.reset : Pli where
  linkUp := false
  rx := []
  slots := List.replicate Config.slots Slot.empty
  readyOrder := []
  tx := none
  seqKey := 0
  seqNotice := 0
  seqBattery := 0
  seqThermal := 0
  powerOn := true

/-- A stream after power-on reset (R194). -/
def Stream.reset : Stream := ⟨false, 1000, 1, false, 0, none, none⟩

/-- The NSU after power-on reset (R190, R191, R194). -/
def Nsu.reset : Nsu := ⟨[], 0, Pair.both Stream.reset⟩

/-- The part after power-on reset with these lines; the straps give the board profile, and the
debounce waits start from their lines. -/
def Dev.powerOn (pins : Pins) : Dev where
  profile := pins.straps
  pins := pins
  mse := Mse.reset
  ktu := Ktu.reset
  pkm := ⟨PackMonitor.reset true pins.presence.one,
    PackMonitor.reset pins.straps.twoPacks pins.presence.two⟩
  chg := Chg.reset
  tfu := Tfu.reset pins.straps
  ppu := Ppu.reset pins
  wku := Wku.reset
  segs := Pair.both Segment.reset
  tst := Tst.reset
  pli := Pli.reset
  nsu := Nsu.reset
  draws := 0

/-- The lines of a board at rest: two packs, two fans and side buttons strapped, nothing pressed, no
pack and no adapter, the lid open and not folded, the segments' lines released.  DESIGN CHOICE (log
entry 1): the spec gives the lines no value. -/
def Pins.rest : Pins where
  straps := ⟨true, true, true⟩
  keys := 0
  lidClosed := false
  foldFolded := false
  buttonPressed := false
  adapterPresent := false
  adapterClass := 0
  wakeLow := false
  presence := Pair.both false
  powerGood := false
  platformReset := false
  txPermit := false
  clockHigh := Pair.both true
  dataHigh := Pair.both true

end Sys2Proof.Machine
end

