-- ==== Sys2Proof/Machine/State.lean ====
section
/-!
DEFINITION. The state of the machine: the part (its types stand in Machine/Types.lean, the values a
power-on reset gives in Machine/Defaults.lean) and the queue of commands that wait, with the two ways a
step could stop and the state after reset.
-/

namespace Sys2Proof.Machine

/-- The machine: the part, and the commands that wait for it, first in, first out. -/
structure State where
  dev : Dev
  pending : List Instr
  deriving DecidableEq, Repr

/-- Why the machine would stop with a fault.  The spec gives every event of the part an effect and
leaves no result undefined, so no meaning stops so and the type has no constructor. -/
inductive Fault where
  deriving DecidableEq, Repr

/-- Why the model would give a command no meaning. -/
inductive Refusal where
  /-- A command whose arm of `exec` has no meaning yet; raised by no meaning.  Safe: the run stops. -/
  | notModelled (mnemonic : String)
  deriving DecidableEq, Repr

/-- The machine right after power-on reset: the part at its power-on values on a board at rest, and no
command waiting. -/
def State.reset : State := ⟨Dev.powerOn Pins.rest, []⟩

end Sys2Proof.Machine
end

