-- ==== Sys2Proof/Machine/Operands.lean ====
section
/-!
DEFINITION. How numbers stand in bytes: the little-endian and two's-complement readings of chapter 12,
the packing of bit fields, saturation, and the CRC of the Platform Link.
-/

namespace Sys2Proof.Machine

/-- The byte at an index, as a number; 0 beyond the end. -/
def byteAt (bs : List Byte) (i : Nat) : Nat := (bs.getD i 0).toNat

/-- The unsigned number of the bytes, least significant first (00_scope.md, Byte order). -/
def leNat : List Byte → Nat
  | [] => 0
  | b :: bs => b.toNat + 256 * leNat bs

/-- The low bytes of a number, least significant first. -/
def leBytes : Nat → Nat → List Byte
  | 0, _ => []
  | n + 1, v => BitVec.ofNat 8 v :: leBytes n (v / 256)

/-- The two's-complement reading of an unsigned number of that many bytes. -/
def signedOf (bytes v : Nat) : Int :=
  if v < 2 ^ (8 * bytes - 1) then (v : Int) else (v : Int) - (2 ^ (8 * bytes) : Nat)

/-- The unsigned number of that many bits that carries an integer in two's complement. -/
def twosOf (bits : Nat) (x : Int) : Nat := (x % ((2 ^ bits : Nat) : Int)).toNat

/-- The unsigned 16-bit number at an index (R195). -/
def u16At (bs : List Byte) (i : Nat) : Nat := leNat [bs.getD i 0, bs.getD (i + 1) 0]

/-- The signed 16-bit number at an index (R195). -/
def s16At (bs : List Byte) (i : Nat) : Int := signedOf 2 (u16At bs i)

/-- A signed number in two bytes. -/
def s16Bytes (x : Int) : List Byte := leBytes 2 (twosOf 16 x)

/-- A truth value as a bit. -/
def bitOf (b : Bool) : Nat := if b then 1 else 0

/-- Bit fields, lowest first, each a width and a value, as one number (R196). -/
def packBits : List (Nat × Nat) → Nat
  | [] => 0
  | (w, v) :: rest => v % 2 ^ w + 2 ^ w * packBits rest

/-- Saturation to a range: a value beyond it takes the nearest end (R49, R89, R165). -/
def saturate (lo hi x : Int) : Int := max lo (min hi x)

/-- Saturation of an unsigned value. -/
def saturateNat (hi x : Nat) : Nat := min hi x

/-- The quotient rounded up. -/
def ceilDiv (a b : Nat) : Nat := (a + (b - 1)) / b

/-- One shift of the CRC-8 register with the polynomial x⁸ + x² + x + 1 (R175). -/
def crcShift (c : Byte) : Byte := if c.msb then (c <<< 1) ^^^ 0x07 else c <<< 1

/-- The CRC-8 register after one byte, taken from its most significant bit (R175). -/
def crcByte (c b : Byte) : Byte := Nat.repeat crcShift 8 (c ^^^ b)

/-- The CRC-8 of the bytes: initial value 0, no reflection, no final inversion (R175). -/
def crc8 (bs : List Byte) : Byte := bs.foldl crcByte 0

/-- The bytes of a frame with these header fields and payload: channel in bits 0 to 2 and kind in bits
3 to 6 of byte 0, bit 7 sent as 0; tag; payload length; payload; CRC (R195). -/
def frameBytes (channel kind : Nat) (tag : Byte) (payload : List Byte) : List Byte :=
  let body := [BitVec.ofNat 8 (packBits [(3, channel), (4, kind)]), tag,
    BitVec.ofNat 8 payload.length] ++ payload
  body ++ [crc8 body]

end Sys2Proof.Machine
end

