-- ==== Sys2Proof/Machine/Flags.lean ====
section
/-!
DEFINITION. The codes and flag bytes of chapter 12: statuses with CLAMPED, states, causes, sets and
notices as the link carries them.
-/

namespace Sys2Proof.Machine

/-- The status codes (R195). -/
def Status.code : Status → Nat
  | .ok => 0
  | .busy => 1
  | .locked => 2
  | .stale => 3
  | .badRequest => 4
  | .unsupported => 5
  | .denied => 6
  | .absent => 7
  | .addrNack => 8
  | .dataNack => 9
  | .timeout => 10
  | .segReset => 11
  | .segFault => 12

/-- The status that a completion is answered with (R151). -/
def Completion.status : Completion → Status
  | .ok _ => .ok
  | .addrNack => .addrNack
  | .dataNack => .dataNack
  | .timeout => .timeout
  | .segReset => .segReset
  | .segFault => .segFault

/-- A RESPONSE payload: status in bits 0 to 3 and CLAMPED in bit 7, then the data of an OK answer
(R195). -/
def Response.bytes (r : Response) : List Byte :=
  BitVec.ofNat 8 (packBits [(4, r.status.code), (3, 0), (1, bitOf r.clamped)]) ::
    (if r.status = .ok then r.data else [])

/-- The index of a wake source in WAKE and in every set of sources (section 7.1). -/
def WakeSource.index : WakeSource → Nat
  | .powerButton => 0
  | .lidOpen => 1
  | .key => 2
  | .sideButton => 3
  | .adapterChange => 4
  | .batteryCritical => 5
  | .wakeLine => 6

/-- The last wake source as WAKE_STATUS_READ codes it (R195). -/
def wakeSourceCode : Option WakeSource → Nat
  | none => 255
  | some w => w.index

/-- The shutdown cause as WAKE_STATUS_READ codes it (R195). -/
def Cause.code : Cause → Nat
  | .none => 0
  | .hostRequest => 1
  | .buttonOverride => 2
  | .thermal => 3
  | .battery => 4

/-- The posture codes of a POSTURE notice (R196). -/
def Posture.code : Posture → Nat
  | .unknown => 0
  | .opened => 1
  | .tablet => 2
  | .closed => 3

/-- The pack state codes (R196). -/
def PackState.code : PackState → Nat
  | .absent => 0
  | .identifying => 1
  | .ready => 2
  | .commLost => 3
  | .unsupported => 4

/-- The stage codes (R196). -/
def Stage.code : Stage → Nat
  | .none => 0
  | .precharge => 1
  | .fast => 2
  | .topoff => 3
  | .full => 4
  | .hold => 5
  | .inhibit => 6
  | .fault => 7

/-- The condition codes of the THERMAL record (R196). -/
def Condition.code : Condition → Nat
  | .absent => 0
  | .real => 1
  | .failSafe => 2

/-- The matrix scan state codes of the KEYBOARD record (R196). -/
def ScanState.code : ScanState → Nat
  | .gated => 0
  | .baseline => 1
  | .active => 2

/-- The causes of LINK_ERROR (R196). -/
def LinkCause.code : LinkCause → Nat
  | .length => 0
  | .crc => 1
  | .overflow => 2

/-- The kinds of SEGMENT_EVENT (R196). -/
def SegEvent.code : SegEvent → Nat
  | .fault => 0
  | .recovered => 1
  | .seqTimeout => 2

/-- The class of a notice, numbered in the order of the class table (R188, R196). -/
def Notice.cls : Notice → Nat
  | .linkUp .. => 0
  | .linkError .. => 1
  | .keyOverrun => 2
  | .actionLocked .. => 3
  | .button .. => 4
  | .posture .. => 5
  | .packChange .. => 6
  | .chargeStage .. => 7
  | .adapterChange .. => 8
  | .batteryCritical .. => 9
  | .fanFault .. => 10
  | .thermalZone .. => 11
  | .thermalCritical .. => 12
  | .thermalInputLost .. => 13
  | .segmentEvent .. => 14
  | .settingsChanged .. => 15

/-- A number as one byte. -/
def byteOf (n : Nat) : Byte := BitVec.ofNat 8 n

/-- The fields of a notice after its class code (R196). -/
def Notice.fields : Notice → List Byte
  | .linkUp w c p => [byteOf (wakeSourceCode w), byteOf c.code, byteOf (bitOf p)]
  | .linkError c => [byteOf c.code]
  | .keyOverrun => []
  | .actionLocked a => [byteOf a]
  | .button sleep => [byteOf (bitOf sleep)]
  | .posture o n => [byteOf o.code, byteOf n.code]
  | .packChange k st => [byteOf (bitOf k.ix), byteOf st.code]
  | .chargeStage k o n => [byteOf (bitOf k.ix), byteOf o.code, byteOf n.code]
  | .adapterChange p c r => byteOf (bitOf p) :: byteOf c :: leBytes 4 r
  | .batteryCritical soc => [byteOf soc]
  | .fanFault f b => [byteOf (bitOf f.ix), byteOf (bitOf b)]
  | .thermalZone o n s => byteOf o :: byteOf n :: s16Bytes s
  | .thermalCritical src v => byteOf src :: s16Bytes v
  | .thermalInputLost skin => [byteOf (bitOf skin)]
  | .segmentEvent g e => [byteOf (bitOf g.ix), byteOf e.code]
  | .settingsChanged f v => [byteOf f, byteOf (bitOf v)]

/-- A NOTICE payload: the class code and the class's fields (R196). -/
def Notice.bytes (n : Notice) : List Byte := byteOf n.cls :: n.fields

/-- A KEY_REPORT record: usage code and flag byte with bit 0 direction (1 RELEASE), bit 1 SYNTHESIZED,
bit 2 ROLLOVER (R196). -/
def KeyReport.bytes (r : KeyReport) : List Byte :=
  leBytes 2 r.code ++
    [byteOf (packBits [(1, bitOf r.release), (1, bitOf r.synthesized), (1, bitOf r.rollover)])]

/-- A BATTERY_STATUS or THERMAL_STATUS payload: remaining count, flag byte with bit 0 SKIPPED, bit 1
HALF, bit 2 COMPLETE, and the record (R196). -/
def StatusFrame.bytes (f : StatusFrame) : List Byte :=
  leBytes 2 f.remaining ++
    [byteOf (packBits [(1, bitOf f.skipped), (1, bitOf f.half), (1, bitOf f.complete)])] ++ f.record

/-- The flags of a pack status word: EMPTY in bit 3, FULL in bit 4, TERMINATE in bit 5, OVER_TEMP in
bit 6, OVER_CHARGE in bit 7 (R196); the other bits are dropped (R49). -/
def PackStatus.ofWord (w : Nat) : PackStatus where
  empty := w.testBit 3
  full := w.testBit 4
  terminate := w.testBit 5
  overTemp := w.testBit 6
  overCharge := w.testBit 7

/-- The status word a SHADOW answer gives: the five flags, every other bit 0 (R59, R196). -/
def PackStatus.word (s : PackStatus) : Nat :=
  packBits [(3, 0), (1, bitOf s.empty), (1, bitOf s.full), (1, bitOf s.terminate),
    (1, bitOf s.overTemp), (1, bitOf s.overCharge)]

end Sys2Proof.Machine
end

