-- ==== Sys2Proof/Machine/Tables.lean ====
section
/-!
DEFINITION. The eleven tables: ids, sizes, the layout of each entry on the link, and the adjustment of
written values (R161, R165, R197).

An entry whose fields are plain numbers is described by a list of `FieldKind`s in byte order; KEYMAP,
FILTER and WAKE entries are read bit by bit.  An entry written is read raw, adjusted, and stored; each
adjustment of a field sets CLAMPED.
-/

namespace Sys2Proof.Machine

/-! ## Table ids and sizes -/

/-- The id of a table (R161). -/
def TableId.id : TableId → Nat
  | .scan => 1
  | .keymap => 2
  | .profile => 3
  | .power => 4
  | .adapter => 5
  | .itemmap => 6
  | .fancurve => 7
  | .thermal => 8
  | .filter => 9
  | .wake => 10
  | .settings => 11

/-- The table that an id names (R161). -/
def TableId.ofId (n : Nat) : Option TableId :=
  [TableId.scan, .keymap, .profile, .power, .adapter, .itemmap, .fancurve, .thermal, .filter, .wake,
    .settings].find? (fun t => t.id == n)

/-- The number of entries of a table (R161). -/
def TableId.entries : TableId → Nat
  | .scan => 1
  | .keymap => 444
  | .profile => 4
  | .power => 1
  | .adapter => 16
  | .itemmap => 11
  | .fancurve => 2
  | .thermal => 1
  | .filter => 24
  | .wake => 7
  | .settings => 1

/-- The entry size of a table in bytes (R161). -/
def TableId.entrySize : TableId → Nat
  | .scan => 8
  | .keymap => 4
  | .profile => 36
  | .power => 52
  | .adapter => 4
  | .itemmap => 1
  | .fancurve => 44
  | .thermal => 14
  | .filter => 4
  | .wake => 1
  | .settings => 12

/-! ## Fields of plain numbers -/

/-- What a field of a table entry holds: a number with a range, an enumerated value with the number of
its codes and its default, a set of so many bits, or bytes assigned to no field (R165, R197). -/
inductive FieldKind where
  | num (lo hi : Int)
  | enum (codes : Nat) (dflt : Int)
  | bits (width : Nat)
  | pad
  deriving DecidableEq, Repr

/-- A field: its size in bytes and what it holds. -/
abbrev FieldSpec := Nat × FieldKind

/-- A field read from its bytes: signed when its range is negative, reduced to the bits that are
assigned (R197). -/
def readField (f : FieldSpec) (bs : List Byte) : Int :=
  let v := leNat (bs.take f.1)
  match f.2 with
  | .num lo _ => if lo < 0 then signedOf f.1 v else (v : Int)
  | .enum _ _ => (v : Int)
  | .bits w => ((v % 2 ^ w : Nat) : Int)
  | .pad => 0

/-- The bytes of a field. -/
def writeField (f : FieldSpec) (x : Int) : List Byte := leBytes f.1 (twosOf (8 * f.1) x)

/-- A field's value adjusted: a number beyond its range takes the nearest end, an undefined code the
field's default (R165). -/
def adjustField (f : FieldSpec) (x : Int) : Int :=
  match f.2 with
  | .num lo hi => saturate lo hi x
  | .enum n d => if 0 ≤ x ∧ x < (n : Int) then x else d
  | .bits _ => x
  | .pad => 0

/-- The fields of an entry read in byte order. -/
def readFields : List FieldSpec → List Byte → List Int
  | [], _ => []
  | f :: fs, bs => readField f bs :: readFields fs (bs.drop f.1)

/-- The bytes of an entry from its fields. -/
def writeFields : List FieldSpec → List Int → List Byte
  | [], _ => []
  | f :: fs, xs => writeField f (xs.headD 0) ++ writeFields fs xs.tail

/-- Every field adjusted on its own. -/
def adjustFields : List FieldSpec → List Int → List Int
  | [], _ => []
  | f :: fs, xs => adjustField f (xs.headD 0) :: adjustFields fs xs.tail

/-- Bytes filled with zeros, or cut, to an entry size (R197). -/
def fillTo (n : Nat) (bs : List Byte) : List Byte := (bs ++ List.replicate n 0).take n

/-- A number field with a range that is not negative. -/
def numF (size lo hi : Nat) : FieldSpec := (size, .num lo hi)
/-- A number field with a signed range. -/
def intF (size : Nat) (lo hi : Int) : FieldSpec := (size, .num lo hi)
/-- A switch: 0 off, 1 on, default off (R197). -/
def switchF : FieldSpec := (1, .enum 2 0)

/-- The natural number at an index of a field list. -/
def natAt (xs : List Int) (i : Nat) : Nat := (xs.getD i 0).toNat
/-- The switch at an index of a field list. -/
def boolAt (xs : List Int) (i : Nat) : Bool := xs.getD i 0 == 1

/-! ## SCAN (R17) -/

/-- SCAN's fields (R17, R197).  DESIGN CHOICE (log entry 44): sleep_period is carried in ms, in one byte with a
zero byte after the seven fields; 00_scope.md keeps the scan periods in whole µs, and the spec does not say
which unit the link carries. -/
def scanFields : List FieldSpec :=
  [numF 1 1 18, numF 1 1 8, (1, .enum 5 1), numF 1 8 64, numF 1 1 15, numF 1 1 15, switchF]

/-- SCAN from its field list. -/
def ScanTab.ofList (x : List Int) : ScanTab :=
  ⟨natAt x 0, natAt x 1, natAt x 2, natAt x 3, natAt x 4, natAt x 5, boolAt x 6⟩

/-- SCAN as a field list. -/
def ScanTab.toList (t : ScanTab) : List Int :=
  [t.driveLines, t.senseLines, t.onPeriod, t.sleepPeriod, t.pressCount, t.releaseCount,
    bitOf t.diodeMatrix]

/-- sleep_period rounded down to a multiple of 8 ms (R17). -/
def ScanTab.adjust (t : ScanTab) : ScanTab := { t with sleepPeriod := t.sleepPeriod / 8 * 8 }

/-! ## PROFILE (R84) -/

/-- PROFILE's fields. -/
def profileFields : List FieldSpec :=
  [numF 2 2000 3500, numF 2 0 2000, numF 2 0 8000, numF 2 3000 4600, numF 2 0 1000, numF 1 0 200,
    numF 1 50 100, numF 1 2 20, numF 2 10 1440, numF 1 1 4] ++
  (List.replicate 4 [intF 1 (-20) 80, intF 1 (-20) 80, numF 1 0 100, numF 2 0 500]).flatten

/-- A PROFILE entry from its field list. -/
def ProfileTab.ofList (x : List Int) : ProfileTab where
  prechargeThreshold := natAt x 0
  prechargeCurrent := natAt x 1
  fastCurrent := natAt x 2
  chargeVoltage := natAt x 3
  terminationCurrent := natAt x 4
  topoffWindow := natAt x 5
  rechargeSoc := natAt x 6
  ceilingHysteresis := natAt x 7
  fastChargeTime := natAt x 8
  bandCount := natAt x 9
  bands := (List.range 4).map fun b =>
    ⟨x.getD (10 + 4 * b) 0, x.getD (11 + 4 * b) 0, natAt x (12 + 4 * b), natAt x (13 + 4 * b)⟩

/-- A PROFILE entry as a field list. -/
def ProfileTab.toList (t : ProfileTab) : List Int :=
  [(t.prechargeThreshold : Int), t.prechargeCurrent, t.fastCurrent, t.chargeVoltage,
    t.terminationCurrent, t.topoffWindow, t.rechargeSoc, t.ceilingHysteresis, t.fastChargeTime,
    t.bandCount] ++ (t.bands.map fun b => [b.low, b.high, (b.factor : Int), (b.reduction : Int)]).flatten

/-- A band whose high lies below its low is stored with high equal to low (R84). -/
def ProfileTab.adjust (t : ProfileTab) : ProfileTab :=
  { t with bands := t.bands.map fun b => { b with high := max b.low b.high } }

/-! ## POWER (R48, R85, R107, R127) -/

/-- POWER's fields, in the order of R197. -/
def powerFields : List FieldSpec :=
  [numF 1 50 100, numF 2 0 20000, numF 1 70 98, numF 2 8 4000, numF 2 8 256, numF 2 8 4000,
    numF 1 0 100, numF 1 0 100, numF 1 0 100, numF 1 0 50, numF 1 0 50, numF 4 10000 300000,
    numF 2 100 5000, numF 2 500 10000, numF 2 1000 14000, numF 1 0 127, numF 1 0 127, numF 1 0 255,
    numF 1 0 255, numF 1 0 255, numF 1 0 255, numF 1 0 127, numF 1 0 127, numF 2 100 5000,
    numF 2 1000 60000, numF 1 0 127, numF 2 100 10000, numF 2 100 10000, numF 2 100 10000,
    numF 2 2000 10000, numF 1 10 100, numF 2 10 500, numF 2 50 1000]

/-- POWER from its field list. -/
def PowerTab.ofList (x : List Int) : PowerTab where
  derate := natAt x 0
  guard := natAt x 1
  efficiency := natAt x 2
  minCurrent := natAt x 3
  step := natAt x 4
  slew := natAt x 5
  zone1Factor := natAt x 6
  zone2Factor := natAt x 7
  fanFaultFactor := natAt x 8
  criticalSoc := natAt x 9
  shutdownSoc := natAt x 10
  batteryGrace := natAt x 11
  allocOn := natAt x 12
  allocOther := natAt x 13
  refresh := natAt x 14
  chargerAddress := ⟨natAt x 15, natAt x 16⟩
  cmdCurrent := natAt x 17
  cmdVoltage := natAt x 18
  cmdInputVoltage := natAt x 19
  cmdSystemCurrent := natAt x 20
  packAddress := ⟨natAt x 21, natAt x 22⟩
  pollOn := natAt x 23
  pollOther := natAt x 24
  skinAddress := natAt x 25
  powerUpTimeout := natAt x 26
  powerDownTimeout := natAt x 27
  restartOffTime := natAt x 28
  overrideHold := natAt x 29
  buttonDebounce := natAt x 30
  lidFoldDebounce := natAt x 31
  adapterDebounce := natAt x 32

/-- POWER as a field list. -/
def PowerTab.toList (t : PowerTab) : List Int :=
  [(t.derate : Int), t.guard, t.efficiency, t.minCurrent, t.step, t.slew, t.zone1Factor,
    t.zone2Factor, t.fanFaultFactor, t.criticalSoc, t.shutdownSoc, t.batteryGrace, t.allocOn,
    t.allocOther, t.refresh, t.chargerAddress.one, t.chargerAddress.two, t.cmdCurrent, t.cmdVoltage,
    t.cmdInputVoltage, t.cmdSystemCurrent, t.packAddress.one, t.packAddress.two, t.pollOn,
    t.pollOther, t.skinAddress, t.powerUpTimeout, t.powerDownTimeout, t.restartOffTime,
    t.overrideHold, t.buttonDebounce, t.lidFoldDebounce, t.adapterDebounce]

/-- The slew of R85: rounded down to a multiple of the step and then, if below the minimum charge
current, raised to the least multiple of the step at or above it. -/
def adjustSlew (step slew minCurrent : Nat) : Nat :=
  if slew / step * step < minCurrent then ceilDiv minCurrent step * step else slew / step * step

/-- The three further adjustments of R85: the step to a multiple of 8 mA, the slew to the step and the
minimum, the shutdown SoC to the critical SoC. -/
def PowerTab.adjust (t : PowerTab) : PowerTab :=
  { t with
    step := t.step / 8 * 8
    slew := adjustSlew (t.step / 8 * 8) t.slew t.minCurrent
    shutdownSoc := min t.shutdownSoc t.criticalSoc }

/-! ## FANCURVE (R106) -/

/-- FANCURVE's fields. -/
def fanFields : List FieldSpec :=
  (List.replicate 8 [intF 2 (-40) 150, numF 1 0 100]).flatten ++ [(1, .bits 7)] ++
  List.replicate 7 (intF 1 (-30) 30) ++
  [numF 1 0 20, numF 1 0 100, numF 1 0 100, numF 1 0 50, numF 2 0 8000, numF 1 1 50, numF 1 1 100,
    numF 1 1 100, (1, .pad), numF 2 100 10000]

/-- A FANCURVE entry from its field list. -/
def FanTab.ofList (x : List Int) : FanTab where
  points := (List.range 8).map fun p => ⟨x.getD (2 * p) 0, natAt x (2 * p + 1)⟩
  sources := natAt x 16
  offsets := (List.range 7).map fun o => x.getD (17 + o) 0
  hysteresis := natAt x 24
  boostFloor := natAt x 25
  closedCap := natAt x 26
  heatAddition := natAt x 27
  heatThreshold := natAt x 28
  minStart := natAt x 29
  decreaseStep := natAt x 30
  stallCheckDuty := natAt x 31
  stallSpeed := natAt x 33

/-- A FANCURVE entry as a field list. -/
def FanTab.toList (t : FanTab) : List Int :=
  (t.points.map fun p => [p.temp, (p.duty : Int)]).flatten ++ [(t.sources : Int)] ++ t.offsets ++
  [(t.hysteresis : Int), t.boostFloor, t.closedCap, t.heatAddition, t.heatThreshold, t.minStart,
    t.decreaseStep, t.stallCheckDuty, 0, t.stallSpeed]

/-! ## THERMAL (R107) -/

/-- THERMAL's fields. -/
def thermalFields : List FieldSpec :=
  [numF 1 20 100, numF 1 20 100, numF 1 20 100, numF 1 1 10, numF 2 500 30000, numF 1 40 149,
    numF 1 60 150, numF 1 30 100, numF 1 1 20, numF 2 1000 60000, numF 1 0 255]

/-- THERMAL from its field list. -/
def ThermalTab.ofList (x : List Int) : ThermalTab :=
  ⟨natAt x 0, natAt x 1, natAt x 2, natAt x 3, natAt x 4, natAt x 5, natAt x 6, natAt x 7, natAt x 8,
    natAt x 9, natAt x 10⟩

/-- THERMAL as a field list. -/
def ThermalTab.toList (t : ThermalTab) : List Int :=
  [t.zone1, t.zone2, t.zone3, t.zoneHysteresis, t.hostTimeout, t.failSafe, t.dieCritical,
    t.skinCritical, t.criticalHysteresis, t.criticalGrace, t.skinCommand]

/-- The two further adjustments of R107: the thresholds to ascend, the fail-safe temperature below the
die critical. -/
def ThermalTab.adjust (t : ThermalTab) : ThermalTab :=
  let zone2 := max t.zone2 t.zone1
  { t with
    zone2 := zone2
    zone3 := max t.zone3 zone2
    failSafe := if t.dieCritical ≤ t.failSafe then t.dieCritical - 1 else t.failSafe }

/-! ## SETTINGS (R171) -/

/-- SETTINGS's fields. -/
def settingsFields : List FieldSpec :=
  [switchF, numF 1 50 100, switchF, switchF, (2, .bits 16), numF 1 0 3, numF 1 0 3, numF 1 0 3,
    numF 1 0 3, numF 1 0 3]

/-- SETTINGS from its field list. -/
def SettingsTab.ofList (x : List Int) : SettingsTab :=
  ⟨boolAt x 0, natAt x 1, boolAt x 2, boolAt x 3, BitVec.ofNat 16 (natAt x 4), natAt x 5, natAt x 6,
    natAt x 7, natAt x 8, natAt x 9⟩

/-- SETTINGS as a field list. -/
def SettingsTab.toList (t : SettingsTab) : List Int :=
  [bitOf t.ceilingEnable, t.ceiling, bitOf t.boost, bitOf t.fnLock, t.noticeMask.toNat,
    t.prioResponse, t.prioKey, t.prioNotice, t.prioBattery, t.prioThermal]

/-! ## KEYMAP (R22) -/

/-- The KEYMAP entry at an index after a write of these bytes, and whether it was adjusted: an
undefined kind takes the kind and value of the built-in default at that index, an undefined action id
makes the kind NONE (R22).  DEDUCED (log entry 43): the wake mark of an entry with an undefined kind is
stored as written. -/
def KeymapEntry.ofBytes (i : Nat) (bs : List Byte) : KeymapEntry × Bool :=
  let b0 := byteAt bs 0
  let mark := b0.testBit 7
  match b0 % 8 with
  | 0 => (⟨.noKey, mark⟩, false)
  | 1 => (⟨.code (u16At bs 1), mark⟩, false)
  | 2 => (⟨.fn, mark⟩, false)
  | 3 =>
    let a := byteAt bs 1
    if 1 ≤ a ∧ a ≤ 5 then (⟨.action a, mark⟩, false) else (⟨.noKey, mark⟩, true)
  | 4 => (⟨.transparent, mark⟩, false)
  | _ => (⟨(KeymapEntry.default i).kind, mark⟩, true)

/-- The bytes of a KEYMAP entry (R197). -/
def KeymapEntry.bytes (e : KeymapEntry) : List Byte :=
  let head (kind : Nat) : Byte := byteOf (packBits [(3, kind), (4, 0), (1, bitOf e.wakeMark)])
  match e.kind with
  | .noKey => [head 0, 0, 0, 0]
  | .code c => head 1 :: leBytes 2 c ++ [0]
  | .fn => [head 2, 0, 0, 0]
  | .action a => [head 3, byteOf a, 0, 0]
  | .transparent => [head 4, 0, 0, 0]

/-! ## FILTER (R152) -/

/-- The FILTER entry written by these bytes, and whether it was adjusted: the address to at most 127,
command last to at least command first, an undefined access or action to its default (R152). -/
def FilterEntry.ofBytes (bs : List Byte) : FilterEntry × Bool :=
  let b0 := byteAt bs 0
  let address := byteAt bs 1
  let first := byteAt bs 2
  let last := byteAt bs 3
  let access := b0 / 4 % 4
  let action := b0 / 16 % 4
  ({ valid := b0.testBit 0
     seg := if b0.testBit 1 then .seg1 else .seg0
     address := min address 127
     first := first
     last := max last first
     access := if access = 1 then .write else if access = 2 then .both else .read
     action := if action = 0 then .pass else if action = 2 then .shadow else .deny },
    decide (127 < address) || decide (last < first) || access == 3 || action == 3)

/-- The bytes of a FILTER entry (R197). -/
def FilterEntry.bytes (e : FilterEntry) : List Byte :=
  let access := match e.access with | .read => 0 | .write => 1 | .both => 2
  let action := match e.action with | .pass => 0 | .deny => 1 | .shadow => 2
  [byteOf (packBits [(1, bitOf e.valid), (1, bitOf e.seg.ix), (2, access), (2, action)]),
    byteOf e.address, byteOf e.first, byteOf e.last]

/-! ## WAKE (R130) -/

/-- The WAKE entry stored at a source's number: the enable-in-OFF of POWER_BUTTON is forced on, and the
second part says whether the forcing changed it (R130). -/
def WakeEntry.force (source : Nat) (e : WakeEntry) : WakeEntry × Bool :=
  if source = 0 then ({ e with inOff := true }, !e.inOff) else (e, false)

/-- The WAKE entry of a byte (R197). -/
def WakeEntry.ofByte (b : Nat) : WakeEntry := ⟨b.testBit 0, b.testBit 1, b.testBit 2⟩

/-- The byte of a WAKE entry (R197). -/
def WakeEntry.bytes (e : WakeEntry) : List Byte :=
  [byteOf (packBits [(1, bitOf e.inSleep), (1, bitOf e.inOff), (1, bitOf e.deliver)])]

/-! ## Reading and storing an entry -/

/-- Fields read and adjusted one by one, the rest of the entry left to `adjust`; the second part says whether an
adjustment changed a field: its own range did, or the stored field differs from the one written (R85, R165).  DEDUCED
(log entry 47): a field out of its range counts even where the later adjustments bring it back to the value written, as
a slew of 4096 mA with the step 256 and the minimum 4000. -/
def storeFields {α : Type} (fields : List FieldSpec) (ofList : List Int → α) (toList : α → List Int)
    (adjust : α → α) (bs : List Byte) : α × Bool :=
  let raw := readFields fields bs
  let ranged := adjustFields fields raw
  let stored := adjust (ofList ranged)
  (stored, ranged != raw || toList stored != raw)

/-- The bytes of the stored entry at an index, as TABLE_READ returns them (R163, R197). -/
def readEntry (t : TableId) (i : Nat) (s : Tst) : List Byte :=
  match t with
  | .scan => fillTo 8 (writeFields scanFields s.scan.toList)
  | .keymap => (s.keymap.getD i (KeymapEntry.default i)).bytes
  | .profile => fillTo 36 (writeFields profileFields (s.profile.getD i ProfileTab.default).toList)
  | .power => fillTo 52 (writeFields powerFields s.power.toList)
  | .adapter => leBytes 4 (s.adapter.getD i 0)
  | .itemmap => leBytes 1 (s.itemmap.getD i 0)
  | .fancurve => fillTo 44 (writeFields fanFields (s.fancurve.get (i == 1)).toList)
  | .thermal => fillTo 14 (writeFields thermalFields s.thermal.toList)
  | .filter => (s.filter.getD i FilterEntry.default).bytes
  | .wake => (s.wake.getD i ⟨false, false, false⟩).bytes
  | .settings => fillTo 12 (writeFields settingsFields s.settings.toList)

/-- The table store after an entry written at an index, and whether the entry was adjusted (R164,
R165). -/
def storeEntry (t : TableId) (i : Nat) (bs : List Byte) (s : Tst) : Tst × Bool :=
  match t with
  | .scan =>
    let e := storeFields scanFields ScanTab.ofList ScanTab.toList ScanTab.adjust bs
    ({ s with scan := e.1 }, e.2)
  | .keymap =>
    let e := KeymapEntry.ofBytes i bs
    ({ s with keymap := s.keymap.set i e.1 }, e.2)
  | .profile =>
    let e := storeFields profileFields ProfileTab.ofList ProfileTab.toList ProfileTab.adjust bs
    ({ s with profile := s.profile.set i e.1 }, e.2)
  | .power =>
    let e := storeFields powerFields PowerTab.ofList PowerTab.toList PowerTab.adjust bs
    ({ s with power := e.1 }, e.2)
  | .adapter =>
    let v := leNat (bs.take 4)
    ({ s with adapter := s.adapter.set i (min v 200000) }, decide (200000 < v))
  | .itemmap => ({ s with itemmap := s.itemmap.set i (byteAt bs 0) }, false)
  | .fancurve =>
    let e := storeFields fanFields FanTab.ofList FanTab.toList id bs
    ({ s with fancurve := s.fancurve.set (i == 1) e.1 }, e.2)
  | .thermal =>
    let e := storeFields thermalFields ThermalTab.ofList ThermalTab.toList ThermalTab.adjust bs
    ({ s with thermal := e.1 }, e.2)
  | .filter =>
    let e := FilterEntry.ofBytes bs
    ({ s with filter := s.filter.set i e.1 }, e.2)
  | .wake =>
    let e := (WakeEntry.ofByte (byteAt bs 0)).force i
    ({ s with wake := s.wake.set i e.1 }, e.2)
  | .settings =>
    let e := storeFields settingsFields SettingsTab.ofList SettingsTab.toList id bs
    ({ s with settings := e.1 }, e.2)

/-- The table store after `n` entries written from an index upward, in one event, and whether any was
adjusted (R164). -/
def storeEntries (t : TableId) : Nat → Nat → List Byte → Tst → Tst × Bool
  | 0, _, _, s => (s, false)
  | n + 1, i, bs, s =>
    let e := storeEntry t i (bs.take t.entrySize) s
    let r := storeEntries t n (i + 1) (bs.drop t.entrySize) e.1
    (r.1, e.2 || r.2)

/-- The bytes of `n` stored entries from an index upward, in index order (R163). -/
def readEntries (t : TableId) : Nat → Nat → Tst → List Byte
  | 0, _, _ => []
  | n + 1, i, s => readEntry t i s ++ readEntries t n (i + 1) s

/-! ## Reservation and lock flags -/

/-- A table is locked (R169). -/
def Tst.isLocked (s : Tst) (t : TableId) : Bool := s.locked.getD (t.id - 1) false

/-- A table's reservation is set (R167). -/
def Tst.isReserved (s : Tst) (t : TableId) : Bool := s.reserved.getD (t.id - 1) false

/-- A table's reservation flag set or cleared (R167). -/
def Tst.reserve (s : Tst) (t : TableId) (b : Bool) : Tst :=
  { s with reserved := s.reserved.set (t.id - 1) b }

end Sys2Proof.Machine
end

