-- ==== Sys2Proof/Machine/Ops.lean ====
section
/-!
DEFINITION. The named operations over the part's state that every block uses: reading and replacing one
block or one member of a pair, timers, notices, responses, and the outputs that follow from the state.
-/

namespace Sys2Proof.Machine

/-! ## One block replaced -/

/-- The part with its lines replaced. -/
def Dev.setPins (d : Dev) (x : Pins) : Dev := { d with pins := x }
/-- The part with the MSE replaced. -/
def Dev.setMse (d : Dev) (x : Mse) : Dev := { d with mse := x }
/-- The part with the KTU replaced. -/
def Dev.setKtu (d : Dev) (x : Ktu) : Dev := { d with ktu := x }
/-- The part with the PKM replaced. -/
def Dev.setPkm (d : Dev) (x : Pair PackMonitor) : Dev := { d with pkm := x }
/-- The part with the CHG replaced. -/
def Dev.setChg (d : Dev) (x : Chg) : Dev := { d with chg := x }
/-- The part with the TFU replaced. -/
def Dev.setTfu (d : Dev) (x : Tfu) : Dev := { d with tfu := x }
/-- The part with the PPU replaced. -/
def Dev.setPpu (d : Dev) (x : Ppu) : Dev := { d with ppu := x }
/-- The part with the WKU replaced. -/
def Dev.setWku (d : Dev) (x : Wku) : Dev := { d with wku := x }
/-- The part with the segments replaced. -/
def Dev.setSegs (d : Dev) (x : Pair Segment) : Dev := { d with segs := x }
/-- The part with the TST replaced. -/
def Dev.setTst (d : Dev) (x : Tst) : Dev := { d with tst := x }
/-- The part with the PLI replaced. -/
def Dev.setPli (d : Dev) (x : Pli) : Dev := { d with pli := x }
/-- The part with the NSU replaced. -/
def Dev.setNsu (d : Dev) (x : Nsu) : Dev := { d with nsu := x }

/-- What the PKM holds for a pack. -/
def Dev.mon (d : Dev) (k : Pack) : PackMonitor := d.pkm.get k.ix
/-- What the PKM holds for a pack, replaced. -/
def Dev.setMon (d : Dev) (k : Pack) (x : PackMonitor) : Dev := d.setPkm (d.pkm.set k.ix x)
/-- What the CHG holds for a pack. -/
def Dev.chp (d : Dev) (k : Pack) : ChargePack := d.chg.packs.get k.ix
/-- What the CHG holds for a pack, replaced. -/
def Dev.setChp (d : Dev) (k : Pack) (x : ChargePack) : Dev :=
  d.setChg { d.chg with packs := d.chg.packs.set k.ix x }
/-- What a Segment Controller holds. -/
def Dev.seg (d : Dev) (g : Seg) : Segment := d.segs.get g.ix
/-- What a Segment Controller holds, replaced. -/
def Dev.setSeg (d : Dev) (g : Seg) (x : Segment) : Dev := d.setSegs (d.segs.set g.ix x)
/-- What the TFU holds for a fan. -/
def Dev.fan (d : Dev) (f : Fan) : FanState := d.tfu.fans.get f.ix
/-- What the TFU holds for a fan, replaced. -/
def Dev.setFan (d : Dev) (f : Fan) (x : FanState) : Dev :=
  d.setTfu { d.tfu with fans := d.tfu.fans.set f.ix x }
/-- A status stream. -/
def Dev.stream (d : Dev) (i : StreamId) : Stream := d.nsu.streams.get i.ix
/-- A status stream, replaced. -/
def Dev.setStream (d : Dev) (i : StreamId) (x : Stream) : Dev :=
  d.setNsu { d.nsu with streams := d.nsu.streams.set i.ix x }

/-- The segment that a pack sits on (00_scope.md, Names). -/
def segOf : Pack → Seg
  | .a => .seg0
  | .b => .seg1

/-- The pack that sits on a segment. -/
def packOf : Seg → Pack
  | .seg0 => .a
  | .seg1 => .b

/-- The other fan. -/
def otherFan : Fan → Fan
  | .fan1 => .fan2
  | .fan2 => .fan1

/-- Pack B exists on a two-pack board alone (R46). -/
def Dev.packFitted (d : Dev) : Pack → Bool
  | .a => true
  | .b => d.profile.twoPacks

/-- Fan 2 exists on a two-fan board alone (R99). -/
def Dev.fanFitted (d : Dev) : Fan → Bool
  | .fan1 => true
  | .fan2 => d.profile.twoFans

/-! ## Timers -/

/-- A timer started with a period in µs. -/
def Timer.ofUs (us : Nat) : Timer := ⟨us, us⟩

/-- A running timer restarted with its own period. -/
def Timer.again (t : Timer) : Timer := ⟨t.period, t.period⟩

/-- A running timer brought to the interval in force: left running when it already runs with it, and
restarted with it otherwise (R53, R63, R80). -/
def Timer.retime (ms : Nat) (t : Timer) : Timer :=
  if t.period = ms * 1000 then t else Timer.ofMs ms

/-- An accepted level taken by a debounced input: the wait ends with it. -/
def Debounce.accept (level : Bool) : Debounce := ⟨some level, none⟩

/-! ## Notices (R189) -/

/-- A notice in the notice queue: the payload of a standing notice of its class replaced in place,
else appended at the tail (R189). -/
def coalesce (n : Notice) (q : List Notice) : List Notice :=
  if q.any (fun m => m.cls == n.cls) then q.map (fun m => if m.cls == n.cls then n else m)
  else q ++ [n]

/-- The NSU after a notice is raised under a mask: the class joins the pending summary whatever the
mask; an enabled class is queued or coalesced (R189). -/
def Nsu.raise (mask : BitVec 16) (n : Notice) (u : Nsu) : Nsu :=
  { u with
    summary := u.summary ||| BitVec.twoPow 16 n.cls
    queue := if mask.getLsbD n.cls then coalesce n u.queue else u.queue }

/-- A block raises a notice. -/
def raise (n : Notice) (d : Dev) : Dev := d.setNsu (d.nsu.raise d.tst.settings.noticeMask n)

/-! ## Responses (R179) -/

/-- The PLI after the answering block has built the response of a slot: a WAITING slot becomes READY
and joins the tail of the ready order (R179). -/
def Pli.respond (i : Nat) (r : Response) (p : Pli) : Pli :=
  let sl := p.slots.getD i Slot.empty
  if sl.state = .waiting then
    { p with
      slots := p.slots.set i { sl with state := .ready, response := some r }
      readyOrder := p.readyOrder ++ [i] }
  else p

/-- A block answers the request in a slot. -/
def answerWith (i : Nat) (r : Response) (d : Dev) : Dev := d.setPli (d.pli.respond i r)

/-- A block answers the request in a slot with a status alone. -/
def answer (i : Nat) (st : Status) (d : Dev) : Dev := answerWith i ⟨st, false, []⟩ d

/-- A block answers the request in a slot OK with data. -/
def answerData (i : Nat) (data : List Byte) (d : Dev) : Dev := answerWith i ⟨.ok, false, data⟩ d

/-! ## Outputs and modes that follow from the state -/

/-- The main-rail enable (section 6.4). -/
def Dev.mainRail (d : Dev) : Bool :=
  match d.ppu.power with
  | .poweringUp | .on => true
  | .off | .sleepEntry | .sleep | .poweringDown => false

/-- The sleep-rail enable (section 6.4). -/
def Dev.sleepRail (d : Dev) : Bool :=
  match d.ppu.power with
  | .poweringUp | .on | .sleepEntry | .sleep => true
  | .off | .poweringDown => false

/-- RX_READY: the link is UP and the receive queue holds fewer than 6 frames (R176). -/
def Dev.rxReady (d : Dev) : Bool :=
  d.pli.linkUp && decide (d.pli.rx.length < Config.receiveQueueSize)

/-- The stages in which a pack may draw current (section 4.3). -/
def Stage.charging : Stage → Bool
  | .precharge | .fast | .topoff => true
  | .none | .full | .hold | .inhibit | .fault => false

/-- FAST or TOPOFF, the stages that the termination count and the fast-charge timer look at. -/
def Stage.timed : Stage → Bool
  | .fast | .topoff => true
  | .none | .precharge | .full | .hold | .inhibit | .fault => false

/-- The mode of a fast-charge timer (R70). -/
inductive TimerMode where
  | clear
  | running
  | paused
  deriving DecidableEq, Repr

/-- A pack's fast-charge timer is CLEAR outside FAST and TOPOFF, RUNNING there while the commanded
current is not 0, and PAUSED there while it is 0 (R70). -/
def ChargePack.timerMode (c : ChargePack) : TimerMode :=
  if c.stage.timed then (if c.current = 0 then .paused else .running) else .clear

/-- The machine after the command's effect on the part: the queue stays as it is. -/
def State.run (s : State) (f : Dev → Dev) : Host.Outcome State Fault Refusal :=
  .next { s with dev := f s.dev }

end Sys2Proof.Machine
end

