-- ==== Sys2Proof/Machine/Matrix.lean ====
section
/-!
DEFINITION. The Matrix Scan Engine (chapter 1): the scan with debounce, ghosts and the baseline, the raw
event queue, posture gating and the scan timer.
-/

namespace Sys2Proof.Machine

/-! ## Positions (R1) -/

/-- A position of the matrix, against a side button (R1). -/
def isMatrix (p : Nat) : Bool := decide (p < Config.matrixPositions)

/-- A matrix position is in range when its drive and sense lines are in use, a side button when side
buttons are fitted (R1). -/
def inRange (t : ScanTab) (side : Bool) (p : Nat) : Bool :=
  if p < Config.matrixPositions then
    decide (p / 8 < t.driveLines) && decide (p % 8 < t.senseLines)
  else side

/-! ## The raw event queue (R10 to R12) -/

/-- A change placed in the raw event queue: appended while it holds fewer than 16 entries, else
discarded with the overrun mark set (R11). -/
def Mse.push (m : Mse) (e : RawEntry) : Mse :=
  if m.raw.length < Config.rawQueueSize then { m with raw := m.raw ++ [e] }
  else { m with overrun := true }

/-- Changes placed in the raw event queue in the order they are produced. -/
def Mse.pushAll (m : Mse) (es : List RawEntry) : Mse := es.foldl Mse.push m

/-! ## The scan (R5 to R9, R15, R18) -/

/-- The scan period in force, in µs; `none`: the timer is stopped (R3). -/
def scanPeriod (power : PowerState) (t : ScanTab) (wake : List WakeEntry) : Option Nat :=
  let key := wake.getD WakeSource.key.index ⟨false, false, false⟩
  let side := wake.getD WakeSource.sideButton.index ⟨false, false, false⟩
  match power with
  | .on | .poweringUp | .sleepEntry | .poweringDown => some (500 * 2 ^ t.onPeriod)
  | .sleep => if key.inSleep || side.inSleep then some (t.sleepPeriod * 1000) else none
  | .off => if key.inOff || side.inOff then some (t.sleepPeriod * 1000) else none

/-- A position debounced with a raw sample (R6): the counter follows the disagreement, and at the
threshold the state flips with counter 0 and flags clear. -/
def debounce (t : ScanTab) (raw : Bool) (r : PosRec) : PosRec :=
  if raw = r.down then { r with counter := 0 }
  else if (if r.down then t.releaseCount else t.pressCount) ≤ r.counter + 1 then
    ⟨!r.down, 0, false, false⟩
  else { r with counter := r.counter + 1 }

/-- The baseline of a matrix position (R15): the raw sample becomes the state, a key found DOWN is
masked. -/
def baselineRec (raw : Bool) : PosRec := ⟨raw, 0, false, raw⟩

/-- A position is DOWN in these records. -/
def downAt (recs : List PosRec) (p : Nat) : Bool := (recs.getD p PosRec.up).down

/-- The position completes a rectangle (R7): for some other drive and some other sense the three further
corners are in range and DOWN. -/
def completesRectangle (t : ScanTab) (recs : List PosRec) (p : Nat) : Bool :=
  (List.range Config.driveLines).any fun d' =>
    d' != p / 8 && decide (d' < t.driveLines) && downAt recs (d' * 8 + p % 8) &&
    (List.range Config.senseLines).any fun s' =>
      s' != p % 8 && decide (s' < t.senseLines) && downAt recs (p / 8 * 8 + s') &&
      downAt recs (d' * 8 + s')

/-- Step 1 of a scan: an out-of-range matrix position is settled UP, with a synthesized release when it
was DOWN with both flags clear (R18). -/
def settleOut (t : ScanTab) (p : Nat) (r : PosRec) : PosRec × List RawEntry :=
  if isMatrix p && !inRange t true p then
    (PosRec.up, if r.down && !r.suspect && !r.masked then [.change p false true] else [])
  else (r, [])

/-- Steps 2 and 3 of a scan at one position (R5): sampled and debounced, or sampled as a baseline, or
left alone when the scan does not sample it. -/
def sampleRec (t : ScanTab) (side : Bool) (st : ScanState) (raw : BitVec 148) (p : Nat) (r : PosRec) :
    PosRec :=
  if inRange t side p then
    if isMatrix p then
      match st with
      | .gated => r
      | .baseline => baselineRec (raw.getLsbD p)
      | .active => debounce t (raw.getLsbD p) r
    else debounce t (raw.getLsbD p) r
  else r

/-- Steps 4 and 5 of a scan at one position, from its record before step 3 and after it, against the
states standing after all flips (R6 to R8): the record it ends with and the change it yields. -/
def judgeRec (t : ScanTab) (after : List PosRec) (p : Nat) (old new : PosRec) :
    PosRec × List RawEntry :=
  if !isMatrix p then
    (new, if old.down != new.down then [.change p new.down false] else [])
  else if !old.down && new.down then
    if !t.diodeMatrix && completesRectangle t after p then ({ new with suspect := true }, [])
    else (new, [.change p true false])
  else if old.down && !new.down then
    (new, if old.suspect || old.masked then [] else [.change p false false])
  else if old.suspect && new.down then
    if t.diodeMatrix || !completesRectangle t after p then
      ({ new with suspect := false }, [.change p true false])
    else (new, [])
  else (new, [])

/-- The records and the changes of one scan (R5): step 1 in ACTIVE alone, then steps 2 to 5; a baseline
yields no change of a matrix position. -/
def scanRecs (t : ScanTab) (side : Bool) (st : ScanState) (raw : BitVec 148) (recs : List PosRec) :
    List PosRec × List RawEntry :=
  let settled := recs.zipIdx.map fun x =>
    if st = .active then settleOut t x.2 x.1 else (x.1, [])
  let before := settled.map Prod.fst
  let after := before.zipIdx.map fun x => sampleRec t side st raw x.2 x.1
  let judged := (before.zip after).zipIdx.map fun x =>
    if st = .active || !isMatrix x.2 then judgeRec t after x.2 x.1.1 x.1.2 else (x.1.2, [])
  (judged.map Prod.fst, (settled.map Prod.snd).flatten ++ (judged.map Prod.snd).flatten)

/-- The MSE after a scan (R5): records, changes queued in order, and a baseline scan makes the state
ACTIVE (R13). -/
def Mse.scan (t : ScanTab) (side : Bool) (raw : BitVec 148) (m : Mse) : Mse :=
  let r := scanRecs t side m.scanState raw m.recs
  let m := Mse.pushAll { m with recs := r.1 } r.2
  if m.scanState = .baseline then { m with scanState := .active } else m

/-! ## Posture gating (R13, R14) -/

/-- The changes that gating produces, in ascending position order (R14). -/
def gatingReleases (recs : List PosRec) : List RawEntry :=
  (recs.zipIdx.map fun x =>
    if isMatrix x.2 && x.1.down && !x.1.suspect && !x.1.masked then [RawEntry.change x.2 false true]
    else []).flatten

/-- The MSE after a posture event (R13, R14). -/
def Mse.takePosture (new : Posture) (m : Mse) : Mse :=
  match new with
  | .unknown => m
  | .opened => if m.scanState = .gated then { m with scanState := .baseline } else m
  | .tablet | .closed =>
    if m.scanState = .gated then m
    else
      Mse.pushAll
        { m with
          recs := m.recs.zipIdx.map fun x => if isMatrix x.2 then PosRec.up else x.1
          scanState := .gated }
        (gatingReleases m.recs)

/-! ## The scan timer (R3, R4) -/

/-- The MSE after an event that may change the period in force (R3): the timer restarts when the period
differs from the running one, stops when none is called for (every counter then 0, R4), and is left to
run otherwise. -/
def Mse.retime (period : Option Nat) (m : Mse) : Mse :=
  match period, m.scanTimer with
  | none, some _ =>
    { m with scanTimer := none, recs := m.recs.map fun r => { r with counter := 0 } }
  | none, none => m
  | some us, none => { m with scanTimer := some (Timer.ofUs us) }
  | some us, some t => if t.period = us then m else { m with scanTimer := some (Timer.ofUs us) }

/-- The period in force at the part (R3). -/
def Dev.scanPeriod (d : Dev) : Option Nat :=
  Machine.scanPeriod d.ppu.power d.tst.scan d.tst.wake

/-- The MSE takes a change of the power state, of WAKE or of SCAN (R3, R18). -/
def mseRetime (d : Dev) : Dev := d.setMse (d.mse.retime d.scanPeriod)

/-- The KTU removes the head of the raw event queue (R10, R12): with the overrun mark set a RESYNC is
appended, the mark clears and KEY_OVERRUN is raised. -/
def removeRaw (d : Dev) : Dev :=
  if d.mse.overrun then
    raise .keyOverrun (d.setMse { d.mse with raw := d.mse.raw.tail ++ [.resync], overrun := false })
  else d.setMse { d.mse with raw := d.mse.raw.tail }

/-! ## SCAN -/

/-- A scan (R3, R5): started by an expiry of the running scan timer, which restarts with the period in
force; the raw samples are the levels of the lines. -/
def scanEvent (raw : BitVec 148) (d : Dev) : Dev :=
  match d.mse.scanTimer with
  | none => d
  | some _ =>
    let d := d.setPins { d.pins with keys := raw }
    d.setMse { d.mse.scan d.tst.scan d.profile.sideButtons raw with
      scanTimer := d.scanPeriod.map Timer.ofUs }

/-- SCAN. -/
def execScan (raw : BitVec 148) (s : State) : Host.Outcome State Fault Refusal :=
  s.run (scanEvent raw)

end Sys2Proof.Machine
end

