-- ==== Sys2Proof/Machine/Segments.lean ====
section
/-!
DEFINITION. The Segment Controllers (chapter 8): arrivals, the arbiter, sequences and drains.  The
completions, which go on to the requesters, stand in Machine/Completions.lean above the requesters.
-/

namespace Sys2Proof.Machine

/-! ## The arbiter (R146, R153) -/

/-- A class-3 record (R143). -/
def Txn.passThrough (t : Txn) : Bool := t.cls == 3

/-- The number of class-3 records in a queue (R145). -/
def passThroughCount (q : List Txn) : Nat := (q.filter Txn.passThrough).length

/-- The order in which the arbiter takes records: lowest class, then lowest arrival order (R146). -/
def Txn.before (x y : Txn) : Bool :=
  decide (x.cls < y.cls) || (x.cls == y.cls && decide (x.order < y.order))

/-- The first record in the arbiter's order. -/
def firstTxn : List Txn → Option Txn
  | [] => none
  | x :: xs =>
    match firstTxn xs with
    | none => some x
    | some y => if y.before x then some y else some x

/-- The records that the arbiter may take (R146): while the sequence is OPEN those of class 0 and the
members, otherwise all but the members. -/
def mayTake (seq : Sequence) (t : Txn) : Bool :=
  match seq with
  | .opened _ => t.cls == 0 || t.member
  | .pending _ | .noSeq => !t.member

/-- The record with an arrival order goes in flight. -/
def setInFlight (o : Nat) (q : List Txn) : List Txn :=
  q.map fun t => if t.order == o then { t with inFlight := true } else t

/-- The grant condition of a PENDING sequence, the segment being IDLE: no class-3 record that is not a
member remains in the queue (R153). -/
def grantable (q : List Txn) : Bool := !q.any fun t => t.passThrough && !t.member

/-- A PENDING sequence whose grant condition holds is granted: the open request is answered OK, the
sequence is OPEN and its idle timer starts (R153). -/
def grantSequence (g : Seg) (d : Dev) : Dev :=
  match (d.seg g).sequence with
  | .pending i =>
    if grantable (d.seg g).queue then
      answer i .ok
        (d.setSeg g { d.seg g with sequence := .opened (Timer.ofMs Config.sequenceIdleMs) })
    else d
  | .noSeq | .opened _ => d

/-- The clock or the data line of a segment reads low. -/
def Dev.lineLow (d : Dev) (g : Seg) : Bool :=
  !(d.pins.clockHigh.get g.ix && d.pins.dataHigh.get g.ix)

/-- A line that a transaction waits on reads low (R147): either line before the start is made, the clock
after it. -/
def Dev.waitsOnLine (d : Dev) (g : Seg) : Bool :=
  if (d.seg g).startWait then d.lineLow g else !d.pins.clockHigh.get g.ix

/-- The arbiter takes the first record it may take: the record goes in flight and the segment is BUSY;
when a line already reads low the start waits and the stretch timer starts (R146, R147). -/
def takeTransaction (g : Seg) (d : Dev) : Dev :=
  let sg := d.seg g
  match firstTxn (sg.queue.filter fun t => mayTake sg.sequence t && !t.inFlight) with
  | none => d
  | some t =>
    d.setSeg g { sg with
      state := .busy
      queue := setInFlight t.order sg.queue
      stretch := if d.lineLow g then some (Timer.ofMs Config.stretchMs) else none
      startWait := d.lineLow g }

/-- The arbiter acts, which it does while the segment is IDLE alone (R146). -/
def arbitrate (g : Seg) (d : Dev) : Dev :=
  if (d.seg g).state = .idle then takeTransaction g (grantSequence g d) else d

/-! ## Arrivals (R145) -/

/-- A transaction handed to a segment arrives (R145): appended to the queue with the next arrival order,
the arbiter then acting; or completed at once, SEG_RESET in HELD and SEG_FAULT in FAULT, which is the
second part.  DESIGN CHOICE (log entry 48): a transaction completed at once takes no arrival number, so the next one
appended has the number it would have had. -/
def submit (g : Seg) (t : Txn) (d : Dev) : Dev × Option Completion :=
  let sg := d.seg g
  match sg.state with
  | .held => (d, some .segReset)
  | .fault => (d, some .segFault)
  | .idle | .busy | .recovering =>
    (arbitrate g (d.setSeg g { sg with
      queue := sg.queue ++ [{ t with order := sg.nextOrder }]
      nextOrder := sg.nextOrder + 1 }), none)

/-- The record of an internal requester's transaction (R143): it has no slot and is no member. -/
def internalTxn (cls : Nat) (who : Requester) (write : Bool) (address command : Nat)
    (data : List Byte) : Txn :=
  ⟨cls, who, write, address, command, 2, data, none, false, 0, false⟩

/-! ## Sequences and drains (R155, R158) -/

/-- Every member of a queue loses its member flag (R153, R155).  DESIGN CHOICE (log entry 49): at a PT_SEQ_CLOSE
or an expiry the member in flight loses it with the waiting ones.  No response shows it, since no sequence is granted
before that record has completed. -/
def clearMembers (q : List Txn) : List Txn := q.map fun t => { t with member := false }

/-- A sequence record becomes NONE and its members ordinary class-3 records (R153, R155). -/
def endSequence (g : Seg) (d : Dev) : Dev :=
  d.setSeg g { d.seg g with
    sequence := .noSeq
    queue := clearMembers (d.seg g).queue }

/-- A sequence ends by entry to HELD or FAULT: an OPEN one closes, a PENDING one is answered (R153,
R155). -/
def stopSequence (g : Seg) (st : Status) (d : Dev) : Dev :=
  match (d.seg g).sequence with
  | .pending i => answer i st (endSequence g d)
  | .opened _ => endSequence g d
  | .noSeq => d

/-- A drain entry answered: SEG_FAULT when the segment is in FAULT at that moment, OK otherwise
(R158). -/
def drainStatus (g : Seg) (d : Dev) : Status :=
  if (d.seg g).state = .fault then .segFault else .ok

/-- The drain entries whose set has emptied are answered and leave the list (R158).  DESIGN CHOICE (log entry
42): where one completion empties the sets of several entries, they are answered in the order of the list. -/
def answerDrains (g : Seg) (d : Dev) : Dev :=
  let sg := d.seg g
  let done := sg.drains.filter fun e => e.writes.isEmpty
  let st := drainStatus g d
  done.foldl (fun d e => answer e.slot st d)
    (d.setSeg g { sg with drains := sg.drains.filter fun e => !e.writes.isEmpty })

/-- A completed write leaves the set of every drain entry that holds it (R158). -/
def drainCompleted (g : Seg) (o : Nat) (d : Dev) : Dev :=
  answerDrains g (d.setSeg g { d.seg g with
    drains := (d.seg g).drains.map fun e => { e with writes := e.writes.filter (· != o) } })

/-- A segment takes the link DOWN (R159): the sequence ends without a notice, the drain list empties,
and the class-3 records left have no slot to answer (R151). -/
def segLinkDown (g : Seg) (d : Dev) : Dev :=
  arbitrate g (d.setSeg g { d.seg g with
    sequence := .noSeq
    drains := []
    queue := (clearMembers (d.seg g).queue).map fun t => { t with slot := none } })

end Sys2Proof.Machine
end

