-- ==== Sys2Proof/Machine/Charge.lean ====
section
/-!
DEFINITION. The Charge Controller (chapter 4): the allocation, stage changes, the fast-charge timer,
charger write passes, and the pure part of stage evaluation and of the battery watch.

An operation of the CHG that changes commanded values or a stage ends by starting the write passes that
follow from it (R72, R76); `startPasses` runs them.
-/

namespace Sys2Proof.Machine

/-! ## Profile, band and target voltage (R68) -/

/-- The PROFILE entry of a pack: the entry of the chemistry class in the record's identity (R84). -/
def Dev.profileOf (d : Dev) (k : Pack) : ProfileTab :=
  match (d.mon k).record.identity with
  | none => ProfileTab.default
  | some i => d.tst.profile.getD i.chemistry ProfileTab.default

/-- A temperature in 0.1 °C floored toward minus infinity to whole °C (00_scope.md, Units). -/
def wholeDegrees (tenths : Int) : Int := tenths / 10

/-- The first band, up to the band count, that holds a temperature in whole °C (R68). -/
def ProfileTab.bandAt (p : ProfileTab) (temp : Int) : Option Band :=
  (p.bands.take p.bandCount).find? fun b => decide (b.low ≤ temp) && decide (temp ≤ b.high)

/-- The band of a pack: that of its committed temperature (R68). -/
def Dev.band (d : Dev) (k : Pack) : Option Band :=
  match (d.mon k).record.telemetry with
  | none => none
  | some t => (d.profileOf k).bandAt (wholeDegrees t.temperature)

/-- The cells of a pack (R44). -/
def Dev.cells (d : Dev) (k : Pack) : Nat :=
  match (d.mon k).record.identity with
  | none => 0
  | some i => i.cells

/-- The target voltage under a profile and a band: cells × (charge voltage − reduction) (R68). -/
def targetVoltage (cells : Nat) (p : ProfileTab) (b : Band) : Nat :=
  cells * (p.chargeVoltage - b.reduction)

/-- The target voltage of a pack; 0 without a band, which no use reads (R68). -/
def Dev.target (d : Dev) (k : Pack) : Nat :=
  match d.band k with
  | none => 0
  | some b => targetVoltage (d.cells k) (d.profileOf k) b

/-! ## The allocation (R73 to R76) -/

/-- The input sample is in fallback: failure count 3, or no sample yet (R64). -/
def Chg.fallback (c : Chg) : Bool := c.inputFailures == 3 || c.vIn.isNone || c.iSys.isNone

/-- The rated power of the adapter record's class, looked up in ADAPTER (R61); 0 without adapter. -/
def Dev.ratedPower (d : Dev) : Nat :=
  match d.chg.adapter with
  | none => 0
  | some c => d.tst.adapter.getD c 0

/-- The adapter budget B (R73). -/
def Dev.budget (d : Dev) : Nat := d.ratedPower * d.tst.power.derate / 100

/-- The system power S (R73): the budget itself in fallback. -/
def Dev.systemPower (d : Dev) : Nat :=
  if d.chg.fallback then d.budget else d.chg.vIn.getD 0 * d.chg.iSys.getD 0 / 1000

/-- The headroom H: B − S − guard, or 0 when that is below 0 (R73). -/
def Dev.headroom (d : Dev) : Nat := d.budget - d.systemPower - d.tst.power.guard

/-- A pack is eligible: its stage may draw current, its temperature lies in a band, its segment is not
HELD (R74). -/
def Dev.eligible (d : Dev) (k : Pack) : Bool :=
  (d.chp k).stage.charging && (d.band k).isSome && (d.seg (segOf k)).state != .held

/-- The zone factor (R74). -/
def zoneFactor (p : PowerTab) (zone : Nat) : Nat :=
  match zone with
  | 0 => 100
  | 1 => p.zone1Factor
  | 2 => p.zone2Factor
  | _ => 0

/-- A fitted fan is in FAULT (R74). -/
def Dev.anyFanFault (d : Dev) : Bool :=
  (d.fan .fan1).fault || (d.profile.twoFans && (d.fan .fan2).fault)

/-- The stage current of an eligible pack (R74): the precharge current in PRECHARGE, the fast current
in FAST and TOPOFF. -/
def stageCurrent (p : ProfileTab) (st : Stage) : Nat :=
  if st = .precharge then p.prechargeCurrent else p.fastCurrent

/-- The lesser of a current and the requested current, when one is present (R74). -/
def limitTo (request : Option Nat) (x : Nat) : Nat :=
  match request with
  | none => x
  | some r => min x r

/-- The requested current of a pack's record. -/
def Dev.reqCurrent (d : Dev) (k : Pack) : Option Nat :=
  match (d.mon k).record.telemetry with
  | none => none
  | some t => t.reqCurrent

/-- The requested voltage of a pack's record. -/
def Dev.reqVoltage (d : Dev) (k : Pack) : Option Nat :=
  match (d.mon k).record.telemetry with
  | none => none
  | some t => t.reqVoltage

/-- The demand before the skin and fan factors: stage current × band factor, floored, or the requested
current when that is lower (R74, steps 1 and 2); 0 for a pack that is not eligible. -/
def Dev.baseDemand (d : Dev) (k : Pack) : Nat :=
  match d.band k with
  | none => 0
  | some b =>
    if d.eligible k then
      limitTo (d.reqCurrent k) (stageCurrent (d.profileOf k) (d.chp k).stage * b.factor / 100)
    else 0

/-- The demand of a pack (R74): the base demand under the zone factor and the fan-fault factor. -/
def Dev.demand (d : Dev) (k : Pack) : Nat :=
  let x := d.baseDemand k * zoneFactor d.tst.power d.tfu.zone / 100
  if d.anyFanFault then x * d.tst.power.fanFaultFactor / 100 else x

/-- The input power that a charge current at a target voltage needs: ceil(I × V × 100 / (1000 × η))
(R75). -/
def powerNeeded (eff current volt : Nat) : Nat := ceilDiv (current * volt * 100) (1000 * eff)

/-- The two grants from the needs and the headroom (R75): each its need when the sum fits, else the
priority pack first. -/
def grants (needA needB room : Nat) (bFirst : Bool) : Nat × Nat :=
  if needA + needB ≤ room then (needA, needB)
  else if bFirst then
    let b := min needB room
    (min needA (room - b), b)
  else
    let a := min needA room
    (a, min needB (room - a))

/-- The SoC of a pack's record. -/
def Dev.soc (d : Dev) (k : Pack) : Nat :=
  match (d.mon k).record.telemetry with
  | none => 0
  | some t => t.soc

/-- Pack B has priority: it alone is eligible, or both are and its SoC is lower (R75). -/
def Dev.bFirst (d : Dev) : Bool :=
  d.eligible .b && (!d.eligible .a || decide (d.soc .b < d.soc .a))

/-- A grant turned back into a current: at most the demand, a multiple of the step, 0 below the minimum
charge current (R76). -/
def grantCurrent (p : PowerTab) (granted volt dem : Nat) : Nat :=
  let g := min (granted * 1000 * p.efficiency / (100 * volt)) dem / p.step * p.step
  if g < p.minCurrent then 0 else g

/-- The slew: a current that falls falls at once, one that does not climbs by at most the slew from the
previous current rounded down to the step (R76). -/
def slewed (p : PowerTab) (goal prev : Nat) : Nat :=
  if goal < prev then goal else min goal (prev / p.step * p.step + p.slew)

/-- The commanded voltage that goes with a commanded current (R68). -/
def commandedVoltage (target : Nat) (request : Option Nat) (current : Nat) : Nat :=
  if current = 0 then 0 else limitTo request target

/-- The grants of one allocation, for packs A and B (R73 to R75). -/
def Dev.grantsOf (d : Dev) : Nat × Nat :=
  let eff := d.tst.power.efficiency
  grants (powerNeeded eff (d.demand .a) (d.target .a)) (powerNeeded eff (d.demand .b) (d.target .b))
    d.headroom d.bFirst

/-- The new commanded current of a pack from its grant (R76). -/
def Dev.newCurrent (d : Dev) (k : Pack) (granted : Nat) : Nat :=
  slewed d.tst.power (grantCurrent d.tst.power granted (d.target k) (d.demand k)) (d.chp k).current

/-- A pack's commanded values replaced. -/
def ChargePack.command (c : ChargePack) (current volt : Nat) : ChargePack :=
  { c with current := current, voltage := volt }

/-- A pack's commanded values after an allocation (R68, R76). -/
def Dev.allocated (d : Dev) (k : Pack) (granted : Nat) : ChargePack :=
  let i := d.newCurrent k granted
  (d.chp k).command i (commandedVoltage (d.target k) (d.reqVoltage k) i)

/-- The values that an allocation records, both packs in one event (R72 to R76). -/
def allocate (d : Dev) : Dev :=
  let g := d.grantsOf
  d.setChg { d.chg with
    headroom := d.headroom
    packs := ⟨d.allocated .a g.1, d.allocated .b g.2⟩ }

/-- The packs whose commanded current or voltage differs between two states.  DESIGN CHOICE (log entry 46): A
before B, which is the order in which passes that one event starts for both are begun. -/
def changedPacks (before after : Dev) : List Pack :=
  [Pack.a, Pack.b].filter fun k =>
    (before.chp k).current != (after.chp k).current ||
      (before.chp k).voltage != (after.chp k).voltage

/-! ## Stage changes (R65, R70) -/

/-- What CHG holds for a pack after its stage changes (R65): commanded values 0 outside the charging
stages, termination count 0 outside FAST and TOPOFF, and the fast-charge timer kept between FAST and
TOPOFF alone (R70). -/
def ChargePack.enter (c : ChargePack) (new : Stage) : ChargePack :=
  { c with
    stage := new
    current := if new.charging then c.current else 0
    voltage := if new.charging then c.voltage else 0
    termCount := if new.timed then c.termCount else 0
    elapsedUs := if c.stage.timed && new.timed then c.elapsedUs else 0 }

/-- A stage change, its notice and its allocation (R65), less the write passes that follow. -/
def stageChange (k : Pack) (new : Stage) (d : Dev) : Dev :=
  let old := (d.chp k).stage
  allocate (raise (.chargeStage k old new) (d.setChp k ((d.chp k).enter new)))

/-! ## Charger write passes (R78, R79) -/

/-- The writer of a pack with a new state and retry mark. -/
def setWriter (k : Pack) (st : WriterState) (retry : Bool) (d : Dev) : Dev :=
  d.setChp k { d.chp k with writer := st, retryUsed := retry }

/-- The again mark of a pack's writer. -/
def setAgain (k : Pack) (b : Bool) (d : Dev) : Dev := d.setChp k { d.chp k with again := b }

/-- A charger write with the commanded value as it stands: CURRENT or VOLTAGE, class 0, at the charger
address of the pack's segment, two bytes (R78). -/
def chargerTxn (k : Pack) (volt : Bool) (d : Dev) : Txn :=
  let p := d.tst.power
  internalTxn 0 .charger true (p.chargerAddress.get k.ix)
    (if volt then p.cmdVoltage else p.cmdCurrent)
    (leBytes 2 (if volt then (d.chp k).voltage else (d.chp k).current))

/-- A failed retry sets FAULT: the record is READY and the stage not yet FAULT (R79). -/
def Dev.faultsPack (d : Dev) (k : Pack) : Bool :=
  (d.mon k).record.state == .ready && (d.chp k).stage != .fault

/-- A pass on a segment in FAULT has ended: the write and its retry completed SEG_FAULT at once (R79,
R145).  The second part says that the stage becomes FAULT; otherwise a further pass that the again mark
calls for starts at once, ends in the same way and changes nothing more. -/
def passDead (k : Pack) (d : Dev) : Dev × Bool :=
  (setAgain k false (setWriter k .idle false d), d.faultsPack k)

/-- The write of an item is issued (R78); the second part is `passDead`'s. -/
def issueWrite (k : Pack) (volt retry : Bool) (d : Dev) : Dev × Bool :=
  let r := submit (segOf k) (chargerTxn k volt d) d
  match r.2 with
  | none => (setWriter k (if volt then .writingVoltage else .writingCurrent) retry r.1, false)
  | some .segReset => (setWriter k .idle false r.1, false)
  | some _ => passDead k r.1

/-- A start of a pass is called for (R78): the again mark while one is under way, else the CURRENT write
is issued. -/
def startPass (k : Pack) (d : Dev) : Dev × Bool :=
  if (d.chp k).writer = .idle then issueWrite k false false d else (setAgain k true d, false)

/-- A pass has ended with the again mark as it stands: a set mark clears and a new pass starts at once
(R78). -/
def endPass (k : Pack) (d : Dev) : Dev × Bool :=
  let d := setWriter k .idle false d
  if (d.chp k).again then issueWrite k false false (setAgain k false d) else (d, false)

/-- The stage of a pack becomes FAULT after a failed retry (R79): the packs whose passes then start are
the pack itself, by the again mark, and each other pack that the allocation changed.  DESIGN CHOICE (log entry 45):
the zeroing of R65 calls for a start too (R78), and the two make one pass, whose again mark is clear, not a pass with
its again mark set; R78 and R79 do not say. -/
def faultPack (k : Pack) (d : Dev) : Dev × List Pack :=
  let d' := stageChange k .fault d
  (d', k :: (changedPacks d d').filter (· != k))

/-- Passes started one after another.  A pass whose pack goes to FAULT adds the passes that follow from
it; each pack goes to FAULT once at most, so 8 rounds are more than any event can need (R79). -/
def startPasses : Nat → List Pack → Dev → Dev
  | _, [], d => d
  | 0, _ :: _, d => d
  | n + 1, k :: ks, d =>
    let r := startPass k d
    if r.2 then
      let f := faultPack k r.1
      startPasses n (ks ++ f.2) f.1
    else startPasses n ks r.1

/-- The passes that the changed commanded values of an event call for (R76). -/
def writeChanged (before after : Dev) : Dev := startPasses 8 (changedPacks before after) after

/-- An allocation with the write passes that follow (R72). -/
def allocateAndWrite (d : Dev) : Dev := writeChanged d (allocate d)

/-- A stage change with the write passes that follow (R65). -/
def changeStage (k : Pack) (new : Stage) (d : Dev) : Dev := writeChanged d (stageChange k new d)

/-- What a writer does after its part of an event: nothing more, or the change to FAULT with the passes
that follow from it (R79). -/
def settlePass (k : Pack) (r : Dev × Bool) : Dev :=
  if r.2 then
    let f := faultPack k r.1
    startPasses 8 f.2 f.1
  else r.1

/-- A charger write completes (R78, R79). -/
def chargerCompleted (k : Pack) (c : Completion) (d : Dev) : Dev :=
  let w := d.chp k
  let volt := w.writer == .writingVoltage
  match c with
  | .ok _ =>
    if volt then settlePass k (endPass k d) else settlePass k (issueWrite k true false d)
  | .segReset => setWriter k .idle false d
  | .addrNack | .dataNack | .timeout | .segFault =>
    if !w.retryUsed then settlePass k (issueWrite k volt true d)
    else if d.faultsPack k then
      settlePass k (setAgain k false (setWriter k .idle false d), true)
    else settlePass k (endPass k d)

/-! ## The input sample (R63, R64) -/

/-- A read of an input item of charger A: class 1 on SEG0 (R63). -/
def inputTxn (command : Nat) (d : Dev) : Txn :=
  internalTxn 1 .input false d.tst.power.chargerAddress.one command []

/-- An input sample ends as failed (R64): the count rises to at most 3, the reader is IDLE, an
allocation runs. -/
def inputFailed (d : Dev) : Dev :=
  allocateAndWrite (d.setChg { d.chg with
    inputFailures := min 3 (d.chg.inputFailures + 1), reader := .idle })

/-- An input read is issued; the reader takes the state given, or the sample fails at once on a HELD or
faulted segment (R63, R64). -/
def issueInput (command : Nat) (st : InputReader) (d : Dev) : Dev :=
  let r := submit .seg0 (inputTxn command d) d
  match r.2 with
  | none => r.1.setChg { r.1.chg with reader := st }
  | some _ => inputFailed r.1

/-- An input read completes (R63, R64): after the voltage the current is read, and both are taken into
the sample together, saturated.  DESIGN CHOICE (log entry 39): the voltage is read unsigned, as R63 says of
the current alone. -/
def inputCompleted (c : Completion) (d : Dev) : Dev :=
  match c, d.chg.reader with
  | .ok data, .readingVoltage =>
    issueInput d.tst.power.cmdSystemCurrent (.readingCurrent (u16At data 0)) d
  | .ok data, .readingCurrent v =>
    allocateAndWrite (d.setChg { d.chg with
      vIn := some (saturateNat 25000 v)
      iSys := some (saturateNat 10000 (u16At data 0))
      inputFailures := 0
      reader := .idle })
  | .ok _, .idle => d
  | _, .idle => d
  | _, _ => inputFailed d

/-! ## Stage evaluation (R66, R67) -/

/-- The termination count after a sample complete (R67). -/
def nextTermCount (c : ChargePack) (p : ProfileTab) (current : Int) : Nat :=
  if c.stage.timed then
    if c.current = 0 then c.termCount
    else if current ≤ (p.terminationCurrent : Int) then min 3 (c.termCount + 1)
    else 0
  else 0

/-- The stage that the first matching line of R66 gives, lines 3 to 10, for a READY record with this
telemetry and a stage that is not FAULT. -/
def readyStage (st : Stage) (termCount : Nat) (p : ProfileTab) (cells : Nat) (t : Telemetry)
    (set : SettingsTab) : Stage :=
  if t.status.overCharge then .fault
  else if t.status.overTemp || t.status.terminate then .inhibit
  else match p.bandAt (wholeDegrees t.temperature) with
    | none => .inhibit
    | some b =>
      if set.ceilingEnable && (decide (set.ceiling ≤ t.soc) ||
          (st == .hold && decide (set.ceiling < t.soc + p.ceilingHysteresis))) then .hold
      else if st == .full && decide (p.rechargeSoc < t.soc) then .full
      else if st.timed && (t.status.full || termCount == 3) then .full
      else if t.voltage < p.prechargeThreshold * cells then .precharge
      else if targetVoltage cells p b ≤ t.voltage + p.topoffWindow * cells then .topoff
      else .fast

/-- The stage that R66 gives at a sample complete, after the termination count has been updated. -/
def Dev.evaluateStage (d : Dev) (k : Pack) : Stage :=
  let c := d.chp k
  let r := (d.mon k).record
  if c.stage = .fault then .fault
  else match r.state, r.telemetry with
    | .ready, some t =>
      readyStage c.stage c.termCount (d.profileOf k) (d.cells k) t d.tst.settings
    | _, _ => .none

/-- A sample complete at the CHG (R66): the termination count, the stage, whose change is taken whole with
its own allocation (R65), and then an allocation whether or not the stage changed. -/
def sampleComplete (k : Pack) (d : Dev) : Dev :=
  let current := match (d.mon k).record.telemetry with | none => 0 | some t => t.current
  let c := d.chp k
  let d := d.setChp k { c with termCount := nextTermCount c (d.profileOf k) current }
  let st := d.evaluateStage k
  allocateAndWrite (if st = (d.chp k).stage then d else changeStage k st d)

/-- A pack lost or a removal at the CHG (R69): the stage becomes NONE (a pack lost leaves FAULT), the
commanded values are 0, a stage that changes is a stage change of R65, and a write pass carries the
zero current whether or not anything changed.  DESIGN CHOICE (log entry 45): where the commanded values change
too, this is one start of a pass, not a pass and its again mark; R69 and R78 do not say. -/
def packGone (k : Pack) (removal : Bool) (d : Dev) : Dev :=
  let old := (d.chp k).stage
  let new : Stage := if old = .fault && !removal then .fault else .none
  let d' :=
    if new = old then d.setChp k ((d.chp k).command 0 0) else stageChange k new d
  startPasses 8 (k :: (changedPacks d d').filter (· != k)) d'

/-- The fast-charge time of a pack's profile, in µs (R70). -/
def Dev.fastChargeLimit (d : Dev) (k : Pack) : Nat := (d.profileOf k).fastChargeTime * 60000000

/-- The check of one pack's fast-charge timer at the allocation of a PROFILE write (R70). -/
def checkFastCharge (k : Pack) (d : Dev) : Dev :=
  if (d.chp k).stage.timed && decide (d.fastChargeLimit k ≤ (d.chp k).elapsedUs) then
    changeStage k .fault d
  else d

/-! ## The battery watch, as far as the CHG itself (R82) -/

/-- A pack's part of the system SoC: SoC × full capacity and full capacity, of a READY pack (R82). -/
def Dev.socShare (d : Dev) (k : Pack) : Nat × Nat :=
  let r := (d.mon k).record
  match r.state, r.telemetry with
  | .ready, some t => (t.soc * t.fullCapacity, t.fullCapacity)
  | _, _ => (0, 0)

/-- The system SoC as computed from the records; `none`: unknown (R82). -/
def Dev.computeSoc (d : Dev) : Option Nat :=
  let a := d.socShare .a
  let b := d.socShare .b
  if d.chg.adapter.isSome || a.2 + b.2 == 0 then none else some ((a.1 + b.1) / (a.2 + b.2))

/-- The system SoC is known and at or below a level. -/
def socAtOrBelow (soc : Option Nat) (level : Nat) : Bool :=
  match soc with
  | none => false
  | some x => decide (x ≤ level)

/-- The watch computes the system SoC anew and sets the low mark by it (R82). -/
def watchCompute (d : Dev) : Dev :=
  let soc := d.computeSoc
  d.setChg { d.chg with
    systemSoc := soc, lowMark := socAtOrBelow soc d.tst.power.criticalSoc }

/-- A crossing of the low mark in ON: BATTERY_CRITICAL and the grace timer (R82). -/
def batteryCrossing (d : Dev) : Dev :=
  let d := raise (.batteryCritical (d.chg.systemSoc.getD 0)) d
  d.setChg { d.chg with graceTimer := some (Timer.ofMs d.tst.power.batteryGrace) }

/-- The battery grace timer stopped (R82). -/
def stopBatteryGrace (d : Dev) : Dev := d.setChg { d.chg with graceTimer := none }

/-- The allocation interval in force, in ms (R63). -/
def Dev.allocInterval (d : Dev) : Nat :=
  if d.ppu.power = .on then d.tst.power.allocOn else d.tst.power.allocOther

/-- The allocation timer brought to the interval in force (R63). -/
def retimeAllocation (d : Dev) : Dev :=
  d.setChg { d.chg with allocTimer := d.chg.allocTimer.map (Timer.retime d.allocInterval) }

/-- The refresh timer brought to the interval of POWER (R80). -/
def retimeRefresh (d : Dev) : Dev :=
  d.setChg { d.chg with refreshTimer := d.chg.refreshTimer.map (Timer.retime d.tst.power.refresh) }

/-- The CHG takes a change of power state (R63, R82): the allocation interval, the watch, and on entry
to ON a low mark that stands set is a crossing; leaving ON stops the grace timer. -/
def chgPower (d : Dev) : Dev :=
  let d := watchCompute (retimeAllocation d)
  if d.ppu.power = .on then (if d.chg.lowMark then batteryCrossing d else d) else stopBatteryGrace d

end Sys2Proof.Machine
end

