-- ==== Sys2Proof/Machine/Thermal.lean ====
section
/-!
DEFINITION. The Thermal and Fan Unit (chapter 5): sources, the skin zone, the critical mark, fan duty,
tach and stall, with the hand-ons to the CHG.  What a critical mark does in SLEEP stands in
Machine/Watch.lean.
-/

namespace Sys2Proof.Machine

/-! ## The skin zone (R94, R95) -/

/-- The threshold of a zone 1 to 3 (R94). -/
def ThermalTab.threshold (t : ThermalTab) (zone : Nat) : Nat :=
  match zone with
  | 0 | 1 => t.zone1
  | 2 => t.zone2
  | _ => t.zone3

/-- The highest zone whose threshold a temperature is at or above; 0 when it is below all (R94). -/
def ThermalTab.highestZone (t : ThermalTab) (s : Int) : Nat :=
  if (t.zone3 : Int) ≤ s then 3
  else if (t.zone2 : Int) ≤ s then 2
  else if (t.zone1 : Int) ≤ s then 1
  else 0

/-- The skin zone after an evaluation (R94). -/
def nextZone (t : ThermalTab) (s : Source) (zone : Nat) : Nat :=
  if s.cond = .absent then 0
  else if zone < 3 ∧ (t.threshold (zone + 1) : Int) ≤ s.value then t.highestZone s.value
  else if 0 < zone ∧ s.value < (t.threshold zone : Int) - t.zoneHysteresis then zone - 1
  else zone

/-- Both packs' commanded values set to 0 (R77). -/
def zeroCommands (d : Dev) : Dev :=
  d.setChg { d.chg with
    packs := ⟨d.chg.packs.one.command 0 0, d.chg.packs.two.command 0 0⟩ }

/-- A change of the skin zone (R77, R95): the CHG zeroes both packs on entry to zone 3, runs an
allocation and starts the write passes; the TFU raises THERMAL_ZONE. -/
def zoneChange (new : Nat) (d : Dev) : Dev :=
  let old := d.tfu.zone
  let d1 := d.setTfu { d.tfu with zone := new }
  let d2 := if new = 3 then zeroCommands d1 else d1
  raise (.thermalZone old new d1.tfu.skin.value) (writeChanged d (allocate d2))

/-- The skin zone evaluated (R94): a zone that stays hands nothing on. -/
def evalZone (d : Dev) : Dev :=
  let z := nextZone d.tst.thermal d.tfu.skin d.tfu.zone
  if z = d.tfu.zone then d else zoneChange z d

/-! ## The critical mark (R96, R97) -/

/-- The critical temperature of the source with an index: 0 to 3 the die sources, 4 S (R96). -/
def ThermalTab.criticalOf (t : ThermalTab) (i : Nat) : Nat :=
  if i < 4 then t.dieCritical else t.skinCritical

/-- D0 to D3 and S, in the order of R97. -/
def Tfu.heatSources (t : Tfu) : List Source := t.die ++ [t.skin]

/-- The first source that is REAL and at or above its critical temperature less a margin: its index and
value (R97). -/
def Tfu.hotSource (t : Tfu) (th : ThermalTab) (margin : Nat) : Option (Nat × Int) :=
  (t.heatSources.zipIdx.find? fun x =>
    x.1.cond == .real && decide ((th.criticalOf x.2 : Int) - margin ≤ x.1.value)).map
      fun x => (x.2, x.1.value)

/-- The critical mark after an evaluation (R96): SET by a REAL source at or above its critical
temperature, CLEAR when no REAL source is within the hysteresis of it, else as it was. -/
def nextCritical (th : ThermalTab) (t : Tfu) : Bool :=
  if (t.hotSource th 0).isSome then true
  else if (t.hotSource th th.criticalHysteresis).isSome then t.critical
  else false

/-- The source that THERMAL_CRITICAL names and its value (R97). -/
def criticalSource (th : ThermalTab) (t : Tfu) : Nat × Int :=
  match t.hotSource th 0 with
  | some x => x
  | none => (t.hotSource th th.criticalHysteresis).getD (4, t.skin.value)

/-- THERMAL_CRITICAL raised for a crossing (R97, R98). -/
def raiseCritical (d : Dev) : Dev :=
  let x := criticalSource d.tst.thermal d.tfu
  raise (.thermalCritical x.1 x.2) d

/-- A crossing of the critical mark in ON: the notice and the grace timer (R97). -/
def criticalCrossing (d : Dev) : Dev :=
  let d := raiseCritical d
  d.setTfu { d.tfu with graceTimer := some (Timer.ofMs d.tst.thermal.criticalGrace) }

/-- The critical mark set anew, without what follows from it. -/
def computeCritical (d : Dev) : Dev :=
  d.setTfu { d.tfu with critical := nextCritical d.tst.thermal d.tfu }

/-! ## Fans (R99 to R105) -/

/-- The FANCURVE entry of a fan (R106). -/
def Dev.curve (d : Dev) (f : Fan) : FanTab := d.tst.fancurve.get f.ix

/-- The low-duty mark set when the commanded duty is below the stall-check duty in force (R103). -/
def markLowDuty (f : Fan) (d : Dev) : Dev :=
  let x := d.fan f
  d.setFan f { x with lowDuty := x.lowDuty || decide (x.duty < x.stallCheckDuty) }

/-- A commanded duty set, with the low-duty mark of the window (R103). -/
def setDuty (f : Fan) (duty : Nat) (d : Dev) : Dev :=
  markLowDuty f (d.setFan f { d.fan f with duty := duty })

/-- The commanded duty of a fitted fan set; an unfitted fan stays at 0 (R99). -/
def setFittedDuty (f : Fan) (duty : Nat) (d : Dev) : Dev :=
  if d.fanFitted f then setDuty f duty d else d

/-- The values of the seven sources, D0 to D3, S, PA, PB; `none`: absent (R88). -/
def Tfu.sourceValues (t : Tfu) : List (Option Int) :=
  (t.heatSources.map fun s => if s.cond = .absent then none else some s.value) ++
    [t.pack.one, t.pack.two]

/-- What one source asks of a fan: its value less the offset, when it is selected and present (R100). -/
def sourceDemand (c : FanTab) (i : Nat) (v : Option Int) : Option Int :=
  match v with
  | none => none
  | some x => if c.sources.testBit i then some (x - c.offsets.getD i 0) else none

/-- The greatest of a list of integers, if any. -/
def greatest : List (Option Int) → Option Int
  | [] => none
  | none :: xs => greatest xs
  | some x :: xs =>
    match greatest xs with
    | none => some x
    | some y => some (max x y)

/-- The demand T of a fan (R100). -/
def fanDemand (c : FanTab) (t : Tfu) : Int :=
  match greatest (t.sourceValues.zipIdx.map fun x => sourceDemand c x.2 x.1) with
  | none => -40
  | some x => saturate (-40) 150 x

/-- The evaluation temperature after a demand (R100). -/
def nextEval (hyst : Nat) (dem eval : Int) : Int :=
  if eval < dem then dem
  else if dem < eval - hyst then dem + hyst
  else eval

/-- The later active points: each whose temperature is above that of the last active one (R101). -/
def laterActive (temp : Int) : List Point → List Point
  | [] => []
  | p :: ps => if temp < p.temp then p :: laterActive p.temp ps else laterActive temp ps

/-- The curve duty at or above the temperature of an active point, with the active points after it
(R101). -/
def curveFrom (e : Int) (p : Point) : List Point → Int
  | [] => p.duty
  | q :: qs =>
    if e < q.temp then
      (p.duty : Int) + (((q.duty : Int) - p.duty) * (e - p.temp)).tdiv (q.temp - p.temp)
    else curveFrom e q qs

/-- The curve duty of an evaluation temperature (R101). -/
def curveDuty (points : List Point) (e : Int) : Int :=
  match points with
  | [] => 0
  | p :: ps => if e < p.temp then (p.duty : Int) else curveFrom e p (laterActive p.temp ps)

/-- Steps 1 to 4 of R102: charge heat, boost floor, closed cap, clamp. -/
def shapedDuty (c : FanTab) (heat boost capped : Bool) (duty : Int) : Nat :=
  let x := if heat then duty + c.heatAddition else duty
  let x := if boost then max x c.boostFloor else x
  let x := if capped then min x c.closedCap else x
  (saturate 0 100 x).toNat

/-- Steps 5 to 7 of R102: a fan fault drives at 100 %, the minimum start duty, and the decrease step
from the present commanded duty. -/
def steppedDuty (c : FanTab) (fault : Bool) (present duty : Nat) : Nat :=
  let x := if fault then 100 else duty
  let x := if 0 < x ∧ x < c.minStart then c.minStart else x
  if x < present then
    let y := max x (present - c.decreaseStep)
    if x = 0 ∧ y < c.minStart then 0 else y
  else x

/-- Either pack's commanded current is at or above the charge-heat threshold (R102). -/
def Dev.chargeHeat (d : Dev) (c : FanTab) : Bool :=
  decide (c.heatThreshold ≤ (d.chp .a).current) || decide (c.heatThreshold ≤ (d.chp .b).current)

/-- The new commanded duty of a fitted fan at an update with this evaluation temperature (R99, R101,
R102). -/
def Dev.updateDuty (d : Dev) (f : Fan) (e : Int) : Nat :=
  let c := d.curve f
  if d.ppu.power = .off then 0
  else
    let fault := (d.fan f).fault || (d.fanFitted (otherFan f) && (d.fan (otherFan f)).fault)
    let capped := d.ppu.posture == .closed && d.ppu.power == .on
    steppedDuty c fault (d.fan f).duty
      (shapedDuty c (d.chargeHeat c) d.tst.settings.boost capped (curveDuty c.points e))

/-- A fan update (R99): the timer restarts, E moves, the duty is worked out.  It is here that the stall
fields of FANCURVE come into force (R102, R166). -/
def fanUpdateEvent (f : Fan) (d : Dev) : Dev :=
  match (d.fan f).updateTimer with
  | none => d
  | some t =>
    let c := d.curve f
    let e := nextEval c.hysteresis (fanDemand c d.tfu) (d.fan f).eval
    let duty := d.updateDuty f e
    setDuty f duty (d.setFan f { d.fan f with
      eval := e, updateTimer := some t.again
      stallCheckDuty := c.stallCheckDuty, stallSpeed := c.stallSpeed })

/-- A change of a fan between OK and FAULT handed on (R77, R104, R105): the notice and the CHG's
allocation with its passes. -/
def fanStateChange (f : Fan) (fault : Bool) (d : Dev) : Dev :=
  allocateAndWrite (raise (.fanFault f fault)
    (d.setFan f { d.fan f with fault := fault, stallCount := 0, recoveryCount := 0 }))

/-- A fan enters FAULT (R104): both fitted fans at 100 %. -/
def fanFaultEntry (f : Fan) (d : Dev) : Dev :=
  fanStateChange f true (setFittedDuty .fan2 100 (setFittedDuty .fan1 100 d))

/-- The end of a window judged for a fan in OK (R104): a stalled window counts, any other clears. -/
def judgeStall (f : Fan) (low : Bool) (rpm : Nat) (d : Dev) : Dev :=
  let x := d.fan f
  let stalled := !low && decide (rpm < x.stallSpeed)
  if stalled && decide (3 ≤ x.stallCount + 1) then fanFaultEntry f d
  else d.setFan f { x with stallCount := if stalled then x.stallCount + 1 else 0 }

/-- The end of a window judged for a fan in FAULT (R105). -/
def judgeRecovery (f : Fan) (rpm : Nat) (d : Dev) : Dev :=
  let x := d.fan f
  let good := decide (x.stallSpeed ≤ rpm)
  if good && decide (3 ≤ x.recoveryCount + 1) then fanStateChange f false d
  else d.setFan f { x with recoveryCount := if good then x.recoveryCount + 1 else 0 }

/-- The rpm of a window (R103). -/
def windowRpm (pulses : Nat) : Nat := min 30000 (pulses * 30)

/-- The next window starts: no pulses, and the low-duty mark set when the duty is below the stall-check
duty then (R103). -/
def startWindow (f : Fan) (d : Dev) : Dev :=
  markLowDuty f (d.setFan f { d.fan f with pulses := 0, lowDuty := false })

/-- The end of a tach window (R103). -/
def tachWindowEvent (f : Fan) (d : Dev) : Dev :=
  match (d.fan f).windowTimer with
  | none => d
  | some t =>
    let x := d.fan f
    let rpm := windowRpm x.pulses
    let d := d.setFan f { x with lastRpm := rpm, windowTimer := some t.again }
    startWindow f (if x.fault then judgeRecovery f rpm d else judgeStall f x.lowDuty rpm d)

/-- A tach pulse of a fitted fan counted in its window (R103). -/
def tachPulseEvent (f : Fan) (d : Dev) : Dev :=
  if d.fanFitted f then d.setFan f { d.fan f with pulses := (d.fan f).pulses + 1 } else d

/-- On entry to OFF a fan in FAULT returns to OK (R105). -/
def offRecovery (f : Fan) (d : Dev) : Dev :=
  if d.fanFitted f && (d.fan f).fault then fanStateChange f false d else d

/-- On entry to OFF both duties become 0 (R99) and a fan in FAULT returns to OK (R105).  DESIGN CHOICE (log
entry 40): of two fans in FAULT, fan 1 returns first. -/
def fansOff (d : Dev) : Dev :=
  offRecovery .fan2 (offRecovery .fan1 (setFittedDuty .fan2 0 (setFittedDuty .fan1 0 d)))

/-- A FANCURVE write at the TFU (R102): a duty above 0 and below the minimum start duty just written is
raised to it.  Every other field waits for the fan's next update, so the low-duty mark stays as it is. -/
def fancurveWritten (f : Fan) (d : Dev) : Dev :=
  if d.fanFitted f then
    let x := d.fan f
    let m := (d.curve f).minStart
    d.setFan f { x with duty := if 0 < x.duty ∧ x.duty < m then m else x.duty }
  else d

/-! ## The change of power state at the TFU (R90, R96 to R99) -/

/-- The die sources and the host report timer on a change of power state (R90): ABSENT and running on
entry to ON, ABSENT and stopped outside ON. -/
def hostPower (d : Dev) : Dev :=
  d.setTfu { d.tfu with
    die := List.replicate 4 Source.gone
    hostTimer :=
      if d.ppu.power = .on then .running (Timer.ofMs d.tst.thermal.hostTimeout) else .stopped }

/-- The critical mark on a change of power state: evaluated and kept; on entry to ON a mark that is SET
is a crossing, and outside ON the grace timer is stopped (R96 to R98).  What entry to SLEEP does stands
in Machine/Watch.lean. -/
def criticalPower (d : Dev) : Dev :=
  let d := computeCritical d
  if d.ppu.power = .on then (if d.tfu.critical then criticalCrossing d else d)
  else d.setTfu { d.tfu with graceTimer := none }

/-- The TFU takes a change of power state. -/
def tfuPower (d : Dev) : Dev :=
  let d := criticalPower (hostPower d)
  if d.ppu.power = .off then fansOff d else d

end Sys2Proof.Machine
end

