-- ==== Sys2Proof/Machine/KeyState.lean ====
section
/-!
DEFINITION. The Key Translation Unit's own operations (chapter 2): lookup, active layer, held-code list,
key reports, and what link DOWN, link UP, a platform reset and a posture change do to it.  Taking raw
events and the restatement stand in Machine/Keys.lean.
-/

namespace Sys2Proof.Machine

/-! ## Lookup and layer (R23, R24) -/

/-- The KEYMAP entry of a position in a layer: index layer × 148 + position (section 2.1). -/
def keymapAt (km : List KeymapEntry) (layer p : Nat) : KeymapEntry :=
  km.getD (layer * Config.positions + p) ⟨.noKey, false⟩

/-- What a press translated with a kind of entry uses; TRANSPARENT read in layer 0 yields NONE (R23). -/
def KeyKind.used : KeyKind → Used
  | .code c => .code c
  | .fn => .fn
  | .action a => .action a
  | .noKey | .transparent => .noKey

/-- The lookup of a position at a layer (R23). -/
def lookup (km : List KeymapEntry) (layer p : Nat) : Used :=
  let e := keymapAt km layer p
  if e.kind = .transparent ∧ layer ≠ 0 then (keymapAt km 0 p).kind.used else e.kind.used

/-- A record that holds layer 1: FN with its swallow flag clear (R24). -/
def holdsFn (r : Option KeyRec) : Bool :=
  match r with
  | none => false
  | some k => k.used == .fn && !k.swallow

/-- The active layer that the records and fn_lock give (R24). -/
def layerOf (recs : List (Option KeyRec)) (fnLock : Bool) : Nat :=
  if recs.any holdsFn then 1 else if fnLock then 2 else 0

/-- The KTU recomputes the active layer (R24). -/
def relayer (d : Dev) : Dev :=
  d.setKtu { d.ktu with layer := layerOf d.ktu.recs d.tst.settings.fnLock }

/-! ## Records, held codes and reports (R25 to R27, R34) -/

/-- The pressed-as record of a position (R25). -/
def Ktu.keyRec (u : Ktu) (p : Nat) : Option KeyRec := u.recs.getD p none

/-- The pressed-as record of a position replaced. -/
def Ktu.setRec (u : Ktu) (p : Nat) (r : Option KeyRec) : Ktu := { u with recs := u.recs.set p r }

/-- A record made with a lookup result and both flags clear. -/
def KeyRec.plain (u : Used) : KeyRec := ⟨u, false, false⟩

/-- The record of a press that is not to be reported: NONE with swallow set. -/
def KeyRec.swallowed : KeyRec := ⟨.noKey, true, false⟩

/-- A report queued: a pending ROLLOVER goes with it (R27, R34). -/
def Ktu.report (u : Ktu) (code : Nat) (release synthesized : Bool) : Ktu :=
  { u with queue := u.queue ++ [⟨code, release, synthesized, u.rollover⟩], rollover := false }

/-- The held-code list holds a code. -/
def holds (held : List (Nat × Nat)) (c : Nat) : Bool := held.any fun h => h.1 == c

/-- A press of a code at a position (R26, R27): one more holder of a code in the list; a new code
appended with a press report; or, with the list full, the position rolled and ROLLOVER pending. -/
def Ktu.pressCode (u : Ktu) (p c : Nat) (synthesized : Bool) : Ktu :=
  if holds u.held c then
    { u.setRec p (some (KeyRec.plain (.code c))) with
      held := u.held.map fun h => if h.1 == c then (h.1, h.2 + 1) else h }
  else if u.held.length < Config.heldSize then
    Ktu.report { u.setRec p (some (KeyRec.plain (.code c))) with held := u.held ++ [(c, 1)] }
      c false synthesized
  else { u.setRec p (some (KeyRec.plain .rolled)) with rollover := true }

/-- A release of a code (R26): one holder less; at 0 the code leaves the list with a release report. -/
def Ktu.releaseCode (u : Ktu) (c : Nat) (synthesized : Bool) : Ktu :=
  if u.held.any (fun h => h.1 == c && h.2 == 1) then
    Ktu.report { u with held := u.held.filter fun h => h.1 != c } c true synthesized
  else
    { u with held := u.held.map fun h => if h.1 == c then (h.1, h.2 - 1) else h }

/-! ## Link DOWN, link UP, platform reset, posture (R38, R40, R41) -/

/-- The KTU takes a link DOWN that comes without a platform reset (R38). -/
def ktuLinkDown (d : Dev) : Dev :=
  relayer (d.setKtu { d.ktu with
    queue := []
    held := []
    rollover := false
    recs := d.ktu.recs.map fun r => r.map fun k => { k with swallow := true }
    restate := .idle })

/-- The KTU takes a platform reset (R41). -/
def ktuPlatformReset (d : Dev) : Dev :=
  relayer (d.setKtu { d.ktu with
    queue := []
    held := []
    rollover := false
    recs := d.ktu.recs.map fun _ => none
    restate := .idle
    wakeKey := none })

/-- The delivery of a wake key (R41): a press report with both flags clear, and when its release has
arrived a release report, with SYNTHESIZED as its raw change had it (R34), and an empty record. -/
def Ktu.deliver (u : Ktu) (w : WakeKey) : Ktu :=
  let u := { u with wakeKey := none }
  let u := Ktu.report { u with held := u.held ++ [(w.code, 1)] } w.code false false
  match w.release with
  | some synthesized =>
    Ktu.report { u.setRec w.pos none with held := u.held.filter fun h => h.1 != w.code }
      w.code true synthesized
  | none =>
    { u with
      recs := u.recs.zipIdx.map fun x =>
        if x.2 == w.pos then x.1.map fun k => { k with slotted := false } else x.1 }

/-- The KTU takes link UP (R41). -/
def ktuLinkUp (d : Dev) : Dev :=
  match d.ktu.wakeKey with
  | none => d
  | some w => relayer (d.setKtu (d.ktu.deliver w))

/-- The KTU takes a posture change (R40): CLOSED or TABLET empties a wake key slot that holds a matrix
position, whose record becomes NONE with swallow set. -/
def ktuPosture (new : Posture) (d : Dev) : Dev :=
  match new, d.ktu.wakeKey with
  | .closed, some w | .tablet, some w =>
    if isMatrix w.pos then
      d.setKtu { d.ktu.setRec w.pos (some KeyRec.swallowed) with wakeKey := none }
    else d
  | _, _ => d

end Sys2Proof.Machine
end

