-- ==== Sys2Proof/Machine/Power.lean ====
section
/-!
DEFINITION. The platform power state machine (chapter 6), the Wake Unit (chapter 7) and the link state
(R183 to R185), with the hand-ons of each change of power state and link state to the other blocks.

Entry to SLEEP, whose hand-ons can come back to the PPU, stands in Machine/Watch.lean.
-/

namespace Sys2Proof.Machine

/-! ## The PKM and a change of power state (R45, R53) -/

/-- The poll interval in force, in ms (R53). -/
def Dev.pollInterval (d : Dev) : Nat :=
  if d.ppu.power = .on then d.tst.power.pollOn else d.tst.power.pollOther

/-- The stale test (R45): telemetry whose age exceeds three poll intervals is stale. -/
def staleTest (interval : Nat) (r : PackRecord) : PackRecord :=
  if r.telemetry.isSome && decide (3 * interval < r.age * 1000) then { r with stale := true } else r

/-- A pack's poll timer brought to the interval in force; a change of the interval makes the stale test
(R45, R53). -/
def PackMonitor.retime (interval : Nat) (m : PackMonitor) : PackMonitor :=
  match m.pollTimer with
  | none => m
  | some t =>
    if t.period = interval * 1000 then m
    else { m with
      pollTimer := some (Timer.ofMs interval), record := staleTest interval m.record }

/-- The PKM takes a change of power state or of POWER (R53). -/
def retimePolls (d : Dev) : Dev :=
  d.setPkm ⟨d.pkm.one.retime d.pollInterval, d.pkm.two.retime d.pollInterval⟩

/-! ## The link state (R183, R184) -/

/-- A stream STOPPED with its slot empty; period, count, mode and remaining count stay (R194). -/
def Stream.halt (s : Stream) : Stream := { s with running := false, timer := none, slot := none }

/-- The NSU takes a link DOWN (R183, R194). -/
def nsuLinkDown (d : Dev) : Dev :=
  d.setNsu { d.nsu with streams := ⟨d.nsu.streams.one.halt, d.nsu.streams.two.halt⟩ }

/-- The PLI empties its link side: receive queue, slots, ready order, the frame being sent (R183). -/
def Pli.clearLink (p : Pli) : Pli :=
  { p with rx := [], slots := p.slots.map fun _ => Slot.empty, readyOrder := [], tx := none }

/-- What every block but the KTU does at link DOWN (R120, R183): the PLI empties its link side, the
streams stop, the segments end sequences and drains, a POWER_REQUEST whose response is discarded is
dropped. -/
def linkDownRest (d : Dev) : Dev :=
  let d := d.setPli { d.pli.clearLink with linkUp := false }
  let d := segLinkDown .seg1 (segLinkDown .seg0 (nsuLinkDown d))
  d.setPpu { d.ppu with request := none }

/-- The link goes DOWN, not by a platform reset (R183). -/
def linkDown (d : Dev) : Dev := ktuLinkDown (linkDownRest d)

/-- The LINK_UP notice with the summary of the sticky wake record (R141). -/
def Wku.summary (w : Wku) : Notice := .linkUp w.lastSource w.lastCause w.powerFault

/-- The NSU takes link UP (R190): a standing LINK_UP is removed, the class joins the pending summary,
and when it is enabled a new LINK_UP stands at the head. -/
def nsuLinkUp (d : Dev) : Dev :=
  let n := d.wku.summary
  let q := d.nsu.queue.filter fun m => m.cls != n.cls
  d.setNsu { d.nsu with
    summary := d.nsu.summary ||| BitVec.twoPow 16 n.cls
    queue := if d.tst.settings.noticeMask.getLsbD n.cls then n :: q else q }

/-- The link goes UP (R184): sequence numbers 0, then the NSU and the KTU take it. -/
def linkUp (d : Dev) : Dev :=
  ktuLinkUp (nsuLinkUp (d.setPli { d.pli with
    linkUp := true, seqKey := 0, seqNotice := 0, seqBattery := 0, seqThermal := 0 }))

/-- The link state that the power state and the platform reset input give (R183). -/
def Dev.linkWanted (d : Dev) : Bool := d.ppu.power == .on && !d.pins.platformReset

/-- The PLI re-derives the link state (R183). -/
def relink (d : Dev) : Dev :=
  if d.linkWanted && !d.pli.linkUp then linkUp d
  else if !d.linkWanted && d.pli.linkUp then linkDown d
  else d

/-! ## Changes of power state (R116) -/

/-- The transition timer of a state as it is entered (R116). -/
def Dev.transitionFor (d : Dev) (st : PowerState) : Option Timer :=
  match st with
  | .poweringUp => some (Timer.ofMs d.tst.power.powerUpTimeout)
  | .sleepEntry | .poweringDown => some (Timer.ofMs d.tst.power.powerDownTimeout)
  | .on | .sleep | .off => none

/-- The power state changes and every block takes the change in the event, in the order of R116: MSE,
PKM, CHG, TFU, then the PLI, which hands a change of the link on. -/
def powerTo (st : PowerState) (d : Dev) : Dev :=
  let d := d.setPpu { d.ppu with power := st, transition := d.transitionFor st }
  relink (tfuPower (chgPower (retimePolls (mseRetime d))))

/-- POWERING_UP entered, and ON in the same event when power-good is asserted (R117, R118). -/
def riseUp (d : Dev) : Dev :=
  let d := powerTo .poweringUp d
  if d.pins.powerGood then powerTo .on d else d

/-- OFF reached: with a restart pending the restart timer starts (R123). -/
def reachOff (d : Dev) : Dev :=
  let d := powerTo .off d
  if d.ppu.restartPending then
    d.setPpu { d.ppu with restartTimer := some (Timer.ofMs d.tst.power.restartOffTime) }
  else d

/-- A shutdown cause handed to the WKU replaces the last one (R137). -/
def handCause (c : Cause) (d : Dev) : Dev := d.setWku { d.wku with lastCause := c }

/-- The POWER_FAULT flag handed to the WKU (R137). -/
def handFault (d : Dev) : Dev := d.setWku { d.wku with powerFault := true }

/-- A power-down (R125): the cause recorded and handed on, POWERING_DOWN entered, and OFF in the same
event when power-good is deasserted already. -/
def powerDown (c : Cause) (d : Dev) : Dev :=
  let d := handCause c (d.setPpu { d.ppu with cause := c, wakeLatch := false })
  let d := powerTo .poweringDown d
  if d.pins.powerGood then d else reachOff d

/-- A forced OFF taken by the PPU (R124). -/
def forcedOff (c : Cause) (d : Dev) : Dev :=
  match d.ppu.power with
  | .on | .poweringUp | .sleepEntry | .sleep =>
    powerDown c (d.setPpu { d.ppu with request := none, wakeLatch := false })
  | .poweringDown =>
    if d.ppu.restartPending then
      handCause c (d.setPpu { d.ppu with restartPending := false, cause := c })
    else d
  | .off =>
    if d.ppu.restartPending then
      handCause c (d.setPpu { d.ppu with restartPending := false, restartTimer := none })
    else d

/-! ## Wakes (R118, R119, R132, R136) -/

/-- A wake taken or latched is recorded (R136). -/
def recordWake (w : WakeSource) (d : Dev) : Dev :=
  d.setWku { d.wku with
    lastSource := some w, seen := d.wku.seen ||| BitVec.twoPow 7 w.index }

/-- A wake taken in OFF or SLEEP (R118): a restart pending is cleared, the recorded cause is NONE, the
state rises. -/
def takeWake (d : Dev) : Dev :=
  riseUp (d.setPpu { d.ppu with restartPending := false, restartTimer := none, cause := .none })

/-- The WAKE entry of a source (R130). -/
def Dev.wakeEntry (d : Dev) (w : WakeSource) : WakeEntry :=
  d.tst.wake.getD w.index ⟨false, false, false⟩

/-- The WKU judges an offer against the power state and WAKE and hands one that qualifies to the PPU
(R132), which latches it in SLEEP_ENTRY (R119) and takes it in SLEEP or OFF (R118). -/
def offerWake (w : WakeSource) (d : Dev) : Dev :=
  match d.ppu.power with
  | .sleepEntry =>
    if (d.wakeEntry w).inSleep then
      recordWake w (d.setPpu { d.ppu with wakeLatch := true })
    else d
  | .sleep => if (d.wakeEntry w).inSleep then takeWake (recordWake w d) else d
  | .off => if (d.wakeEntry w).inOff then takeWake (recordWake w d) else d
  | .poweringUp | .on | .poweringDown => d

end Sys2Proof.Machine
end

