-- ==== Sys2Proof/Machine/Watch.lean ====
section
/-!
DEFINITION. The battery watch and the critical mark as they come back to the PPU (R82, R83, R97, R98),
entry to SLEEP, and the PPU's own events (chapter 6): lid and fold, power button, power-good and the
power timers.
-/

namespace Sys2Proof.Machine

/-! ## The battery watch (R82, R83) -/

/-- The shutdown check of SLEEP (R83): with the wake enable of BATTERY_CRITICAL clear, a system SoC at or
below the shutdown SoC is a forced OFF. -/
def shutdownCheck (d : Dev) : Dev :=
  if d.ppu.power = .sleep ∧ !(d.wakeEntry .batteryCritical).inSleep ∧
      socAtOrBelow d.chg.systemSoc d.tst.power.shutdownSoc then
    forcedOff .battery d
  else d

/-- The watch in SLEEP after the system SoC has been computed (R83): a crossing raises BATTERY_CRITICAL
and offers the wake; then the shutdown check. -/
def watchSleep (crossing : Bool) (d : Dev) : Dev :=
  shutdownCheck (if crossing then
    offerWake .batteryCritical (raise (.batteryCritical (d.chg.systemSoc.getD 0)) d)
  else d)

/-- The watch at an event other than a change of power state (R82, R83). -/
def batteryWatch (d : Dev) : Dev :=
  let was := d.chg.lowMark
  let d := watchCompute d
  match d.ppu.power with
  | .on =>
    if !d.chg.lowMark then stopBatteryGrace d
    else if was then d else batteryCrossing d
  | .sleep => watchSleep (d.chg.lowMark && !was) d
  | .off | .poweringUp | .sleepEntry | .poweringDown => d

/-! ## The critical mark (R97, R98) -/

/-- The critical mark evaluated at an event other than a change of power state (R96 to R98): in ON a
mark that becomes SET is a crossing and one that becomes CLEAR stops the grace timer; in SLEEP a mark
that becomes SET is a forced OFF at once. -/
def criticalWatch (d : Dev) : Dev :=
  let was := d.tfu.critical
  let d := computeCritical d
  match d.ppu.power with
  | .on =>
    if !d.tfu.critical then d.setTfu { d.tfu with graceTimer := none }
    else if was then d else criticalCrossing d
  | .sleep => if d.tfu.critical && !was then forcedOff .thermal (raiseCritical d) else d
  | .off | .poweringUp | .sleepEntry | .poweringDown => d

/-! ## Entry to SLEEP (R98, R83, R119) -/

/-- A low mark or a critical mark that stands set as the state enters SLEEP is a crossing (R83, R98).
The CHG takes the change first, as R116 orders the blocks, and the TFU's forced OFF is handed on
whatever state the CHG's offer has led to. -/
def sleepCrossings (d : Dev) : Dev :=
  let hot := d.tfu.critical
  let d := watchSleep d.chg.lowMark d
  if hot then forcedOff .thermal (raiseCritical d) else d

/-- The wake latch as SLEEP is reached (R119): it clears, and the PPU goes on as for a wake in SLEEP. -/
def takeLatch (d : Dev) : Dev :=
  if d.ppu.wakeLatch then
    let d := d.setPpu { d.ppu with wakeLatch := false }
    if d.ppu.power = .sleep then takeWake d else d
  else d

/-- SLEEP entered from SLEEP_ENTRY (R117): every block takes the change, then a set latch is taken. -/
def enterSleep (d : Dev) : Dev := takeLatch (sleepCrossings (powerTo .sleep d))

/-- SLEEP_ENTRY entered (R121), and SLEEP in the same event when power-good is deasserted already
(R117). -/
def enterSleepEntry (d : Dev) : Dev :=
  let d := powerTo .sleepEntry d
  if d.pins.powerGood then d else enterSleep d

/-! ## Events of the PPU -/

/-- A loss of power in ON (R126): requests and restart cleared, cause NONE and POWER_FAULT handed on,
OFF reached through POWERING_DOWN. -/
def lossOfPower (d : Dev) : Dev :=
  let d := d.setPpu { d.ppu with
    request := none, restartPending := false, restartTimer := none, cause := .none }
  powerTo .off (powerTo .poweringDown (handFault (handCause .none d)))

/-- A change of power-good (R117). -/
def powerGoodEvent (level : Bool) (d : Dev) : Dev :=
  if d.pins.powerGood = level then d
  else
    let d := d.setPins { d.pins with powerGood := level }
    match d.ppu.power, level with
    | .poweringUp, true => powerTo .on d
    | .sleepEntry, false => enterSleep d
    | .poweringDown, false => reachOff d
    | .on, false => lossOfPower d
    | _, _ => d

/-- The transition timer expires in POWERING_UP (R118). -/
def powerUpTimeoutEvent (d : Dev) : Dev :=
  if d.ppu.power = .poweringUp ∧ d.ppu.transition.isSome then powerTo .off (handFault d) else d

/-- The transition timer expires in POWERING_DOWN or SLEEP_ENTRY (R125). -/
def powerDownTimeoutEvent (d : Dev) : Dev :=
  if d.ppu.transition.isNone then d
  else match d.ppu.power with
    | .poweringDown =>
      powerTo .off (handFault (d.setPpu { d.ppu with restartPending := false, restartTimer := none }))
    | .sleepEntry =>
      powerTo .off (handFault (d.setPpu { d.ppu with wakeLatch := false, cause := .none }))
    | .off | .poweringUp | .on | .sleep => d

/-- The restart timer expires (R123). -/
def restartEvent (d : Dev) : Dev :=
  if d.ppu.restartTimer.isSome then
    riseUp (d.setPpu { d.ppu with restartPending := false, restartTimer := none, cause := .none })
  else d

/-- The posture that accepted levels of lid and fold give (R112). -/
def postureOf (lid fold : Option Bool) : Posture :=
  match lid, fold with
  | some true, some _ => .closed
  | some false, some true => .tablet
  | some false, some false => .opened
  | _, _ => .unknown

/-- A change from CLOSED to OPEN or TABLET is an offer of LID_OPEN (R134). -/
def lidOpens (old new : Posture) : Bool := old == .closed && (new == .opened || new == .tablet)

/-- A posture change handed to the MSE, the KTU and the WKU, with its notice (R113); the TFU reads the
posture at its next fan update. -/
def postureChange (new : Posture) (d : Dev) : Dev :=
  let old := d.ppu.posture
  let d := d.setPpu { d.ppu with posture := new }
  let d := ktuPosture new (d.setMse (d.mse.takePosture new))
  let d := raise (.posture old new) d
  if lidOpens old new then offerWake .lidOpen d else d

/-- The posture derived anew after a change of lid or fold (R112). -/
def derivePosture (d : Dev) : Dev :=
  let p := postureOf d.ppu.lid.accepted d.ppu.fold.accepted
  if p = d.ppu.posture then d else postureChange p d

/-- A level of the lid or the fold sensor is accepted (R110, R112). -/
def lidFoldEvent (x : LidFold) (d : Dev) : Dev :=
  match x with
  | .lid b =>
    if d.ppu.lid.accepted = some b then d
    else derivePosture
      ((d.setPins { d.pins with lidClosed := b }).setPpu { d.ppu with lid := Debounce.accept b })
  | .fold b =>
    if d.ppu.fold.accepted = some b then d
    else derivePosture
      ((d.setPins { d.pins with foldFolded := b }).setPpu { d.ppu with fold := Debounce.accept b })

/-- The power button debounced to PRESSED (R114): the override timer starts; a notice in ON, an offer in
SLEEP_ENTRY, SLEEP and OFF. -/
def shortPressEvent (d : Dev) : Dev :=
  if d.ppu.button.accepted = some true then d
  else
    let d := (d.setPins { d.pins with buttonPressed := true }).setPpu { d.ppu with
      button := Debounce.accept true
      overrideTimer := some (Timer.ofMs d.tst.power.overrideHold) }
    match d.ppu.power with
    | .on => raise (.button false) d
    | .sleepEntry | .sleep | .off => offerWake .powerButton d
    | .poweringUp | .poweringDown => d

/-- The power button debounced to RELEASED stops the override timer (R114). -/
def buttonReleaseEvent (d : Dev) : Dev :=
  if d.ppu.button.accepted = some true then
    (d.setPins { d.pins with buttonPressed := false }).setPpu { d.ppu with
      button := Debounce.accept false, overrideTimer := none }
  else d

/-- The override timer expires (R115). -/
def overrideEvent (d : Dev) : Dev :=
  if d.ppu.overrideTimer.isSome then
    forcedOff .buttonOverride (d.setPpu { d.ppu with overrideTimer := none })
  else d

/-- The wake line accepted ACTIVE (R135). -/
def wakeLineEvent (d : Dev) : Dev :=
  if d.wku.line.accepted = some true then d
  else offerWake .wakeLine
    ((d.setPins { d.pins with wakeLow := true }).setWku { d.wku with line := Debounce.accept true })

/-- The wake line accepted INACTIVE (R135). -/
def wakeLineInactiveEvent (d : Dev) : Dev :=
  if d.wku.line.accepted = some true then
    (d.setPins { d.pins with wakeLow := false }).setWku { d.wku with line := Debounce.accept false }
  else d

/-- The battery grace timer expires (R82). -/
def batteryGraceEvent (d : Dev) : Dev :=
  if d.chg.graceTimer.isSome then forcedOff .battery (stopBatteryGrace d) else d

/-- The critical grace timer expires (R97). -/
def criticalGraceEvent (d : Dev) : Dev :=
  if d.tfu.graceTimer.isSome then
    forcedOff .thermal (d.setTfu { d.tfu with graceTimer := none })
  else d

/-- A debounced change of adapter-present (R61, R111): the record with the class sampled, the notice,
the wake offer, the allocation, and the battery watch.  DESIGN CHOICE (log entry 50): at a departure in SLEEP the offer
ADAPTER_CHANGE is judged before the watch, which may cross the low mark and offer BATTERY_CRITICAL; R132 lets either
of two offers that come together be judged first. -/
def adapterEvent (present : Bool) (cls : BitVec 4) (d : Dev) : Dev :=
  if d.ppu.adapter.accepted = some present then d
  else
    let d := (d.setPins { d.pins with adapterPresent := present, adapterClass := cls }).setPpu
      { d.ppu with adapter := Debounce.accept present }
    let d := d.setChg { d.chg with adapter := if present then some cls.toNat else none }
    let d := raise (.adapterChange present (if present then cls.toNat else 0) d.ratedPower) d
    batteryWatch (allocateAndWrite (offerWake .adapterChange d))

/-! ## Commands of chapters 6 and 7, and of the grace timers -/

/-- LID_FOLD_ACCEPT. -/
def execLidFoldAccept (x : LidFold) (s : State) : Host.Outcome State Fault Refusal :=
  s.run (lidFoldEvent x)

/-- SHORT_PRESS. -/
def execShortPress (s : State) : Host.Outcome State Fault Refusal := s.run shortPressEvent

/-- BUTTON_RELEASE. -/
def execButtonRelease (s : State) : Host.Outcome State Fault Refusal := s.run buttonReleaseEvent

/-- OVERRIDE_EXPIRY. -/
def execOverrideExpiry (s : State) : Host.Outcome State Fault Refusal := s.run overrideEvent

/-- POWER_GOOD_CHANGE. -/
def execPowerGoodChange (level : Bool) (s : State) : Host.Outcome State Fault Refusal :=
  s.run (powerGoodEvent level)

/-- POWER_UP_TIMEOUT. -/
def execPowerUpTimeout (s : State) : Host.Outcome State Fault Refusal := s.run powerUpTimeoutEvent

/-- POWER_DOWN_TIMEOUT. -/
def execPowerDownTimeout (s : State) : Host.Outcome State Fault Refusal :=
  s.run powerDownTimeoutEvent

/-- RESTART_TIMER_EXPIRY. -/
def execRestartTimerExpiry (s : State) : Host.Outcome State Fault Refusal := s.run restartEvent

/-- WAKE_LINE_ACCEPT. -/
def execWakeLineAccept (s : State) : Host.Outcome State Fault Refusal := s.run wakeLineEvent

/-- WAKE_LINE_INACTIVE_ACCEPT. -/
def execWakeLineInactiveAccept (s : State) : Host.Outcome State Fault Refusal :=
  s.run wakeLineInactiveEvent

/-- BATTERY_GRACE_EXPIRY. -/
def execBatteryGraceExpiry (s : State) : Host.Outcome State Fault Refusal := s.run batteryGraceEvent

/-- CRITICAL_GRACE_EXPIRY. -/
def execCriticalGraceExpiry (s : State) : Host.Outcome State Fault Refusal := s.run criticalGraceEvent

/-- ADAPTER_PRESENT_ACCEPT. -/
def execAdapterPresentAccept (present : Bool) (cls : BitVec 4) (s : State) :
    Host.Outcome State Fault Refusal :=
  s.run (adapterEvent present cls)

end Sys2Proof.Machine
end

