-- ==== Sys2Proof/Machine/Packs.lean ====
section
/-!
DEFINITION. The Pack Monitor (chapter 3): presence, identification, poll cycles, commits, aborted
cycles and loss of contact.
-/

namespace Sys2Proof.Machine

/-! ## Items (R48 to R50) -/

/-- The ITEMMAP index of the item a cycle reads next: telemetry items 0 to 7, identity items 8 to 10
(R50). -/
def Cycle.itemIndex (c : Cycle) : Nat :=
  match c.kind with
  | .identify => 8 + c.item
  | .poll => c.item

/-- The number of items of a cycle (R51, R54). -/
def CycleKind.items : CycleKind → Nat
  | .identify => 3
  | .poll => 8

/-- The field value of an item from the two bytes read (R49); `none` for a requested value that the pack
leaves out. -/
def itemValue (index : Nat) (data : List Byte) : Option Int :=
  let u := u16At data 0
  let s := s16At data 0
  match index with
  | 0 => some (saturateNat 20000 u)
  | 1 => some (saturate (-10000) 10000 s)
  | 2 => some (saturate (-400) 1500 s)
  | 3 => some (saturateNat 100 u)
  | 5 => if u = 65535 then none else some (saturateNat 10000 u)
  | 6 => if u = 65535 then none else some (saturateNat 20000 u)
  | _ => some u

/-- A staged value as an integer; an absent one, which only a requested value can be, reads 0. -/
def stagedAt (xs : List (Option Int)) (i : Nat) : Int := ((xs.getD i none).getD 0)

/-- The telemetry that a whole staged sample gives (R54). -/
def stagedTelemetry (xs : List (Option Int)) : Telemetry where
  voltage := (stagedAt xs 0).toNat
  current := stagedAt xs 1
  temperature := stagedAt xs 2
  soc := (stagedAt xs 3).toNat
  fullCapacity := (stagedAt xs 4).toNat
  reqCurrent := (xs.getD 5 none).map Int.toNat
  reqVoltage := (xs.getD 6 none).map Int.toNat
  status := PackStatus.ofWord (stagedAt xs 7).toNat

/-- The read of the item that a cycle is at: class 1, with the cycle copy (R48). -/
def packTxn (m : PackMonitor) (c : Cycle) : Txn :=
  internalTxn 1 .pkm false m.copyAddress (m.copyCommands.getD c.itemIndex 0) []

/-! ## The end of a cycle (R52, R54 to R57) -/

/-- A cycle ends: the staged sample is discarded. -/
def PackMonitor.endCycle (m : PackMonitor) : PackMonitor := { m with cycle := none, staged := [] }

/-- A pack source of the TFU follows the committed record (R93). -/
def setPackSource (k : Pack) (v : Option Int) (d : Dev) : Dev :=
  d.setTfu { d.tfu with pack := d.tfu.pack.set k.ix v }

/-- Entry to COMM_LOST (R56): identity and telemetry stay, stale is set if telemetry is present, the CHG
takes a pack lost event, PACK_CHANGE is raised. -/
def enterCommLost (k : Pack) (d : Dev) : Dev :=
  let m := d.mon k
  let d := d.setMon k { m with record := { m.record with
    state := .commLost, stale := m.record.stale || m.record.telemetry.isSome } }
  raise (.packChange k .commLost) (batteryWatch (packGone k false d))

/-- A cycle aborts (R55): the count rises by one, to at most 3, and a count brought to 3 in IDENTIFYING or
READY is a loss of contact. -/
def abortCycle (k : Pack) (d : Dev) : Dev :=
  let m := (d.mon k).endCycle
  let n := min 3 (m.record.failures + 1)
  let d := d.setMon k { m with record := { m.record with failures := n } }
  if n = 3 ∧ (m.record.state = .identifying ∨ m.record.state = .ready) then enterCommLost k d else d

/-- A pack becomes UNSUPPORTED (R52). -/
def enterUnsupported (k : Pack) (d : Dev) : Dev :=
  let m := (d.mon k).endCycle
  let d := d.setMon k { m with
    record := { PackRecord.empty with state := .unsupported }, pollTimer := none, ageTick := none }
  raise (.packChange k .unsupported) (setPackSource k none d)

/-- The record after a commit (R54). -/
def PackRecord.commit (r : PackRecord) (t : Telemetry) : PackRecord :=
  { r with state := .ready, telemetry := some t, stale := false, age := 0, failures := 0 }

/-- The staged sample is committed in one event (R54); the TFU takes the temperature (R93), the CHG the
sample complete, and PACK_CHANGE tells of a record that was not READY. -/
def commitSample (k : Pack) (d : Dev) : Dev :=
  let m := d.mon k
  let t := stagedTelemetry m.staged
  let d1 := d.setMon k { m.endCycle with
    record := m.record.commit t, ageTick := some (Timer.ofMs Config.ageTickMs) }
  let d2 := setPackSource k (some (wholeDegrees t.temperature)) d1
  let d3 := batteryWatch (sampleComplete k d2)
  if m.record.state = .identifying ∨ m.record.state = .commLost then
    raise (.packChange k .ready) d3
  else d3

/-! ## Issuing items -/

/-- The item that the cycle is at is issued (R48).  On a HELD segment it completes SEG_RESET at once and
the cycle ends (R57); on a segment in FAULT it and its retry complete SEG_FAULT at once and the cycle
aborts (R55, R57). -/
def issueItem (k : Pack) (c : Cycle) (d : Dev) : Dev :=
  let d := d.setMon k { d.mon k with cycle := some c }
  let r := submit (segOf k) (packTxn (d.mon k) c) d
  match r.2 with
  | none => r.1.setMon k { r.1.mon k with outstanding := true }
  | some .segReset => r.1.setMon k (r.1.mon k).endCycle
  | some _ => abortCycle k r.1

/-- A cycle begins: the cycle copy is taken from POWER and ITEMMAP and the first item issued (R48,
R51, R54). -/
def beginCycle (k : Pack) (kind : CycleKind) (d : Dev) : Dev :=
  let m := d.mon k
  issueItem k ⟨kind, 0, false⟩ (d.setMon k { m with
    staged := []
    copyAddress := d.tst.power.packAddress.get k.ix
    copyCommands := d.tst.itemmap })

/-- The staged identity is supported: chemistry class 0 to 3 and 1 to 4 cells (R51). -/
def identityOk (chem cells : Int) : Bool :=
  decide (chem ≤ 3) && decide (1 ≤ cells) && decide (cells ≤ 4)

/-- The staged identity is judged (R51): supported, it enters the record and a poll cycle begins at
once; else the pack is UNSUPPORTED. -/
def judgeIdentity (k : Pack) (d : Dev) : Dev :=
  let m := d.mon k
  let chem := stagedAt m.staged 0
  let cells := stagedAt m.staged 1
  if identityOk chem cells then
    let i : Identity := ⟨chem.toNat, cells.toNat, (stagedAt m.staged 2).toNat⟩
    beginCycle k .poll (d.setMon k { m.endCycle with
      record := { m.record with identity := some i } })
  else enterUnsupported k d

/-- The last item of a cycle has been read. -/
def finishCycle (k : Pack) (kind : CycleKind) (d : Dev) : Dev :=
  match kind with
  | .identify => judgeIdentity k d
  | .poll => commitSample k d

/-- An item has been read OK (R49, R51, R54): its value is staged and the cycle goes on or ends. -/
def itemRead (k : Pack) (c : Cycle) (data : List Byte) (d : Dev) : Dev :=
  let m := d.mon k
  let d := d.setMon k { m with staged := m.staged ++ [itemValue c.itemIndex data] }
  if c.item + 1 < c.kind.items then issueItem k ⟨c.kind, c.item + 1, false⟩ d
  else finishCycle k c.kind d

/-- The completion of an orphan is discarded (R47); an identification that waited for it begins
(R46). -/
def orphanCompleted (k : Pack) (d : Dev) : Dev :=
  let d := d.setMon k { d.mon k with outstanding := false, orphan := false }
  if (d.mon k).record.state = .identifying then beginCycle k .identify d else d

/-- A pack item read completes (R47, R54, R55, R57). -/
def packCompleted (k : Pack) (c : Completion) (d : Dev) : Dev :=
  if (d.mon k).orphan then orphanCompleted k d
  else
    let d := d.setMon k { d.mon k with outstanding := false }
    match (d.mon k).cycle with
    | none => d
    | some cy =>
      match c with
      | .ok data => itemRead k cy data d
      | .segReset => d.setMon k (d.mon k).endCycle
      | .addrNack | .dataNack | .timeout | .segFault =>
        if cy.retryUsed then abortCycle k d else issueItem k { cy with retryUsed := true } d

/-! ## Events of the PKM -/

/-- A presence line debounced to ACTIVE (R46). -/
def presenceEvent (k : Pack) (d : Dev) : Dev :=
  if !d.packFitted k || (d.mon k).presence.accepted = some true then d
  else
    let d := d.setPins { d.pins with presence := d.pins.presence.set k.ix true }
    let d := d.setMon k { d.mon k with
      presence := Debounce.accept true
      record := { PackRecord.empty with state := .identifying }
      pollTimer := some (Timer.ofMs d.pollInterval) }
    let d := raise (.packChange k .identifying) d
    if (d.mon k).outstanding then d else beginCycle k .identify d

/-- A presence line debounced to INACTIVE (R47). -/
def removalEvent (k : Pack) (d : Dev) : Dev :=
  if (d.mon k).presence.accepted = some true then
    let d := d.setPins { d.pins with presence := d.pins.presence.set k.ix false }
    let m := d.mon k
    let d := d.setMon k { m.endCycle with
      presence := Debounce.accept false
      record := PackRecord.empty
      pollTimer := none
      ageTick := none
      orphan := m.outstanding }
    raise (.packChange k .absent) (batteryWatch (packGone k true (setPackSource k none d)))
  else d

/-- The kind of cycle that a poll timer expiry starts (R53). -/
def PackMonitor.nextKind (m : PackMonitor) : CycleKind :=
  if m.record.identity.isNone then .identify else .poll

/-- A poll timer expires (R53): the timer restarts; with no cycle and no orphan a cycle begins. -/
def pollEvent (k : Pack) (d : Dev) : Dev :=
  match (d.mon k).pollTimer with
  | none => d
  | some _ =>
    let d := d.setMon k { d.mon k with pollTimer := some (Timer.ofMs d.pollInterval) }
    if (d.mon k).cycle.isNone && !(d.mon k).outstanding then beginCycle k (d.mon k).nextKind d else d

/-- An age tick (R45). -/
def ageEvent (k : Pack) (d : Dev) : Dev :=
  match (d.mon k).ageTick with
  | none => d
  | some t =>
    let m := d.mon k
    d.setMon k { m with
      ageTick := some t.again
      record := staleTest d.pollInterval { m.record with age := min 65535 (m.record.age + 1) } }

/-- PRESENCE_ACTIVE. -/
def execPresenceActive (k : Pack) (s : State) : Host.Outcome State Fault Refusal :=
  s.run (presenceEvent k)

/-- PACK_REMOVAL. -/
def execPackRemoval (k : Pack) (s : State) : Host.Outcome State Fault Refusal :=
  s.run (removalEvent k)

/-- POLL_TIMER_EXPIRY. -/
def execPollTimerExpiry (k : Pack) (s : State) : Host.Outcome State Fault Refusal :=
  s.run (pollEvent k)

/-- AGE_TICK. -/
def execAgeTick (k : Pack) (s : State) : Host.Outcome State Fault Refusal := s.run (ageEvent k)

/-! ## The CHG's own timers -/

/-- The allocation timer expires (R63): it restarts, and an IDLE reader begins an input sample. -/
def allocationEvent (d : Dev) : Dev :=
  match d.chg.allocTimer with
  | none => d
  | some _ =>
    let d := d.setChg { d.chg with allocTimer := some (Timer.ofMs d.allocInterval) }
    if d.chg.reader = .idle then issueInput d.tst.power.cmdInputVoltage .readingVoltage d else d

/-- The fast-charge timer of a pack reaches the profile's time (R70): the stage becomes FAULT.  A current
that became 0 in the event does not stop the expiry. -/
def fastChargeEvent (k : Pack) (d : Dev) : Dev :=
  if (d.chp k).timerMode = .running ∨
      ((d.chp k).stage.timed ∧ d.fastChargeLimit k ≤ (d.chp k).elapsedUs) then
    changeStage k .fault d
  else d

/-- The packs whose record is not ABSENT (R80).  DESIGN CHOICE (log entry 46): their passes are begun A first, so
that with both segments in FAULT pack B's CHARGE_STAGE notice stands. -/
def Dev.presentPacks (d : Dev) : List Pack :=
  [Pack.a, Pack.b].filter fun k => (d.mon k).record.state != .absent

/-- The refresh timer expires (R80): it restarts, and each pack whose record is not ABSENT starts a write
pass. -/
def refreshEvent (d : Dev) : Dev :=
  match d.chg.refreshTimer with
  | none => d
  | some _ =>
    let d := d.setChg { d.chg with refreshTimer := some (Timer.ofMs d.tst.power.refresh) }
    startPasses 8 d.presentPacks d

/-- ALLOCATION_TIMER_EXPIRY. -/
def execAllocationTimerExpiry (s : State) : Host.Outcome State Fault Refusal := s.run allocationEvent

/-- FAST_CHARGE_EXPIRY. -/
def execFastChargeExpiry (k : Pack) (s : State) : Host.Outcome State Fault Refusal :=
  s.run (fastChargeEvent k)

/-- CHARGER_REFRESH_EXPIRY. -/
def execChargerRefreshExpiry (s : State) : Host.Outcome State Fault Refusal := s.run refreshEvent

/-! ## The TFU's inputs (R89 to R92) -/

/-- A skin read fails (R92): the third failure in a row makes S FAIL_SAFE. -/
def skinFailed (d : Dev) : Dev :=
  let n := d.tfu.skinFailures
  let d := d.setTfu { d.tfu with skinReading := false, skinFailures := min 3 (n + 1) }
  if n = 2 then
    let d := d.setTfu { d.tfu with skin := ⟨d.tst.thermal.failSafe, .failSafe⟩ }
    criticalWatch (evalZone (raise (.thermalInputLost true) d))
  else d

/-- A skin read completes (R91, R92). -/
def skinCompleted (c : Completion) (d : Dev) : Dev :=
  match c with
  | .ok data =>
    criticalWatch (evalZone (d.setTfu { d.tfu with
      skin := ⟨saturate (-40) 150 (s16At data 0), .real⟩, skinFailures := 0, skinReading := false }))
  | .addrNack | .dataNack | .timeout | .segReset | .segFault => skinFailed d

/-- The read of the skin sensor: class 2 on SEG1 (R91). -/
def skinTxn (d : Dev) : Txn :=
  internalTxn 2 .skin false d.tst.power.skinAddress d.tst.thermal.skinCommand []

/-- The skin read timer expires (R91): it restarts, and an IDLE reader issues a read. -/
def skinTimerEvent (d : Dev) : Dev :=
  match d.tfu.skinTimer with
  | none => d
  | some t =>
    let d := d.setTfu { d.tfu with skinTimer := some t.again }
    if d.tfu.skinReading then d
    else
      let r := submit .seg1 (skinTxn d) d
      match r.2 with
      | none => r.1.setTfu { r.1.tfu with skinReading := true }
      | some _ => skinFailed r.1

/-- The host report timer expires (R90): D0 to D3 become FAIL_SAFE, the notice is raised, the critical
mark is evaluated. -/
def hostTimeoutEvent (d : Dev) : Dev :=
  match d.tfu.hostTimer with
  | .running _ =>
    let d := d.setTfu { d.tfu with
      hostTimer := .expired
      die := List.replicate 4 ⟨d.tst.thermal.failSafe, .failSafe⟩ }
    criticalWatch (raise (.thermalInputLost false) d)
  | .stopped | .expired => d

/-- The die sources that a TEMP_REPORT payload gives (R89): n values REAL and saturated, the rest
ABSENT. -/
def reportedDie (payload : List Byte) : List Source :=
  (List.range 4).map fun i =>
    if 2 * i + 1 < payload.length then
      ⟨saturate (-40) 150 (s16At payload (2 * i)), .real⟩
    else Source.gone

/-- A TEMP_REPORT taken by the TFU (R89): a payload of 2, 4, 6 or 8 bytes sets the die sources, restarts
the host report timer and evaluates the critical mark; any other is discarded. -/
def takeTempReport (payload : List Byte) (d : Dev) : Dev :=
  if payload.length ∈ [2, 4, 6, 8] then
    criticalWatch (d.setTfu { d.tfu with
      die := reportedDie payload
      hostTimer := .running (Timer.ofMs d.tst.thermal.hostTimeout) })
  else d

/-- HOST_REPORT_TIMEOUT. -/
def execHostReportTimeout (s : State) : Host.Outcome State Fault Refusal := s.run hostTimeoutEvent

/-- SKIN_READ_TIMER_EXPIRY. -/
def execSkinReadTimerExpiry (s : State) : Host.Outcome State Fault Refusal := s.run skinTimerEvent

/-- FAN_UPDATE. -/
def execFanUpdate (f : Fan) (s : State) : Host.Outcome State Fault Refusal := s.run (fanUpdateEvent f)

/-- TACH_PULSE. -/
def execTachPulse (f : Fan) (s : State) : Host.Outcome State Fault Refusal := s.run (tachPulseEvent f)

/-- TACH_WINDOW_END. -/
def execTachWindowEnd (f : Fan) (s : State) : Host.Outcome State Fault Refusal :=
  s.run (tachWindowEvent f)

end Sys2Proof.Machine
end

