-- ==== Sys2Proof/Machine/Completions.lean ====
section
/-!
DEFINITION. What a Segment Controller hands on (chapter 8): the completion of the transaction in flight,
the stretch timeout, the end of a recovery, entry to FAULT, SEGMENT_RESET, and the idle timer of a
sequence.

A completion that goes on while the segment is BUSY keeps it BUSY until the requester has taken it, so a
transaction that the requester issues in the event arrives behind it and the arbiter acts last (R145,
R146).
-/

namespace Sys2Proof.Machine

/-! ## Handing a completion on (R146, R151, R154, R158) -/

/-- The response that the completion of a class-3 transaction puts in its slot: OK with the bytes read,
OK alone for a write, else the completion's status (R151). -/
def Completion.response (c : Completion) : Response :=
  match c with
  | .ok data => ⟨.ok, false, data⟩
  | .addrNack | .dataNack | .timeout | .segReset | .segFault => ⟨c.status, false, []⟩

/-- The idle timer of an OPEN sequence restarts (R154). -/
def restartIdle (g : Seg) (d : Dev) : Dev :=
  match (d.seg g).sequence with
  | .opened _ =>
    d.setSeg g { d.seg g with sequence := .opened (Timer.ofMs Config.sequenceIdleMs) }
  | .noSeq | .pending _ => d

/-- The result of a class-3 transaction goes to the slot that still waits for it (R151). -/
def answerHub (t : Txn) (c : Completion) (d : Dev) : Dev :=
  match t.slot with
  | none => d
  | some i => answerWith i c.response d

/-- A pass-through transaction completes: its slot is answered (R151), a write leaves the sets of the
drains (R158), a member restarts the idle timer (R154). -/
def hubCompleted (g : Seg) (t : Txn) (c : Completion) (d : Dev) : Dev :=
  let d := answerHub t c d
  let d := if t.write then drainCompleted g t.order d else d
  if t.member then restartIdle g d else d

/-- A completion handed to its requester (R146). -/
def deliver (g : Seg) (t : Txn) (c : Completion) (d : Dev) : Dev :=
  match t.requester with
  | .charger => chargerCompleted (packOf g) c d
  | .pkm => packCompleted (packOf g) c d
  | .input => inputCompleted c d
  | .skin => skinCompleted c d
  | .hub => hubCompleted g t c d

/-! ## The transaction in flight (R144, R147) -/

/-- The transaction in flight on a BUSY segment. -/
def Segment.current (sg : Segment) : Option Txn :=
  if sg.state = .busy then sg.queue.find? fun t => t.inFlight else none

/-- The segment without the record in flight, in a state. -/
def Segment.drop (sg : Segment) (st : SegState) : Segment :=
  { sg with
    state := st
    queue := sg.queue.filter fun t => !t.inFlight
    stretch := none
    startWait := false }

/-- Both lines of a segment read high. -/
def linesHigh (g : Seg) (d : Dev) : Dev :=
  d.setPins { d.pins with
    clockHigh := d.pins.clockHigh.set g.ix true, dataHigh := d.pins.dataHigh.set g.ix true }

/-- The segment becomes IDLE and the arbiter acts. -/
def becomeIdle (g : Seg) (d : Dev) : Dev :=
  arbitrate g (d.setSeg g { d.seg g with state := .idle })

/-- The transaction in flight ends with a stop, OK or with a NACK (R144, R146, R147). -/
def finishTxn (g : Seg) (t : Txn) (c : Completion) (d : Dev) : Dev :=
  let d := linesHigh g d
  becomeIdle g (deliver g t c (d.setSeg g ((d.seg g).drop .busy)))

/-- The lines of a segment as a stretch timeout shows them (R147): a line that the transaction in flight
waits on is low.  DESIGN CHOICE (log entry 26): where none reads low yet, the device held the clock low
after a byte. -/
def showStretch (g : Seg) (d : Dev) : Dev :=
  if d.waitsOnLine g then d
  else d.setPins { d.pins with clockHigh := d.pins.clockHigh.set g.ix false }

/-- The transaction in flight completes TIMEOUT and the segment is RECOVERING (R147). -/
def timeoutTxn (g : Seg) (t : Txn) (d : Dev) : Dev :=
  let d := showStretch g d
  deliver g t .timeout (d.setSeg g { (d.seg g).drop .recovering with fromFault := false })

/-- The number of bytes that an OK completion carries (R144). -/
def Txn.okLength (t : Txn) : Nat := if t.write then 0 else t.length

/-- The transaction in flight ends as the bus shows (R144, R147).  An OK that does not carry the bytes of
the record is no event of the bus. -/
def endTxn (g : Seg) (t : Txn) (e : BusEnd) (d : Dev) : Dev :=
  match e with
  | .ok data => if data.length = t.okLength then finishTxn g t (.ok data) d else d
  | .addrNack => finishTxn g t .addrNack d
  | .dataNack => finishTxn g t .dataNack d
  | .timeout => timeoutTxn g t d

/-- TRANSACTION_COMPLETE: the transaction in flight ends OK or with a NACK, whoever asked for it. -/
def transactionEvent (g : Seg) (e : BusEnd) (d : Dev) : Dev :=
  match (d.seg g).current with
  | none => d
  | some t => if e.notTimeout then endTxn g t e d else d

/-- The completion of the transaction in flight when it belongs to this requester. -/
def completionFor (g : Seg) (who : Requester) (e : BusEnd) (d : Dev) : Dev :=
  match (d.seg g).current with
  | none => d
  | some t => if t.requester = who then endTxn g t e d else d

/-- The stretch timer reaches its limit (R147). -/
def stretchEvent (g : Seg) (d : Dev) : Dev :=
  match (d.seg g).current with
  | none => d
  | some t => timeoutTxn g t d

/-! ## Recovery and FAULT (R148, R157) -/

/-- Records completed one after another with one status. -/
def deliverAll (g : Seg) (c : Completion) (q : List Txn) (d : Dev) : Dev :=
  q.foldl (fun d t => deliver g t c d) d

/-- The segment emptied of its queue, in a state in which the part drives neither line. -/
def Segment.emptied (sg : Segment) (st : SegState) : Segment :=
  { sg with state := st, queue := [], stretch := none, fromFault := false, startWait := false }

/-- Entry to FAULT (R148): the queue completes SEG_FAULT in arrival order, the sequence ends, the notice
is raised. -/
def enterFault (g : Seg) (d : Dev) : Dev :=
  let q := (d.seg g).queue
  let d := deliverAll g .segFault q (d.setSeg g ((d.seg g).emptied .fault))
  raise (.segmentEvent g .fault) (stopSequence g .segFault d)

/-- A recovery that ends with the data line high (R148, R157): RECOVERED when it was a RELEASE from FAULT
that started it. -/
def recovered (g : Seg) (d : Dev) : Dev :=
  let was := (d.seg g).fromFault
  let d := d.setSeg g { d.seg g with fromFault := false }
  becomeIdle g (if was then raise (.segmentEvent g .recovered) d else d)

/-- The lines of a segment after the stop of a recovery (R148): the clock high, the data line as it
reads. -/
def recoveryLines (g : Seg) (high : Bool) (d : Dev) : Dev :=
  d.setPins { d.pins with
    clockHigh := d.pins.clockHigh.set g.ix true, dataHigh := d.pins.dataHigh.set g.ix high }

/-- The end of a recovery (R148). -/
def recoveryEvent (g : Seg) (high : Bool) (d : Dev) : Dev :=
  if (d.seg g).state = .recovering then
    let d := recoveryLines g high d
    if high then recovered g d else enterFault g d
  else d

/-! ## SEGMENT_RESET (R156, R157) -/

/-- The records of a queue with the one in flight first, the waiting ones in arrival order after it. -/
def inFlightFirst (q : List Txn) : List Txn :=
  (q.filter fun t => t.inFlight) ++ q.filter fun t => !t.inFlight

/-- The segment becomes HELD (R156): the transaction in flight and then the waiting ones complete
SEG_RESET, the sequence ends, and the CHG runs an allocation. -/
def enterHeld (g : Seg) (d : Dev) : Dev :=
  let q := inFlightFirst (d.seg g).queue
  let d := deliverAll g .segReset q (d.setSeg g ((d.seg g).emptied .held))
  allocateAndWrite (stopSequence g .segReset d)

/-- SEGMENT_RESET HOLD (R156): refused while the pack of the segment has a commanded current. -/
def holdSegment (g : Seg) (i : Nat) (d : Dev) : Dev :=
  if (d.chp (packOf g)).current ≠ 0 then answer i .busy d
  else if (d.seg g).state = .held then answer i .ok d
  else answer i .ok (enterHeld g d)

/-- The part drives the bus again: the segment leaves HELD, with an allocation, and the arbiter acts
(R157). -/
def leaveHeld (g : Seg) (d : Dev) : Dev :=
  arbitrate g (allocateAndWrite (d.setSeg g { d.seg g with state := .idle }))

/-- SEGMENT_RESET RELEASE (R157). -/
def releaseSegment (g : Seg) (i : Nat) (d : Dev) : Dev :=
  match (d.seg g).state with
  | .held => answer i .ok (leaveHeld g d)
  | .fault =>
    answer i .ok (d.setSeg g { d.seg g with state := .recovering, fromFault := true })
  | .idle | .busy | .recovering => answer i .ok d

/-! ## The idle timer of a sequence (R155) -/

/-- The idle timer expires: the OPEN sequence closes with the notice SEQ_TIMEOUT (R155). -/
def sequenceIdleEvent (g : Seg) (d : Dev) : Dev :=
  match (d.seg g).sequence with
  | .opened _ => arbitrate g (raise (.segmentEvent g .seqTimeout) (endSequence g d))
  | .noSeq | .pending _ => d

/-! ## Commands -/

/-- TRANSACTION_COMPLETE. -/
def execTransactionComplete (g : Seg) (e : BusEnd) (s : State) : Host.Outcome State Fault Refusal :=
  s.run (transactionEvent g e)

/-- STRETCH_TIMEOUT. -/
def execStretchTimeout (g : Seg) (s : State) : Host.Outcome State Fault Refusal :=
  s.run (stretchEvent g)

/-- RECOVERY_END. -/
def execRecoveryEnd (g : Seg) (dataHigh : Bool) (s : State) : Host.Outcome State Fault Refusal :=
  s.run (recoveryEvent g dataHigh)

/-- SEQUENCE_IDLE_EXPIRY. -/
def execSequenceIdleExpiry (g : Seg) (s : State) : Host.Outcome State Fault Refusal :=
  s.run (sequenceIdleEvent g)

/-- PACK_ITEM_COMPLETION: the completion of the PKM's read on the pack's segment. -/
def execPackItemCompletion (k : Pack) (e : BusEnd) (s : State) : Host.Outcome State Fault Refusal :=
  s.run (completionFor (segOf k) .pkm e)

/-- INPUT_READ_COMPLETION: the completion of the input reader's read on SEG0. -/
def execInputReadCompletion (e : BusEnd) (s : State) : Host.Outcome State Fault Refusal :=
  s.run (completionFor .seg0 .input e)

/-- CHARGER_WRITE_COMPLETION: the completion of the charger writer's write on the pack's segment. -/
def execChargerWriteCompletion (k : Pack) (e : BusEnd) (s : State) :
    Host.Outcome State Fault Refusal :=
  s.run (completionFor (segOf k) .charger e)

/-- SKIN_READ_COMPLETION: the completion of the skin reader's read on SEG1. -/
def execSkinReadCompletion (e : BusEnd) (s : State) : Host.Outcome State Fault Refusal :=
  s.run (completionFor .seg1 .skin e)

end Sys2Proof.Machine
end

