-- ==== Sys2Proof/Machine/Records.lean ====
section
/-!
DEFINITION. The BATTERY, THERMAL and KEYBOARD records (R196), the SHADOW answer of a pack item (R59) and
the status streams (chapter 11).
-/

namespace Sys2Proof.Machine

/-! ## The BATTERY record (R58, R87, R196) -/

/-- A value that may be absent, sent as 0 then (R196). -/
def orZero (x : Option Nat) : Nat := x.getD 0

/-- The common part of the BATTERY record: 88 bits. -/
def batteryCommon (d : Dev) : List (Nat × Nat) :=
  [(1, bitOf d.chg.adapter.isSome), (1, bitOf (d.chg.vIn.isSome && d.chg.iSys.isSome)),
    (1, bitOf d.chg.fallback), (4, orZero d.chg.adapter), (7, d.chg.systemSoc.getD 127),
    (18, d.ratedPower), (18, d.chg.headroom), (15, orZero d.chg.vIn), (14, orZero d.chg.iSys), (9, 0)]

/-- The fields of absent telemetry (R196). -/
def Telemetry.zero : Telemetry :=
  ⟨0, 0, 0, 0, 0, none, none, ⟨false, false, false, false, false⟩⟩

/-- A pack block of the BATTERY record: 184 bits. -/
def packBlock (r : PackRecord) (c : ChargePack) : List (Nat × Nat) :=
  let i := r.identity.getD ⟨0, 1, 0⟩
  let t := r.telemetry.getD Telemetry.zero
  [(3, r.state.code), (3, c.stage.code), (2, r.failures),
    (1, bitOf r.identity.isSome), (1, bitOf r.telemetry.isSome), (1, bitOf t.reqCurrent.isSome),
    (1, bitOf t.reqVoltage.isSome), (1, bitOf r.stale),
    (2, i.cells - 1), (2, i.chemistry),
    (1, bitOf t.status.empty), (1, bitOf t.status.full), (1, bitOf t.status.terminate),
    (1, bitOf t.status.overTemp), (1, bitOf t.status.overCharge),
    (16, i.designCapacity), (16, t.fullCapacity), (15, t.voltage), (15, twosOf 15 t.current),
    (12, twosOf 12 t.temperature), (7, t.soc), (16, r.age), (14, orZero t.reqCurrent),
    (15, orZero t.reqVoltage), (10, c.current / 8), (15, c.voltage), (11, c.elapsedUs / 60000000)]

/-- The BATTERY record: 57 bytes (R196). -/
def batteryRecord (d : Dev) : List Byte :=
  leBytes 11 (packBits (batteryCommon d)) ++
  leBytes 23 (packBits (packBlock (d.mon .a).record (d.chp .a))) ++
  leBytes 23 (packBits (packBlock (d.mon .b).record (d.chp .b)))

/-! ## The THERMAL record (R109, R196) -/

/-- The host report timer's code (R196). -/
def HostTimer.code : HostTimer → Nat
  | .stopped => 0
  | .running _ => 1
  | .expired => 2

/-- A pack temperature as the record gives it: saturated to −40 to 150 °C, 0 when absent (R109). -/
def packTemp (v : Option Int) : Int :=
  match v with
  | none => 0
  | some x => saturate (-40) 150 x

/-- The critical grace remaining, floored to ms (DEDUCED, log entry 23), 65535 when stopped (R196). -/
def graceRemaining (t : Option Timer) : Nat :=
  match t with
  | none => 65535
  | some t => t.left / 1000

/-- The block of a fan in the THERMAL record: 6 bytes. -/
def fanBlock (fitted : Bool) (x : FanState) : List Byte :=
  [byteOf (packBits [(1, bitOf fitted), (1, bitOf x.fault)])] ++ s16Bytes x.eval ++
    [byteOf x.duty] ++ leBytes 2 x.lastRpm

/-- The condition code of the die source at an index. -/
def Tfu.dieCode (t : Tfu) (i : Nat) : Nat := (t.die.getD i Source.gone).cond.code

/-- The THERMAL record: 31 bytes (R196). -/
def thermalRecord (d : Dev) : List Byte :=
  let t := d.tfu
  ((List.range 4).map fun i => s16Bytes (t.die.getD i Source.gone).value).flatten ++
  s16Bytes t.skin.value ++ s16Bytes (packTemp t.pack.one) ++ s16Bytes (packTemp t.pack.two) ++
  [byteOf (packBits [(2, t.dieCode 0), (2, t.dieCode 1), (2, t.dieCode 2), (2, t.dieCode 3)]),
    byteOf (packBits [(2, t.skin.cond.code), (1, bitOf t.pack.one.isSome),
      (1, bitOf t.pack.two.isSome), (2, t.hostTimer.code), (1, bitOf t.critical)]),
    byteOf (packBits [(2, t.skinFailures), (2, t.zone)])] ++
  leBytes 2 (graceRemaining t.graceTimer) ++
  fanBlock (d.fanFitted .fan1) (d.fan .fan1) ++ fanBlock (d.fanFitted .fan2) (d.fan .fan2)

/-! ## The KEYBOARD record (R21, R43, R196) -/

/-- The number of position records with a property. -/
def countRecs (f : PosRec → Bool) (recs : List PosRec) : Nat := (recs.filter f).length

/-- The wake key slot's code (R196). -/
def wakeKeyCode (w : Option WakeKey) : Nat :=
  match w with
  | none => 0
  | some w => if w.release.isSome then 2 else 1

/-- The KEYBOARD record: 8 bytes (R196). -/
def keyboardRecord (d : Dev) : List Byte :=
  let m := d.mse
  let u := d.ktu
  [packBits [(2, m.scanState.code), (1, bitOf m.overrun), (1, bitOf u.rollover),
      (1, bitOf (u.restate != .idle)), (2, wakeKeyCode u.wakeKey)],
    m.raw.length, countRecs (fun r => r.down) m.recs, countRecs (fun r => r.suspect) m.recs,
    countRecs (fun r => r.masked) m.recs, u.layer, u.held.length, u.queue.length].map byteOf

/-! ## SHADOW (R59) -/

/-- The value of the item with an index as the pack itself sends it; `none` when the record lacks the
field (R59). -/
def PackRecord.item (r : PackRecord) (index : Nat) : Option Nat :=
  match index with
  | 0 => r.telemetry.map fun t => t.voltage
  | 1 => r.telemetry.map fun t => twosOf 16 t.current
  | 2 => r.telemetry.map fun t => twosOf 16 t.temperature
  | 3 => r.telemetry.map fun t => t.soc
  | 4 => r.telemetry.map fun t => t.fullCapacity
  | 5 => r.telemetry.bind fun t => t.reqCurrent
  | 6 => r.telemetry.bind fun t => t.reqVoltage
  | 7 => r.telemetry.map fun t => t.status.word
  | 8 => r.identity.map fun i => i.chemistry
  | 9 => r.identity.map fun i => i.cells
  | 10 => r.identity.map fun i => i.designCapacity
  | _ => none

/-- The first ITEMMAP item that holds a command byte (R59). -/
def itemOf (map : List Nat) (command : Nat) : Option Nat :=
  (map.zipIdx.find? fun x => x.1 == command).map Prod.snd

/-- The answer to a SHADOW read of two bytes (R59). -/
def shadowAnswer (g : Seg) (command : Nat) (d : Dev) : Response :=
  let v : Option Nat :=
    match itemOf d.tst.itemmap command with
    | none => none
    | some i => (d.mon (packOf g)).record.item i
  match v with
  | none => ⟨.absent, false, []⟩
  | some x => ⟨.ok, false, leBytes 2 x⟩

/-! ## Streams (R33, R192, R193) -/

/-- The record that a stream sends (R193). -/
def streamRecord (i : StreamId) (d : Dev) : List Byte :=
  match i with
  | .battery => batteryRecord d
  | .thermal => thermalRecord d

/-- A frame built into a stream's slot: it carries SKIPPED when it replaces one (R193). -/
def buildFrame (i : StreamId) (remaining : Nat) (half complete : Bool) (d : Dev) : Dev :=
  let s := d.stream i
  d.setStream i { s with
    slot := some ⟨remaining, s.slot.isSome, half, complete, streamRecord i d⟩ }

/-- The BATTERY_REPORT action (R33): the remaining count as it stands, neither HALF nor COMPLETE. -/
def batteryReport (d : Dev) : Dev :=
  buildFrame .battery (d.stream .battery).remaining false false d

/-- The remaining count after an expiry's build (R193): a CIRCULAR stream at 0 reloads N. -/
def Stream.afterBuild (s : Stream) : Stream :=
  let left := s.remaining - 1
  if left = 0 then
    if s.circular then
      { s with remaining := s.count, timer := some (Timer.ofMs s.periodMs) }
    else { s with remaining := 0, running := false, timer := none }
  else { s with remaining := left, timer := some (Timer.ofMs s.periodMs) }

/-- The period timer of a RUNNING stream expires (R193). -/
def streamEvent (i : StreamId) (d : Dev) : Dev :=
  let s := d.stream i
  if s.running then
    let left := s.remaining - 1
    let d := buildFrame i left (decide (2 ≤ s.count) && left == s.count / 2) (left == 0) d
    d.setStream i (d.stream i).afterBuild
  else d

/-- STREAM_PERIOD_EXPIRY. -/
def execStreamPeriodExpiry (i : StreamId) (s : State) : Host.Outcome State Fault Refusal :=
  s.run (streamEvent i)

end Sys2Proof.Machine
end

