-- ==== Sys2Proof/Machine/Keys.lean ====
section
/-!
DEFINITION. The Key Translation Unit at work (chapter 2): presses, releases and RESYNCs taken from the raw
event queue with the link UP and DOWN, action keys, and the restatement.
-/

namespace Sys2Proof.Machine

/-! ## Action keys (R32, R33) -/

/-- The three switches of SETTINGS that an action key inverts, by action id (section 2.6). -/
inductive Switch where
  | ceiling
  | boost
  | fnLock
  deriving DecidableEq, Repr

/-- The action id of a switch, and its field code in SETTINGS_CHANGED (section 2.6, R196). -/
def Switch.action : Switch → Nat
  | .ceiling => 1
  | .boost => 2
  | .fnLock => 3

/-- The field code of a switch in SETTINGS_CHANGED (R196). -/
def Switch.field : Switch → Nat
  | .ceiling => 0
  | .boost => 1
  | .fnLock => 2

/-- The value of a switch. -/
def SettingsTab.switch (t : SettingsTab) : Switch → Bool
  | .ceiling => t.ceilingEnable
  | .boost => t.boost
  | .fnLock => t.fnLock

/-- SETTINGS with a switch inverted. -/
def SettingsTab.toggle (t : SettingsTab) : Switch → SettingsTab
  | .ceiling => { t with ceilingEnable := !t.ceilingEnable }
  | .boost => { t with boost := !t.boost }
  | .fnLock => { t with fnLock := !t.fnLock }

/-- What the reader of a switch does at its change (R172): the CHG runs an allocation, the KTU recomputes
the layer, the TFU reads boost at its next updates. -/
def switchChanged (x : Switch) (d : Dev) : Dev :=
  match x with
  | .ceiling => allocateAndWrite d
  | .boost => d
  | .fnLock => relayer d

/-- A toggle action (R32): refused with ACTION_LOCKED on a locked SETTINGS, else the field inverts, the
reservation clears and SETTINGS_CHANGED is raised. -/
def toggleAction (x : Switch) (d : Dev) : Dev :=
  if d.tst.isLocked .settings then raise (.actionLocked x.action) d
  else
    let t := d.tst.settings.toggle x
    let d := d.setTst ({ d.tst with settings := t }.reserve .settings false)
    switchChanged x (raise (.settingsChanged x.field (t.switch x)) d)

/-- The five actions, by id (section 2.6). -/
def performAction (id : Nat) (d : Dev) : Dev :=
  match id with
  | 1 => toggleAction .ceiling d
  | 2 => toggleAction .boost d
  | 3 => toggleAction .fnLock d
  | 4 => raise (.button true) d
  | 5 => batteryReport d
  | _ => d

/-! ## Changes with the link UP (R29 to R31) -/

/-- Matrix positions are left out under the posture CLOSED or TABLET (R29, R36). -/
def Dev.shut (d : Dev) (p : Nat) : Bool :=
  isMatrix p && (d.ppu.posture == .closed || d.ppu.posture == .tablet)

/-- A position pressed with a lookup result (R29, R36): the action is left to the caller. -/
def pressUsed (p : Nat) (u : Used) (synthesized : Bool) (d : Dev) : Dev :=
  match u with
  | .code c => d.setKtu (d.ktu.pressCode p c synthesized)
  | .fn => relayer (d.setKtu (d.ktu.setRec p (some (KeyRec.plain .fn))))
  | .action _ | .noKey | .rolled => d.setKtu (d.ktu.setRec p (some (KeyRec.plain u)))

/-- The lookup of a position at the active layer. -/
def Dev.lookupActive (d : Dev) (p : Nat) : Used := lookup d.tst.keymap d.ktu.layer p

/-- A press taken with the link UP (R29, R31). -/
def pressUp (p : Nat) (d : Dev) : Dev :=
  match d.ktu.keyRec p with
  | some _ => d
  | none =>
    if d.shut p then d.setKtu (d.ktu.setRec p (some KeyRec.swallowed))
    else
      let u := d.lookupActive p
      let d := pressUsed p u false d
      match u with
      | .action a => performAction a d
      | .code _ | .fn | .noKey | .rolled => d

/-- A release taken with the link UP acts on the record and empties it (R30, R31). -/
def releaseUp (p : Nat) (synthesized : Bool) (d : Dev) : Dev :=
  match d.ktu.keyRec p with
  | none => d
  | some k =>
    let u :=
      match k.used, k.swallow with
      | .code c, false => d.ktu.releaseCode c synthesized
      | _, _ => d.ktu
    relayer (d.setKtu (u.setRec p none))

/-! ## The restatement (R35, R36) -/

/-- The key report queue is full. -/
def Ktu.full (u : Ktu) : Bool := decide (Config.keyQueueSize ≤ u.queue.length)

/-- A position that is DOWN with its suspect and masked flags clear (R36, R40). -/
def Mse.plainDown (m : Mse) (p : Nat) : Bool :=
  let r := m.recs.getD p PosRec.up
  r.down && !r.suspect && !r.masked

/-- The positions. -/
def allPositions : List Nat := List.range Config.positions

/-- The end of step 1 and step 2 (R36): the held-code list and the records empty, and every FN that is
down and may be reported is recorded. -/
def restateLayer (d : Dev) : Dev :=
  let d := relayer (d.setKtu { d.ktu with
    held := []
    recs := d.ktu.recs.map fun r => r.filter fun k => k.slotted
    restate := .pressing 0 })
  let layer := d.ktu.layer
  let fns := allPositions.filter fun p =>
    d.mse.plainDown p && !d.shut p && lookup d.tst.keymap layer p == .fn
  relayer (d.setKtu (fns.foldl (fun u p => u.setRec p (some (KeyRec.plain .fn))) d.ktu))

/-- A press of this code would queue a report. -/
def Ktu.wouldReport (u : Ktu) (c : Nat) : Bool :=
  !holds u.held c && decide (u.held.length < Config.heldSize)

/-- The restatement at a place. -/
def setRestate (r : Restatement) (d : Dev) : Dev := d.setKtu { d.ktu with restate := r }

/-- A position visited in step 3 (R36). -/
def visit (p : Nat) (d : Dev) : Dev :=
  if d.mse.plainDown p && (d.ktu.keyRec p).isNone && !d.shut p then
    let u := d.lookupActive p
    match u with
    | .code c =>
      if d.ktu.wouldReport c && d.ktu.full then setRestate (.pressWaiting p c) d
      else setRestate (.pressing (p + 1)) (pressUsed p u true d)
    | .fn | .action _ | .noKey | .rolled => setRestate (.pressing (p + 1)) (pressUsed p u true d)
  else setRestate (.pressing (p + 1)) d

/-- One move of the restatement; the second part says whether it goes on (R36). -/
def restateMove (d : Dev) : Dev × Bool :=
  match d.ktu.restate with
  | .idle => (d, false)
  | .releasing n =>
    match d.ktu.held[n]? with
    | none => (restateLayer d, true)
    | some h =>
      if d.ktu.full then (d, false)
      else (setRestate (.releasing (n + 1)) (d.setKtu (d.ktu.report h.1 true true)), true)
  | .pressing p =>
    if p < Config.positions then (visit p d, true) else (setRestate .idle d, false)
  | .pressWaiting p c =>
    if d.ktu.full then (d, false)
    else (setRestate (.pressing (p + 1)) (d.setKtu (d.ktu.pressCode p c true)), true)

/-- The restatement runs until it is done or waits for room.  It makes at most 16 releases, one change of
step, 148 visits and 148 waits, so 320 moves are more than it can need. -/
def restateRun : Nat → Dev → Dev
  | 0, d => d
  | n + 1, d =>
    let r := restateMove d
    if r.2 then restateRun n r.1 else r.1

/-- A restatement begins (R35). -/
def beginRestatement (d : Dev) : Dev := restateRun 320 (setRestate (.releasing 0) d)

/-! ## Changes with the link DOWN (R39, R40) -/

/-- The wake source of a position (R39). -/
def keySource (p : Nat) : WakeSource := if isMatrix p then .key else .sideButton

/-- The enable of a WAKE entry that a press with the link DOWN is judged by (R39). -/
def pressEnabled (st : PowerState) (e : WakeEntry) : Bool :=
  match st with
  | .sleepEntry | .sleep => e.inSleep
  | .off => e.inOff
  | .poweringUp | .on | .poweringDown => false

/-- A press recorded as swallowed. -/
def swallowPress (p : Nat) (d : Dev) : Dev := d.setKtu (d.ktu.setRec p (some KeyRec.swallowed))

/-- A press put into the wake key slot (R39). -/
def slotPress (p c : Nat) (d : Dev) : Dev :=
  d.setKtu { d.ktu.setRec p (some ⟨.code c, false, true⟩) with wakeKey := some ⟨p, c, none⟩ }

/-- The code that a deliverable wake press would put into the empty wake key slot (R39). -/
def Dev.slotCode (d : Dev) (p : Nat) : Option Nat :=
  match lookup d.tst.keymap 0 p, d.ktu.wakeKey with
  | .code c, none => if (d.wakeEntry (keySource p)).deliver then some c else none
  | _, _ => none

/-- A press taken with the link DOWN (R39): the record and the slot are made first, the wake is offered
then. -/
def pressDown (p : Nat) (d : Dev) : Dev :=
  match d.ktu.keyRec p with
  | some _ => d
  | none =>
    if (keymapAt d.tst.keymap 0 p).wakeMark &&
        pressEnabled d.ppu.power (d.wakeEntry (keySource p)) then
      offerWake (keySource p)
        (match d.slotCode p with
          | some c => slotPress p c d
          | none => swallowPress p d)
    else swallowPress p d

/-- The slot with its release arrived; the first release is the one that counts (DEDUCED, log entry 38). -/
def WakeKey.arrive (synthesized : Bool) (w : WakeKey) : WakeKey :=
  { w with release := some (w.release.getD synthesized) }

/-- The release of the slotted press marked as arrived, with the flag that its report is to carry (R34,
R40). -/
def markReleased (synthesized : Bool) (d : Dev) : Dev :=
  d.setKtu { d.ktu with wakeKey := d.ktu.wakeKey.map (WakeKey.arrive synthesized) }

/-- A release taken with the link DOWN (R40). -/
def releaseDown (p : Nat) (synthesized : Bool) (d : Dev) : Dev :=
  match d.ktu.keyRec p with
  | none => d
  | some k => if k.slotted then markReleased synthesized d else d.setKtu (d.ktu.setRec p none)

/-- The record of a position after a RESYNC taken with the link DOWN (R40). -/
def resyncRec (m : Mse) (p : Nat) (r : Option KeyRec) : Option KeyRec :=
  match r with
  | some k => if k.slotted then r else if m.plainDown p then some KeyRec.swallowed else none
  | none => if m.plainDown p then some KeyRec.swallowed else none

/-- A RESYNC taken with the link DOWN (R40).  A release that it marks as arrived comes from no raw change,
so its report will carry SYNTHESIZED clear (R34; DEDUCED, log entry 38). -/
def resyncDown (d : Dev) : Dev :=
  let d := d.setKtu { d.ktu with
    recs := d.ktu.recs.zipIdx.map fun x => resyncRec d.mse x.2 x.1 }
  match d.ktu.wakeKey with
  | none => d
  | some w => if downAt d.mse.recs w.pos then d else markReleased false d

/-! ## Taking the head of the raw event queue (R28) -/

/-- The KTU may take the head entry (R28). -/
def Dev.mayTakeRaw (d : Dev) : Bool :=
  !d.pli.linkUp || (d.ktu.restate == .idle && !d.ktu.full)

/-- An entry taken (R29 to R31, R35, R39, R40). -/
def takeEntry (e : RawEntry) (d : Dev) : Dev :=
  match e, d.pli.linkUp with
  | .change p true _, true => pressUp p d
  | .change p false s, true => releaseUp p s d
  | .resync, true => beginRestatement d
  | .change p true _, false => pressDown p d
  | .change p false s, false => releaseDown p s d
  | .resync, false => resyncDown d

/-- The KTU takes the head entry of the raw event queue when it may (R28). -/
def takeRawEvent (d : Dev) : Dev :=
  match d.mse.raw with
  | [] => d
  | e :: _ => if d.mayTakeRaw then takeEntry e (removeRaw d) else d

/-- A restatement that waits for room goes on when there is room (R36). -/
def resumeEvent (d : Dev) : Dev :=
  match d.ktu.restate with
  | .idle => d
  | .releasing _ | .pressing _ | .pressWaiting _ _ => restateRun 320 d

/-- TAKE_RAW_EVENT. -/
def execTakeRawEvent (s : State) : Host.Outcome State Fault Refusal := s.run takeRawEvent

/-- RESTATEMENT_RESUME. -/
def execRestatementResume (s : State) : Host.Outcome State Fault Refusal := s.run resumeEvent

end Sys2Proof.Machine
end

