-- ==== Sys2Proof/Machine/Requests.lean ====
section
/-!
DEFINITION. The requests of the Platform Link as the blocks answer them: each takes the payload, the
response slot that the PLI took for it, and the part, and gives the part after the take event (R178).
-/

namespace Sys2Proof.Machine

/-- A refused request (R195). -/
def badRequest (i : Nat) (d : Dev) : Dev := answer i .badRequest d

/-! ## KTU: KEY_RESYNC (R35) -/

/-- KEY_RESYNC (R35). -/
def reqKeyResync (payload : List Byte) (i : Nat) (d : Dev) : Dev :=
  if !payload.isEmpty then badRequest i d
  else if d.ktu.restate = .idle then beginRestatement (answer i .ok d)
  else answer i .busy d

/-! ## TST: table access (R162 to R170) -/

/-- The header of a table access: id, first index and count. -/
def tableOf (payload : List Byte) : Option TableId := TableId.ofId (byteAt payload 0)
/-- The first index of a table access. -/
def firstOf (payload : List Byte) : Nat := u16At payload 1
/-- The count of a table access. -/
def countOf (payload : List Byte) : Nat := byteAt payload 3

/-- The structural checks that reads and writes share (R162). -/
def spanOk (t : TableId) (first count : Nat) : Bool :=
  decide (first + count ≤ t.entries) && decide (count * t.entrySize ≤ Config.tableBytesMax)

/-- The structural checks of a write on a table (R162). -/
def writeOk (t : TableId) (payload : List Byte) : Bool :=
  decide (payload.length = 4 + countOf payload * t.entrySize) && countOf payload != 0 &&
    spanOk t (firstOf payload) (countOf payload)

/-- The structural checks of a read on a table (R162). -/
def readOk (t : TableId) (payload : List Byte) : Bool :=
  decide (payload.length = 5) && decide (byteAt payload 4 ≤ 1) &&
    spanOk t (firstOf payload) (countOf payload)

/-- The table flags of a read's answer: locked in bit 0, reserved in bit 1 (R195). -/
def tableFlags (s : Tst) (t : TableId) : Byte :=
  byteOf (packBits [(1, bitOf (s.isLocked t)), (1, bitOf (s.isReserved t))])

/-- A well-formed TABLE_READ (R163). -/
def readTable (t : TableId) (payload : List Byte) (i : Nat) (d : Dev) : Dev :=
  let s := if byteAt payload 4 = 1 then d.tst.reserve t true else d.tst
  answerData i (tableFlags s t :: readEntries t (countOf payload) (firstOf payload) s) (d.setTst s)

/-- TABLE_READ (R162, R163). -/
def reqTableRead (payload : List Byte) (i : Nat) (d : Dev) : Dev :=
  match tableOf payload with
  | none => badRequest i d
  | some t => if readOk t payload then readTable t payload i d else badRequest i d

/-- A source that is FAIL_SAFE follows the fail-safe field (R88). -/
def Source.follow (failSafe : Nat) (s : Source) : Source :=
  if s.cond = .failSafe then { s with value := failSafe } else s

/-- The TFU takes a THERMAL write (R88, R107). -/
def thermalWritten (d : Dev) : Dev :=
  let f := d.tst.thermal.failSafe
  criticalWatch (evalZone (d.setTfu { d.tfu with
    die := d.tfu.die.map (Source.follow f), skin := d.tfu.skin.follow f }))

/-- The readers of SETTINGS take a change of the fields that changed (R172). -/
def settingsWritten (old : SettingsTab) (d : Dev) : Dev :=
  let new := d.tst.settings
  let d :=
    if old.ceilingEnable != new.ceilingEnable || old.ceiling != new.ceiling then allocateAndWrite d
    else d
  if old.fnLock != new.fnLock then relayer d else d

/-- The owners take a change of a table, entries `first` to `first + count − 1` written (R166). -/
def handOn (t : TableId) (first count : Nat) (old : SettingsTab) (d : Dev) : Dev :=
  match t with
  | .scan | .wake => mseRetime d
  | .keymap | .itemmap | .filter => d
  | .profile => checkFastCharge .b (checkFastCharge .a (allocateAndWrite d))
  | .power => allocateAndWrite (retimeRefresh (retimeAllocation (retimePolls d)))
  | .adapter => allocateAndWrite d
  | .fancurve =>
    let d := if first = 0 then fancurveWritten .fan1 d else d
    if 2 ≤ first + count then fancurveWritten .fan2 d else d
  | .thermal => thermalWritten d
  | .settings => settingsWritten old d

/-- A write applied (R164): the entries adjusted and stored in one event, the reservation cleared, the
owners told, OK answered. -/
def applyWrite (t : TableId) (payload : List Byte) (i : Nat) (d : Dev) : Dev :=
  let r := storeEntries t (countOf payload) (firstOf payload) (payload.drop 4) d.tst
  let old := d.tst.settings
  answerWith i ⟨.ok, r.2, []⟩
    (handOn t (firstOf payload) (countOf payload) old (d.setTst (r.1.reserve t false)))

/-- TABLE_WRITE (R164). -/
def reqTableWrite (payload : List Byte) (i : Nat) (d : Dev) : Dev :=
  match tableOf payload with
  | none => badRequest i d
  | some t =>
    if !writeOk t payload then badRequest i d
    else if d.tst.isLocked t then answer i .locked d
    else applyWrite t payload i d

/-- TABLE_WRITE_COND (R168): the reservation is read and cleared whatever the answer. -/
def reqTableWriteCond (payload : List Byte) (i : Nat) (d : Dev) : Dev :=
  match tableOf payload with
  | none => badRequest i d
  | some t =>
    let was := d.tst.isReserved t
    let d := d.setTst (d.tst.reserve t false)
    if !writeOk t payload then badRequest i d
    else if d.tst.isLocked t then answer i .locked d
    else if was then applyWrite t payload i d
    else answer i .stale d

/-- The tables of a TABLE_LOCK locked, the locked ones kept (R169). -/
def Tst.lock (s : Tst) (set : Nat) : Tst :=
  { s with locked := s.locked.zipIdx.map fun x => x.1 || set.testBit x.2 }

/-- TABLE_LOCK (R169, R195). -/
def reqTableLock (payload : List Byte) (i : Nat) (d : Dev) : Dev :=
  let set := u16At payload 0
  if payload.length = 2 ∧ set < 2 ^ 11 then answer i .ok (d.setTst (d.tst.lock set))
  else badRequest i d

/-! ## TST and WKU: WAKE_SET, WAKE_STATUS_READ, WAKE_STATUS_CLEAR (R131, R139, R140) -/

/-- A flag after a WAKE_SET: set when the source is in the set mask, clear when it is in the clear mask
alone (R131). -/
def maskFlag (set clear n : Nat) (b : Bool) : Bool :=
  if set.testBit n then true else if clear.testBit n then false else b

/-- A WAKE entry after a WAKE_SET of a flag: 0 SLEEP, 1 OFF, 2 DELIVER (R131). -/
def WakeEntry.mask (flag set clear n : Nat) (e : WakeEntry) : WakeEntry :=
  match flag with
  | 0 => { e with inSleep := maskFlag set clear n e.inSleep }
  | 1 => { e with inOff := maskFlag set clear n e.inOff }
  | _ => { e with deliver := maskFlag set clear n e.deliver }

/-- The WAKE table after a WAKE_SET, and whether the forced enable changed the result (R131). -/
def wakeMasked (flag set clear : Nat) (w : List WakeEntry) : List WakeEntry × Bool :=
  let r := w.zipIdx.map fun x => (x.1.mask flag set clear x.2).force x.2
  (r.map Prod.fst, r.any Prod.snd)

/-- WAKE_SET (R131). -/
def reqWakeSet (payload : List Byte) (i : Nat) (d : Dev) : Dev :=
  let flag := byteAt payload 0
  let set := byteAt payload 1
  let clear := byteAt payload 2
  if payload.length = 3 ∧ flag ≤ 2 ∧ set < 128 ∧ clear < 128 then
    if d.tst.isLocked .wake then answer i .locked d
    else
      let r := wakeMasked flag set clear d.tst.wake
      answerWith i ⟨.ok, r.2, []⟩
        (mseRetime (d.setTst ({ d.tst with wake := r.1 }.reserve .wake false)))
  else badRequest i d

/-- The four fields of the sticky wake record as WAKE_STATUS_READ carries them (R139, R195). -/
def Wku.statusBytes (w : Wku) : List Byte :=
  [byteOf (wakeSourceCode w.lastSource), byteOf w.seen.toNat, byteOf w.lastCause.code,
    byteOf (bitOf w.powerFault)]

/-- WAKE_STATUS_READ (R139). -/
def reqWakeStatusRead (payload : List Byte) (i : Nat) (d : Dev) : Dev :=
  if payload.isEmpty then answerData i d.wku.statusBytes d else badRequest i d

/-- The sticky wake record cleared (R140). -/
def Wku.cleared (w : Wku) : Wku :=
  { w with lastSource := none, seen := 0, lastCause := .none, powerFault := false }

/-- WAKE_STATUS_CLEAR (R140). -/
def reqWakeStatusClear (payload : List Byte) (i : Nat) (d : Dev) : Dev :=
  if payload.isEmpty then answer i .ok (d.setWku d.wku.cleared) else badRequest i d

/-! ## PPU: POWER_REQUEST (R120) -/

/-- The value of a POWER_REQUEST (R195). -/
def powerReqOf (n : Nat) : Option PowerReq :=
  match n with
  | 0 => some .sleep
  | 1 => some .off
  | 2 => some .restart
  | _ => none

/-- The tag of the request in a slot. -/
def Dev.slotTag (d : Dev) (i : Nat) : Byte := (d.pli.slots.getD i Slot.empty).tag

/-- A POWER_REQUEST with a defined value taken by the PPU (R120). -/
def takePowerRequest (v : PowerReq) (i : Nat) (d : Dev) : Dev :=
  if d.ppu.power = .on ∧ d.ppu.request = none then
    answer i .ok (d.setPpu { d.ppu with request := some (v, d.slotTag i) })
  else answer i .busy d

/-- POWER_REQUEST (R120). -/
def reqPowerRequest (payload : List Byte) (i : Nat) (d : Dev) : Dev :=
  match payload with
  | [b] =>
    match powerReqOf b.toNat with
    | some v => takePowerRequest v i d
    | none => badRequest i d
  | _ => badRequest i d

/-! ## CHG: CHARGE_CLEAR (R71) -/

/-- A pack's FAULT cleared (R71). -/
def clearFault (k : Pack) (d : Dev) : Dev :=
  if (d.chp k).stage = .fault then changeStage k .none d else d

/-- CHARGE_CLEAR (R71). -/
def reqChargeClear (payload : List Byte) (i : Nat) (d : Dev) : Dev :=
  match payload with
  | [b] =>
    match b.toNat with
    | 0 => answer i .ok (clearFault .a d)
    | 1 => answer i .ok (clearFault .b d)
    | _ => badRequest i d
  | _ => badRequest i d

/-! ## Segments: SEGMENT_RESET and DRAIN (R156 to R158) -/

/-- The segment that a number names. -/
def segOfNat (n : Nat) : Option Seg :=
  match n with
  | 0 => some .seg0
  | 1 => some .seg1
  | _ => none

/-- SEGMENT_RESET (R156, R157). -/
def reqSegmentReset (payload : List Byte) (i : Nat) (d : Dev) : Dev :=
  match payload with
  | [s, a] =>
    match segOfNat s.toNat, a.toNat with
    | some g, 0 => holdSegment g i d
    | some g, 1 => releaseSegment g i d
    | _, _ => badRequest i d
  | _ => badRequest i d

/-- The arrival orders of the class-3 writes in a queue (R158). -/
def writesIn (q : List Txn) : List Nat :=
  (q.filter fun t => t.passThrough && t.write).map fun t => t.order

/-- A DRAIN of a segment (R158): answered at once when no write is in the queue, else entered in the
drain list. -/
def drainSegment (g : Seg) (i : Nat) (d : Dev) : Dev :=
  let w := writesIn (d.seg g).queue
  if w.isEmpty then answer i (drainStatus g d) d
  else d.setSeg g { d.seg g with drains := (d.seg g).drains ++ [⟨i, w⟩] }

/-- DRAIN (R158). -/
def reqDrain (payload : List Byte) (i : Nat) (d : Dev) : Dev :=
  match payload with
  | [s] =>
    match segOfNat s.toNat with
    | some g => drainSegment g i d
    | none => badRequest i d
  | _ => badRequest i d

/-! ## PTF and segments: pass-through (R149 to R155) -/

/-- A FILTER entry's access holds for a read or a write (R150). -/
def Access.covers (a : Access) (write : Bool) : Bool :=
  match a, write with
  | .both, _ => true
  | .read, false => true
  | .write, true => true
  | .read, true => false
  | .write, false => false

/-- A FILTER entry matches a request (R150). -/
def FilterEntry.matchesReq (e : FilterEntry) (g : Seg) (address command : Nat) (write : Bool) : Bool :=
  e.valid && e.seg == g && e.address == address && decide (e.first ≤ command) &&
    decide (command ≤ e.last) && e.access.covers write

/-- The verdict of the PTF (R150): the action of the first entry that matches, DENY when none does. -/
def verdict (f : List FilterEntry) (g : Seg) (address command : Nat) (write : Bool) : FilterAction :=
  match f.find? fun e => e.matchesReq g address command write with
  | none => .deny
  | some e => e.action

/-- The record of a pass-through request (R149): a member while the sequence is PENDING or OPEN. -/
def passTxn (g : Seg) (write : Bool) (address command length : Nat) (data : List Byte) (i : Nat)
    (d : Dev) : Txn :=
  ⟨3, .hub, write, address, command, length, data, some i, (d.seg g).sequence != .noSeq, 0, false⟩

/-- A request with the verdict PASS (R149). -/
def passOn (g : Seg) (t : Txn) (i : Nat) (d : Dev) : Dev :=
  match (d.seg g).state with
  | .held => answer i .segReset d
  | .fault => answer i .segFault d
  | .idle | .busy | .recovering =>
    if Config.passThroughCap ≤ passThroughCount (d.seg g).queue then answer i .busy d
    else (submit g t d).1

/-- A request that is well formed, judged and acted on in its arrival event (R149, R150). -/
def judgePass (g : Seg) (write : Bool) (address command length : Nat) (data : List Byte) (i : Nat)
    (d : Dev) : Dev :=
  match verdict d.tst.filter g address command write with
  | .deny => answer i .denied d
  | .shadow =>
    if !write ∧ length = 2 then answerWith i (shadowAnswer g command d) d else answer i .denied d
  | .pass => passOn g (passTxn g write address command length data i d) i d

/-- PT_READ (R149). -/
def reqPtRead (g : Seg) (payload : List Byte) (i : Nat) (d : Dev) : Dev :=
  match payload with
  | [a, c, n] =>
    if a.toNat ≤ 127 ∧ 1 ≤ n.toNat ∧ n.toNat ≤ 32 then
      judgePass g false a.toNat c.toNat n.toNat [] i d
    else badRequest i d
  | _ => badRequest i d

/-- PT_WRITE (R149). -/
def reqPtWrite (g : Seg) (payload : List Byte) (i : Nat) (d : Dev) : Dev :=
  match payload with
  | a :: c :: data =>
    if a.toNat ≤ 127 ∧ 1 ≤ data.length ∧ data.length ≤ 32 then
      judgePass g true a.toNat c.toNat data.length data i d
    else badRequest i d
  | _ => badRequest i d

/-- A PT_SEQ_OPEN while the sequence record is NONE (R153). -/
def openSequence (g : Seg) (i : Nat) (d : Dev) : Dev :=
  match (d.seg g).state with
  | .fault => answer i .segFault d
  | .held => answer i .segReset d
  | .idle | .busy | .recovering =>
    arbitrate g (d.setSeg g { d.seg g with sequence := .pending i })

/-- PT_SEQ_OPEN (R153). -/
def reqPtSeqOpen (g : Seg) (payload : List Byte) (i : Nat) (d : Dev) : Dev :=
  if !payload.isEmpty then badRequest i d
  else match (d.seg g).sequence with
    | .noSeq => openSequence g i d
    | .pending _ | .opened _ => answer i .busy d

/-- PT_SEQ_CLOSE (R155). -/
def reqPtSeqClose (g : Seg) (payload : List Byte) (i : Nat) (d : Dev) : Dev :=
  if !payload.isEmpty then badRequest i d
  else match (d.seg g).sequence with
    | .opened _ => arbitrate g (answer i .ok (endSequence g d))
    | .pending _ => answer i .busy d
    | .noSeq => answer i .ok d

/-! ## PLI: IDENTIFY (R182) -/

/-- The data of an IDENTIFY answer (R182, R195). -/
def identityData (d : Dev) : List Byte :=
  leBytes 2 Config.partCode ++
  [Config.revision,
    packBits [(1, bitOf d.profile.twoPacks), (1, bitOf d.profile.twoFans),
      (1, bitOf d.profile.sideButtons)],
    Config.payloadMax, Config.receiveQueueSize, Config.slots, bitOf d.pli.powerOn].map byteOf

/-- IDENTIFY (R182). -/
def reqIdentify (payload : List Byte) (i : Nat) (d : Dev) : Dev :=
  if payload.isEmpty then answerData i (identityData d) d else badRequest i d

/-! ## NSU: STATUS_READ and the streams (R181, R191, R192) -/

/-- STATUS_READ SUMMARY (R191): the summary as it stands, empty afterwards. -/
def readSummary (i : Nat) (d : Dev) : Dev :=
  answerData i (leBytes 2 d.nsu.summary.toNat) (d.setNsu { d.nsu with summary := 0 })

/-- STATUS_READ (R181). -/
def reqStatusRead (payload : List Byte) (i : Nat) (d : Dev) : Dev :=
  match payload with
  | [b] =>
    match b.toNat with
    | 0 => answerData i (batteryRecord d) d
    | 1 => answerData i (thermalRecord d) d
    | 2 => answerData i (keyboardRecord d) d
    | 3 => readSummary i d
    | _ => badRequest i d
  | _ => badRequest i d

/-- The stream that a number names. -/
def streamOf (n : Nat) : Option StreamId :=
  match n with
  | 0 => some .battery
  | 1 => some .thermal
  | _ => none

/-- A period taken into its range (R192). -/
def clampPeriod (p : Nat) : Nat := max 100 (min 60000 p)

/-- A stream started (R192); the slot is left as it stands. -/
def Stream.start (period count : Nat) (circular : Bool) (s : Stream) : Stream :=
  { s with
    running := true
    periodMs := period
    count := count
    circular := circular
    remaining := count
    timer := some (Timer.ofMs period) }

/-- A well-formed STREAM_START (R192). -/
def startStream (x : StreamId) (period count : Nat) (circular : Bool) (i : Nat) (d : Dev) : Dev :=
  if (d.stream x).running then answer i .busy d
  else
    let p := clampPeriod period
    let n := max 1 count
    answerWith i ⟨.ok, p != period || n != count, []⟩
      (d.setStream x ((d.stream x).start p n circular))

/-- STREAM_START (R192). -/
def reqStreamStart (payload : List Byte) (i : Nat) (d : Dev) : Dev :=
  match streamOf (byteAt payload 0) with
  | some x =>
    if payload.length = 6 ∧ byteAt payload 5 ≤ 1 then
      startStream x (u16At payload 1) (u16At payload 3) (byteAt payload 5 == 1) i d
    else badRequest i d
  | none => badRequest i d

/-- A stream stopped (R192); a frame in the slot stays. -/
def Stream.stop (s : Stream) : Stream := { s with running := false, timer := none }

/-- STREAM_STOP (R192). -/
def reqStreamStop (payload : List Byte) (i : Nat) (d : Dev) : Dev :=
  match payload with
  | [b] =>
    match streamOf b.toNat with
    | some x => answer i .ok (d.setStream x (d.stream x).stop)
    | none => badRequest i d
  | _ => badRequest i d

end Sys2Proof.Machine
end

