-- ==== Sys2Proof/Machine/Link.lean ====
section
/-!
DEFINITION. The Platform Link Interface (chapter 10): the check of a received frame, the receive queue,
the take of a request, the transmit arbiter, the end of a frame, the platform reset input and the
power-on reset.

A request row of the command table is the arrival of that request's frame, its check passed: the frame
joins the receive queue, and when the queue was empty it is taken in the same event if it can be (R177).
FRAME_RECEIVED is the arrival of raw bytes with the check of R175; its take is REQUEST_TAKE.
-/

namespace Sys2Proof.Machine

/-! ## Receiving (R175, R176) -/

/-- The channel in the first byte of a frame (R195). -/
def channelOf (b : Byte) : Nat := b.toNat % 8
/-- The kind in the first byte of a frame (R195); bit 7 is ignored. -/
def kindOf (b : Byte) : Nat := b.toNat / 8 % 16

/-- The check of a received frame (R175): the frame, or the cause of the failure. -/
def checkFrame (bytes : List Byte) : Frame ⊕ LinkCause :=
  let n := byteAt bytes 2
  if bytes.length < 4 ∨ Config.frameMax < bytes.length ∨ Config.payloadMax < n ∨
      bytes.length ≠ n + 4 then .inr .length
  else if crc8 (bytes.take (n + 3)) ≠ bytes.getD (n + 3) 0 then .inr .crc
  else .inl ⟨channelOf (bytes.getD 0 0), kindOf (bytes.getD 0 0), bytes.getD 1 0,
    (bytes.drop 3).take n⟩

/-- A frame that passed its checks arrives at the receive queue (R176): appended, or discarded with the
cause OVERFLOW. -/
def appendFrame (f : Frame) (d : Dev) : Dev :=
  if d.pli.rx.length < Config.receiveQueueSize then
    d.setPli { d.pli with rx := d.pli.rx ++ [f] }
  else raise (.linkError .overflow) d

/-- The end of a received frame's last byte (R175); while the link is DOWN the receiver takes nothing
(R176). -/
def receiveEvent (bytes : List Byte) (d : Dev) : Dev :=
  if d.pli.linkUp then
    match checkFrame bytes with
    | .inl f => appendFrame f d
    | .inr cause => raise (.linkError cause) d
  else d

/-! ## Taking (R177, R178) -/

/-- A frame that needs no response slot: TEMP_REPORT on channel 3 (R177). -/
def Frame.isTempReport (f : Frame) : Bool := f.channel == 3 && f.kind == 0

/-- The lowest FREE slot. -/
def freeSlot (slots : List Slot) : Option Nat :=
  (slots.zipIdx.find? fun x => x.1.state == .free).map Prod.snd

/-- A request of the control channel, by kind (R178, R195). -/
def answerControl (kind : Nat) (payload : List Byte) (i : Nat) (d : Dev) : Dev :=
  match kind with
  | 0 => reqIdentify payload i d
  | 1 => reqTableRead payload i d
  | 2 => reqTableWrite payload i d
  | 3 => reqTableWriteCond payload i d
  | 4 => reqTableLock payload i d
  | 5 => reqWakeSet payload i d
  | 6 => reqWakeStatusRead payload i d
  | 7 => reqWakeStatusClear payload i d
  | 8 => reqPowerRequest payload i d
  | 9 => reqChargeClear payload i d
  | 10 => reqStreamStart payload i d
  | 11 => reqStreamStop payload i d
  | 12 => reqStatusRead payload i d
  | 13 => reqSegmentReset payload i d
  | 14 => reqDrain payload i d
  | 15 => reqKeyResync payload i d
  | _ => answer i .unsupported d

/-- A request of a pass-through channel, by kind (R178, R195). -/
def answerPass (g : Seg) (kind : Nat) (payload : List Byte) (i : Nat) (d : Dev) : Dev :=
  match kind with
  | 0 => reqPtRead g payload i d
  | 1 => reqPtWrite g payload i d
  | 2 => reqPtSeqOpen g payload i d
  | 3 => reqPtSeqClose g payload i d
  | _ => answer i .unsupported d

/-- A frame handed to the block that answers it, or answered UNSUPPORTED (R178). -/
def answerFrame (f : Frame) (i : Nat) (d : Dev) : Dev :=
  match f.channel with
  | 0 => answerControl f.kind f.payload i d
  | 4 => answerPass .seg0 f.kind f.payload i d
  | 5 => answerPass .seg1 f.kind f.payload i d
  | _ => answer i .unsupported d

/-- The slot taken for a frame: WAITING with its channel, kind and tag (R177). -/
def Frame.slot (f : Frame) : Slot := ⟨.waiting, f.channel, f.kind, f.tag, none⟩

/-- A frame taken from the receive queue takes a slot (R177); the frames behind it stand aside in its
event. -/
def Pli.takeSlot (p : Pli) (f : Frame) (i : Nat) : Pli :=
  { p with rx := [], slots := p.slots.set i f.slot }

/-- The frames behind a taken head, on which its event does not act: they wait on, unless the event took
the link DOWN, which empties the queue (R177, R183). -/
def waitBehind (rest : List Frame) (d : Dev) : Dev :=
  if !rest.isEmpty && d.pli.linkUp then d.setPli { d.pli with rx := rest } else d

/-- The frame at the head of the receive queue may be taken: the link is UP, and it needs no slot or one is
FREE (R177). -/
def Dev.mayTake (d : Dev) : Bool :=
  match d.pli.rx with
  | [] => false
  | f :: _ => d.pli.linkUp && (f.isTempReport || (freeSlot d.pli.slots).isSome)

/-- The head of the receive queue is taken when the link is UP and it needs no slot or one is FREE
(R177). -/
def takeHead (d : Dev) : Dev :=
  match d.pli.rx, d.pli.linkUp with
  | f :: rest, true =>
    if f.isTempReport then
      waitBehind rest (takeTempReport f.payload (d.setPli { d.pli with rx := [] }))
    else match freeSlot d.pli.slots with
      | none => d
      | some i => waitBehind rest (answerFrame f i (d.setPli (d.pli.takeSlot f i)))
  | _, _ => d

/-- A request's frame arrives, its check passed (R175 to R177): appended, and taken in the event when the
queue was empty.  A payload that no frame can carry is a frame that fails with LENGTH. -/
def requestEvent (f : Frame) (d : Dev) : Dev :=
  if d.pli.linkUp then
    if Config.payloadMax < f.payload.length then raise (.linkError .length) d
    else if d.pli.rx.isEmpty then takeHead (appendFrame f d)
    else appendFrame f d
  else d

/-- A request's frame on the control channel. -/
def control (kind : Nat) (tag : Byte) (payload : List Byte) (s : State) :
    Host.Outcome State Fault Refusal :=
  s.run (requestEvent ⟨0, kind, tag, payload⟩)

/-- The channel of a segment (R149). -/
def passChannel : Seg → Nat
  | .seg0 => 4
  | .seg1 => 5

/-- A request's frame on a pass-through channel. -/
def passThrough (g : Seg) (kind : Nat) (tag : Byte) (payload : List Byte) (s : State) :
    Host.Outcome State Fault Refusal :=
  s.run (requestEvent ⟨passChannel g, kind, tag, payload⟩)

/-! ## The transmit arbiter (R186, R187) -/

/-- The priority level of a source (R171). -/
def SettingsTab.level (t : SettingsTab) : TxSource → Nat
  | .response _ => t.prioResponse
  | .key => t.prioKey
  | .notice => t.prioNotice
  | .battery => t.prioBattery
  | .thermal => t.prioThermal

/-- The sources that are not empty, in the fixed order (section 10.8). -/
def Dev.offers (d : Dev) : List TxSource :=
  (match d.pli.readyOrder with | [] => [] | i :: _ => [.response i]) ++
  (if d.ktu.queue.isEmpty then [] else [.key]) ++
  (if d.nsu.queue.isEmpty then [] else [.notice]) ++
  (if (d.stream .battery).slot.isSome then [.battery] else []) ++
  (if (d.stream .thermal).slot.isSome then [.thermal] else [])

/-- The source with the highest level, the first of equals (R186). -/
def bestSource (t : SettingsTab) : List TxSource → Option TxSource
  | [] => none
  | x :: xs =>
    match bestSource t xs with
    | none => some x
    | some y => if t.level x < t.level y then some y else some x

/-- A sequence number after a frame: from 255 back to 0 (R187). -/
def nextSeq (n : Nat) : Nat := (n + 1) % 256

/-- The transmitter begins a frame of a source (R186). -/
def Pli.begin (p : Pli) (source : TxSource) (bytes : List Byte) : Pli :=
  { p with tx := some ⟨source, bytes⟩ }

/-- The content of a source is taken and its frame begun (R186, R187). -/
def beginFrame (x : TxSource) (d : Dev) : Dev :=
  match x with
  | .response i =>
    let sl := d.pli.slots.getD i Slot.empty
    let r := sl.response.getD ⟨.ok, false, []⟩
    d.setPli ({ d.pli with
      slots := d.pli.slots.set i { sl with state := .sending }
      readyOrder := d.pli.readyOrder.tail }.begin x (frameBytes sl.channel 0 sl.tag r.bytes))
  | .key =>
    let recs := d.ktu.queue.take Config.keyReportMax
    let payload := (recs.map KeyReport.bytes).flatten
    (d.setKtu { d.ktu with queue := d.ktu.queue.drop Config.keyReportMax }).setPli
      ({ d.pli with seqKey := nextSeq d.pli.seqKey }.begin x
        (frameBytes 1 1 (byteOf d.pli.seqKey) payload))
  | .notice =>
    match d.nsu.queue with
    | [] => d
    | n :: rest =>
      (d.setNsu { d.nsu with queue := rest }).setPli
        ({ d.pli with seqNotice := nextSeq d.pli.seqNotice }.begin x
          (frameBytes 6 4 (byteOf d.pli.seqNotice) n.bytes))
  | .battery =>
    match (d.stream .battery).slot with
    | none => d
    | some f =>
      (d.setStream .battery { d.stream .battery with slot := none }).setPli
        ({ d.pli with seqBattery := nextSeq d.pli.seqBattery }.begin x
          (frameBytes 2 2 (byteOf d.pli.seqBattery) f.bytes))
  | .thermal =>
    match (d.stream .thermal).slot with
    | none => d
    | some f =>
      (d.setStream .thermal { d.stream .thermal with slot := none }).setPli
        ({ d.pli with seqThermal := nextSeq d.pli.seqThermal }.begin x
          (frameBytes 3 3 (byteOf d.pli.seqThermal) f.bytes))

/-- The arbiter may make a choice (R186). -/
def Dev.mayChoose (d : Dev) : Bool := d.pli.linkUp && d.pli.tx.isNone && d.pins.txPermit

/-- The transmit arbiter looks for a choice with the level of TX_PERMIT as it is (R186). -/
def choiceEvent (permit : Bool) (d : Dev) : Dev :=
  let d := d.setPins { d.pins with txPermit := permit }
  if d.mayChoose then
    match bestSource d.tst.settings d.offers with
    | none => d
    | some x => beginFrame x d
  else d

/-! ## The end of a frame (R180 to R182, R186) -/

/-- An accepted POWER_REQUEST carried out at the send of its response (R121 to R123). -/
def carryOut (v : PowerReq) (d : Dev) : Dev :=
  let d := d.setPpu { d.ppu with request := none }
  match v with
  | .sleep => enterSleepEntry d
  | .off => powerDown .hostRequest d
  | .restart => powerDown .hostRequest (d.setPpu { d.ppu with restartPending := true })

/-- The slot's response was OK to a request of the control channel of this kind. -/
def Slot.okTo (sl : Slot) (kind : Nat) : Bool :=
  sl.channel == 0 && sl.kind == kind &&
    match sl.response with
    | none => false
    | some r => r.status == .ok

/-- The power-on flag that an IDENTIFY answer carried (R182). -/
def Slot.carriedFlag (sl : Slot) : Bool :=
  match sl.response with
  | none => false
  | some r => r.data.getD 7 0 == 1

/-- The send of a response handed on (R180): to the PPU and to the power-on flag. -/
def responseSent (sl : Slot) (d : Dev) : Dev :=
  let d := if sl.okTo 0 && sl.carriedFlag then d.setPli { d.pli with powerOn := false } else d
  match d.ppu.request with
  | none => d
  | some r => if sl.okTo 8 then carryOut r.1 d else d

/-- The takes that come before the link DOWN of a carried-out POWER_REQUEST, at most so many (R177, R180):
while the head of the receive queue may be taken, a free value (log entry 37) says whether its take comes
first, and after a take the next head is attempted. -/
def takeBefore : Nat → Dev → Dev
  | 0, d => d
  | n + 1, d =>
    if d.mayTake then
      let e := { d with draws := d.draws + 1 }
      if Config.takeFirst d.draws then takeBefore n (takeHead e) else e
    else d

/-- The send of this response carries out the request pending (R121 to R123), so that the link goes DOWN. -/
def Dev.carriesOut (d : Dev) (sl : Slot) : Bool := sl.okTo 8 && d.ppu.request.isSome

/-- The end of a frame's last byte (R186): the transmitter is IDLE; a response's slot is FREE and its
send is handed on (R180).  Where that takes the link DOWN, the requests that wait for the freed slot may be
taken first, in the event; anywhere else their take is REQUEST_TAKE. -/
def frameSentEvent (d : Dev) : Dev :=
  match d.pli.tx with
  | none => d
  | some f =>
    let d := d.setPli { d.pli with tx := none }
    match f.source with
    | .response i =>
      let sl := d.pli.slots.getD i Slot.empty
      let d := d.setPli { d.pli with slots := d.pli.slots.set i Slot.empty }
      responseSent sl (if d.carriesOut sl then takeBefore Config.receiveQueueSize d else d)
    | .key | .notice | .battery | .thermal => d

/-! ## Resets (R185) -/

/-- The NSU takes a platform reset (R185, R190, R191). -/
def clearNotices (d : Dev) : Dev := d.setNsu { d.nsu with queue := [], summary := 0 }

/-- The TST takes a platform reset: every lock and reservation clears (R174). -/
def clearLocks (d : Dev) : Dev :=
  d.setTst { d.tst with
    reserved := d.tst.reserved.map fun _ => false, locked := d.tst.locked.map fun _ => false }

/-- The platform reset input is asserted (R185). -/
def resetAssertEvent (d : Dev) : Dev :=
  if d.pins.platformReset then d
  else ktuPlatformReset (clearLocks (clearNotices (linkDownRest
    (d.setPins { d.pins with platformReset := true }))))

/-- The platform reset input is released (R183, R185). -/
def resetReleaseEvent (d : Dev) : Dev :=
  if d.pins.platformReset then relink (d.setPins { d.pins with platformReset := false }) else d

/-- A power-on reset: every block at its reset value, the straps sampled, the lines as they stand.  The
model's count of draws goes on, so that no free value comes twice. -/
def powerOnEvent (straps : Profile) (d : Dev) : Dev :=
  { Dev.powerOn { d.pins with straps := straps } with draws := d.draws }

/-! ## Commands of chapter 10 -/

/-- POWER_ON_RESET. -/
def execPowerOnReset (straps : Profile) (s : State) : Host.Outcome State Fault Refusal :=
  s.run (powerOnEvent straps)

/-- PLATFORM_RESET_ASSERT. -/
def execPlatformResetAssert (s : State) : Host.Outcome State Fault Refusal := s.run resetAssertEvent

/-- PLATFORM_RESET_RELEASE. -/
def execPlatformResetRelease (s : State) : Host.Outcome State Fault Refusal :=
  s.run resetReleaseEvent

/-- FRAME_RECEIVED. -/
def execFrameReceived (bytes : List Byte) (s : State) : Host.Outcome State Fault Refusal :=
  s.run (receiveEvent bytes)

/-- REQUEST_TAKE. -/
def execRequestTake (s : State) : Host.Outcome State Fault Refusal := s.run takeHead

/-- TRANSMIT_CHOICE. -/
def execTransmitChoice (permit : Bool) (s : State) : Host.Outcome State Fault Refusal :=
  s.run (choiceEvent permit)

/-- FRAME_SENT. -/
def execFrameSent (s : State) : Host.Outcome State Fault Refusal := s.run frameSentEvent

/-! ## The request commands -/

/-- TEMP_REPORT. -/
def execTempReport (tag : Byte) (payload : List Byte) (s : State) :
    Host.Outcome State Fault Refusal :=
  s.run (requestEvent ⟨3, 0, tag, payload⟩)

/-- IDENTIFY. -/
def execIdentify (tag : Byte) (payload : List Byte) (s : State) : Host.Outcome State Fault Refusal :=
  control 0 tag payload s

/-- TABLE_READ. -/
def execTableRead (tag : Byte) (payload : List Byte) (s : State) : Host.Outcome State Fault Refusal :=
  control 1 tag payload s

/-- TABLE_WRITE. -/
def execTableWrite (tag : Byte) (payload : List Byte) (s : State) :
    Host.Outcome State Fault Refusal :=
  control 2 tag payload s

/-- TABLE_WRITE_COND. -/
def execTableWriteCond (tag : Byte) (payload : List Byte) (s : State) :
    Host.Outcome State Fault Refusal :=
  control 3 tag payload s

/-- TABLE_LOCK. -/
def execTableLock (tag : Byte) (payload : List Byte) (s : State) : Host.Outcome State Fault Refusal :=
  control 4 tag payload s

/-- WAKE_SET. -/
def execWakeSet (tag : Byte) (payload : List Byte) (s : State) : Host.Outcome State Fault Refusal :=
  control 5 tag payload s

/-- WAKE_STATUS_READ. -/
def execWakeStatusRead (tag : Byte) (payload : List Byte) (s : State) :
    Host.Outcome State Fault Refusal :=
  control 6 tag payload s

/-- WAKE_STATUS_CLEAR. -/
def execWakeStatusClear (tag : Byte) (payload : List Byte) (s : State) :
    Host.Outcome State Fault Refusal :=
  control 7 tag payload s

/-- POWER_REQUEST SLEEP. -/
def execPowerRequestSleep (tag : Byte) (s : State) : Host.Outcome State Fault Refusal :=
  control 8 tag [0] s

/-- POWER_REQUEST OFF. -/
def execPowerRequestOff (tag : Byte) (s : State) : Host.Outcome State Fault Refusal :=
  control 8 tag [1] s

/-- POWER_REQUEST RESTART. -/
def execPowerRequestRestart (tag : Byte) (s : State) : Host.Outcome State Fault Refusal :=
  control 8 tag [2] s

/-- CHARGE_CLEAR. -/
def execChargeClear (tag : Byte) (payload : List Byte) (s : State) :
    Host.Outcome State Fault Refusal :=
  control 9 tag payload s

/-- STREAM_START. -/
def execStreamStart (tag : Byte) (payload : List Byte) (s : State) :
    Host.Outcome State Fault Refusal :=
  control 10 tag payload s

/-- STREAM_STOP. -/
def execStreamStop (tag : Byte) (payload : List Byte) (s : State) : Host.Outcome State Fault Refusal :=
  control 11 tag payload s

/-- STATUS_READ BATTERY. -/
def execStatusReadBattery (tag : Byte) (s : State) : Host.Outcome State Fault Refusal :=
  control 12 tag [0] s

/-- STATUS_READ THERMAL. -/
def execStatusReadThermal (tag : Byte) (s : State) : Host.Outcome State Fault Refusal :=
  control 12 tag [1] s

/-- STATUS_READ KEYBOARD. -/
def execStatusReadKeyboard (tag : Byte) (s : State) : Host.Outcome State Fault Refusal :=
  control 12 tag [2] s

/-- STATUS_READ SUMMARY. -/
def execSummaryRead (tag : Byte) (s : State) : Host.Outcome State Fault Refusal :=
  control 12 tag [3] s

/-- SEGMENT_RESET with the action HOLD. -/
def execSegmentResetHold (tag segment : Byte) (s : State) : Host.Outcome State Fault Refusal :=
  control 13 tag [segment, 0] s

/-- SEGMENT_RESET with the action RELEASE. -/
def execSegmentResetRelease (tag segment : Byte) (s : State) : Host.Outcome State Fault Refusal :=
  control 13 tag [segment, 1] s

/-- DRAIN. -/
def execDrain (tag : Byte) (payload : List Byte) (s : State) : Host.Outcome State Fault Refusal :=
  control 14 tag payload s

/-- KEY_RESYNC. -/
def execKeyResync (tag : Byte) (payload : List Byte) (s : State) : Host.Outcome State Fault Refusal :=
  control 15 tag payload s

/-- PT_READ. -/
def execPtRead (g : Seg) (tag : Byte) (payload : List Byte) (s : State) :
    Host.Outcome State Fault Refusal :=
  passThrough g 0 tag payload s

/-- PT_WRITE. -/
def execPtWrite (g : Seg) (tag : Byte) (payload : List Byte) (s : State) :
    Host.Outcome State Fault Refusal :=
  passThrough g 1 tag payload s

/-- PT_SEQ_OPEN. -/
def execPtSeqOpen (g : Seg) (tag : Byte) (payload : List Byte) (s : State) :
    Host.Outcome State Fault Refusal :=
  passThrough g 2 tag payload s

/-- PT_SEQ_CLOSE. -/
def execPtSeqClose (g : Seg) (tag : Byte) (payload : List Byte) (s : State) :
    Host.Outcome State Fault Refusal :=
  passThrough g 3 tag payload s

end Sys2Proof.Machine
end

