-- ==== Sys2Proof/Machine/Idle.lean ====
section
/-!
DEFINITION. What the part does by itself while no command waits (log entry 3): it first takes the steps
that need no time and no one outside, then the expiry of a timer that has run out, and else lets 0.5 ms
pass on every running timer.
-/

namespace Sys2Proof.Machine

/-! ## Steps that need no time -/

/-- The head of the receive queue may be taken (R177). -/
def Dev.mayTakeHead (d : Dev) : Bool :=
  d.pli.linkUp && match d.pli.rx with
    | [] => false
    | f :: _ => f.isTempReport || (freeSlot d.pli.slots).isSome

/-- The step that the part takes by itself, if any: a raw event (R28), the restatement (R36), a request
(R177), the transmit arbiter's choice (R186). -/
def Dev.ownStep (d : Dev) : Option Instr :=
  if !d.mse.raw.isEmpty && d.mayTakeRaw then some .takeRawEvent
  else if d.ktu.restate != .idle && !d.ktu.full then some .restatementResume
  else if d.mayTakeHead then some .requestTake
  else if d.mayChoose && !d.offers.isEmpty then some (.transmitChoice true)
  else none

/-! ## Timers that have run out -/

/-- A timer has run out. -/
def Timer.due (t : Option Timer) : Bool :=
  match t with
  | none => false
  | some t => t.left == 0

/-- The level that a debounced input has held long enough, if any. -/
def Debounce.due (b : Debounce) : Option Bool :=
  match b.wait with
  | none => none
  | some w => if w.2.left = 0 then some w.1 else none

/-- A command, when its timer has run out. -/
def dueIf (b : Bool) (c : Instr) : List Instr := if b then [c] else []

/-- A command that accepts a level, when the level has been held long enough. -/
def dueLevel (b : Debounce) (f : Bool → Instr) : List Instr :=
  match b.due with
  | none => []
  | some x => [f x]

/-- The idle timer of a sequence. -/
def Sequence.idleTimer (s : Sequence) : Option Timer :=
  match s with
  | .opened t => some t
  | .noSeq | .pending _ => none

/-- The host report timer as a timer. -/
def HostTimer.timer (t : HostTimer) : Option Timer :=
  match t with
  | .running t => some t
  | .stopped | .expired => none

/-- The expiries of a segment. -/
def dueSegment (g : Seg) (d : Dev) : List Instr :=
  dueIf (Timer.due (d.seg g).stretch) (.stretchTimeout g) ++
    dueIf (Timer.due (d.seg g).sequence.idleTimer) (.sequenceIdleExpiry g)

/-- The expiries of a pack. -/
def duePack (k : Pack) (d : Dev) : List Instr :=
  dueLevel (d.mon k).presence (fun b => if b then .presenceActive k else .packRemoval k) ++
    dueIf (Timer.due (d.mon k).pollTimer) (.pollTimerExpiry k) ++
    dueIf (Timer.due (d.mon k).ageTick) (.ageTick k) ++
    dueIf ((d.chp k).stage.timed && decide (d.fastChargeLimit k ≤ (d.chp k).elapsedUs))
      (.fastChargeExpiry k)

/-- The expiries of a fan. -/
def dueFan (f : Fan) (d : Dev) : List Instr :=
  dueIf (Timer.due (d.fan f).updateTimer) (.fanUpdate f) ++
    dueIf (Timer.due (d.fan f).windowTimer) (.tachWindowEnd f)

/-- The expiries of the PPU and the WKU. -/
def duePower (d : Dev) : List Instr :=
  dueLevel d.ppu.lid (fun b => .lidFoldAccept (.lid b)) ++
    dueLevel d.ppu.fold (fun b => .lidFoldAccept (.fold b)) ++
    dueLevel d.ppu.button (fun b => if b then .shortPress else .buttonRelease) ++
    dueIf (Timer.due d.ppu.overrideTimer) .overrideExpiry ++
    dueLevel d.ppu.adapter (fun b => .adapterPresentAccept b d.pins.adapterClass) ++
    dueIf (Timer.due d.ppu.transition)
      (if d.ppu.power = .poweringUp then .powerUpTimeout else .powerDownTimeout) ++
    dueIf (Timer.due d.ppu.restartTimer) .restartTimerExpiry ++
    dueLevel d.wku.line (fun b => if b then .wakeLineAccept else .wakeLineInactiveAccept)

/-- The expiries of the CHG, the TFU and the NSU. -/
def dueRest (d : Dev) : List Instr :=
  dueIf (Timer.due d.chg.allocTimer) .allocationTimerExpiry ++
    dueIf (Timer.due d.chg.refreshTimer) .chargerRefreshExpiry ++
    dueIf (Timer.due d.chg.graceTimer) .batteryGraceExpiry ++
    dueIf (Timer.due d.tfu.hostTimer.timer) .hostReportTimeout ++
    dueIf (Timer.due d.tfu.skinTimer) .skinReadTimerExpiry ++
    dueIf (Timer.due d.tfu.graceTimer) .criticalGraceExpiry ++
    dueIf (Timer.due (d.stream .battery).timer) (.streamPeriodExpiry .battery) ++
    dueIf (Timer.due (d.stream .thermal).timer) (.streamPeriodExpiry .thermal)

/-- Every expiry that is due, in the order in which the model takes them (log entry 3). -/
def Dev.due (d : Dev) : List Instr :=
  dueIf (Timer.due d.mse.scanTimer) (.scan d.pins.keys) ++
    dueSegment .seg0 d ++ dueSegment .seg1 d ++ duePack .a d ++ duePack .b d ++
    duePower d ++ dueRest d ++ dueFan .fan1 d ++ dueFan .fan2 d

/-! ## A tick -/

/-- A running timer after a tick. -/
def Timer.tick (t : Timer) : Timer := { t with left := t.left - Config.tickUs }

/-- The timer of a wait for a level: the one that runs for it, else a new one (R110). -/
def Debounce.timerFor (ms : Nat) (level : Bool) (b : Debounce) : Timer :=
  match b.wait with
  | some w => if w.1 = level then w.2 else Timer.ofMs ms
  | none => Timer.ofMs ms

/-- A debounced input after a tick through which its line had a level (R110): a new level starts a wait, a
return to the accepted level drops it, another level restarts it; the tick counts in the wait. -/
def Debounce.tick (ms : Nat) (level : Bool) (b : Debounce) : Debounce :=
  { b with wait :=
      if b.accepted = some level then none else some (level, (b.timerFor ms level).tick) }

/-- The stretch timer of a segment after a tick through which its transaction in flight waited on a line, or
did not (R147): a wait starts it and lets it run on, the end of the wait stops it and the start is made. -/
def Segment.stretchTick (waits : Bool) (s : Segment) : Segment :=
  if s.state = .busy ∧ waits then
    { s with stretch := some (s.stretch.getD (Timer.ofMs Config.stretchMs)).tick }
  else { s with stretch := none, startWait := false }

/-- The idle timer of a sequence after a tick. -/
def Segment.idleTick (s : Segment) : Segment :=
  { s with
    sequence :=
      match s.sequence with
      | .opened t => .opened t.tick
      | .noSeq => .noSeq
      | .pending i => .pending i }

/-- A segment after a tick. -/
def Segment.tick (waits : Bool) (s : Segment) : Segment := (s.stretchTick waits).idleTick

/-- The PKM of a pack after a tick; only a fitted pack's presence is debounced (R46). -/
def PackMonitor.tick (fitted level : Bool) (m : PackMonitor) : PackMonitor :=
  { m with
    presence := if fitted then m.presence.tick Config.presenceDebounceMs level else m.presence
    pollTimer := m.pollTimer.map Timer.tick
    ageTick := m.ageTick.map Timer.tick }

/-- The CHG of a pack after a tick: the fast-charge timer counts while it is RUNNING (R70). -/
def ChargePack.tick (c : ChargePack) : ChargePack :=
  if c.timerMode = .running then { c with elapsedUs := c.elapsedUs + Config.tickUs } else c

/-- The CHG after a tick. -/
def Chg.tick (c : Chg) : Chg :=
  { c with
    allocTimer := c.allocTimer.map Timer.tick
    refreshTimer := c.refreshTimer.map Timer.tick
    graceTimer := c.graceTimer.map Timer.tick
    packs := ⟨c.packs.one.tick, c.packs.two.tick⟩ }

/-- A fan after a tick. -/
def FanState.tick (f : FanState) : FanState :=
  { f with updateTimer := f.updateTimer.map Timer.tick, windowTimer := f.windowTimer.map Timer.tick }

/-- The host report timer after a tick. -/
def HostTimer.tick (t : HostTimer) : HostTimer :=
  match t with
  | .running t => .running t.tick
  | .stopped => .stopped
  | .expired => .expired

/-- The TFU after a tick. -/
def Tfu.tick (t : Tfu) : Tfu :=
  { t with
    hostTimer := t.hostTimer.tick
    skinTimer := t.skinTimer.map Timer.tick
    graceTimer := t.graceTimer.map Timer.tick
    fans := ⟨t.fans.one.tick, t.fans.two.tick⟩ }

/-- The PPU after a tick, with its lines. -/
def Ppu.tick (t : PowerTab) (pins : Pins) (p : Ppu) : Ppu :=
  { p with
    lid := p.lid.tick t.lidFoldDebounce pins.lidClosed
    fold := p.fold.tick t.lidFoldDebounce pins.foldFolded
    button := p.button.tick t.buttonDebounce pins.buttonPressed
    adapter := p.adapter.tick t.adapterDebounce pins.adapterPresent
    overrideTimer := p.overrideTimer.map Timer.tick
    transition := p.transition.map Timer.tick
    restartTimer := p.restartTimer.map Timer.tick }

/-- A stream after a tick. -/
def Stream.tick (s : Stream) : Stream := { s with timer := s.timer.map Timer.tick }

/-- The part after 0.5 ms in which nothing happens. -/
def Dev.tick (d : Dev) : Dev :=
  { d with
    mse := { d.mse with scanTimer := d.mse.scanTimer.map Timer.tick }
    pkm := ⟨d.pkm.one.tick (d.packFitted .a) d.pins.presence.one,
      d.pkm.two.tick (d.packFitted .b) d.pins.presence.two⟩
    chg := d.chg.tick
    tfu := d.tfu.tick
    ppu := d.ppu.tick d.tst.power d.pins
    wku := { d.wku with line := d.wku.line.tick Config.wakeLineDebounceMs d.pins.wakeLow }
    segs := ⟨d.segs.one.tick (d.waitsOnLine .seg0), d.segs.two.tick (d.waitsOnLine .seg1)⟩
    nsu := { d.nsu with streams := ⟨d.nsu.streams.one.tick, d.nsu.streams.two.tick⟩ } }

/-- The command that the part gives itself, if any. -/
def Dev.ownCommand (d : Dev) : Option Instr :=
  match d.ownStep with
  | some c => some c
  | none => d.due.head?

/-- The machine while no command waits (log entry 3). -/
def State.idle (s : State) : State :=
  match s.dev.ownCommand with
  | some c => { s with pending := [c] }
  | none => { s with dev := s.dev.tick }

end Sys2Proof.Machine
end

