-- ==== Sys2Proof/Machine/Dispatch.lean ====
section
/-!
DEFINITION. The meaning of each command: one arm per constructor of `Instr`.
-/

namespace Sys2Proof.Machine

def exec (i : Instr) (s : State) : Host.Outcome State Fault Refusal :=
  match i with
  | .powerOnReset straps => Sys2Proof.Machine.execPowerOnReset straps s
  | .platformResetAssert => Sys2Proof.Machine.execPlatformResetAssert s
  | .platformResetRelease => Sys2Proof.Machine.execPlatformResetRelease s
  | .scan raw => Sys2Proof.Machine.execScan raw s
  | .takeRawEvent => Sys2Proof.Machine.execTakeRawEvent s
  | .keyResync tag payload => Sys2Proof.Machine.execKeyResync tag payload s
  | .restatementResume => Sys2Proof.Machine.execRestatementResume s
  | .presenceActive k => Sys2Proof.Machine.execPresenceActive k s
  | .packRemoval k => Sys2Proof.Machine.execPackRemoval k s
  | .pollTimerExpiry k => Sys2Proof.Machine.execPollTimerExpiry k s
  | .ageTick k => Sys2Proof.Machine.execAgeTick k s
  | .packItemCompletion k e => Sys2Proof.Machine.execPackItemCompletion k e s
  | .adapterPresentAccept present cls => Sys2Proof.Machine.execAdapterPresentAccept present cls s
  | .allocationTimerExpiry => Sys2Proof.Machine.execAllocationTimerExpiry s
  | .inputReadCompletion e => Sys2Proof.Machine.execInputReadCompletion e s
  | .fastChargeExpiry k => Sys2Proof.Machine.execFastChargeExpiry k s
  | .chargeClear tag payload => Sys2Proof.Machine.execChargeClear tag payload s
  | .chargerWriteCompletion k e => Sys2Proof.Machine.execChargerWriteCompletion k e s
  | .chargerRefreshExpiry => Sys2Proof.Machine.execChargerRefreshExpiry s
  | .batteryGraceExpiry => Sys2Proof.Machine.execBatteryGraceExpiry s
  | .tempReport tag payload => Sys2Proof.Machine.execTempReport tag payload s
  | .hostReportTimeout => Sys2Proof.Machine.execHostReportTimeout s
  | .skinReadTimerExpiry => Sys2Proof.Machine.execSkinReadTimerExpiry s
  | .skinReadCompletion e => Sys2Proof.Machine.execSkinReadCompletion e s
  | .criticalGraceExpiry => Sys2Proof.Machine.execCriticalGraceExpiry s
  | .fanUpdate f => Sys2Proof.Machine.execFanUpdate f s
  | .tachPulse f => Sys2Proof.Machine.execTachPulse f s
  | .tachWindowEnd f => Sys2Proof.Machine.execTachWindowEnd f s
  | .lidFoldAccept x => Sys2Proof.Machine.execLidFoldAccept x s
  | .shortPress => Sys2Proof.Machine.execShortPress s
  | .buttonRelease => Sys2Proof.Machine.execButtonRelease s
  | .overrideExpiry => Sys2Proof.Machine.execOverrideExpiry s
  | .powerGoodChange level => Sys2Proof.Machine.execPowerGoodChange level s
  | .powerUpTimeout => Sys2Proof.Machine.execPowerUpTimeout s
  | .powerDownTimeout => Sys2Proof.Machine.execPowerDownTimeout s
  | .restartTimerExpiry => Sys2Proof.Machine.execRestartTimerExpiry s
  | .powerRequestSleep tag => Sys2Proof.Machine.execPowerRequestSleep tag s
  | .powerRequestOff tag => Sys2Proof.Machine.execPowerRequestOff tag s
  | .powerRequestRestart tag => Sys2Proof.Machine.execPowerRequestRestart tag s
  | .wakeLineAccept => Sys2Proof.Machine.execWakeLineAccept s
  | .wakeSet tag payload => Sys2Proof.Machine.execWakeSet tag payload s
  | .wakeStatusRead tag payload => Sys2Proof.Machine.execWakeStatusRead tag payload s
  | .wakeStatusClear tag payload => Sys2Proof.Machine.execWakeStatusClear tag payload s
  | .transactionComplete g e => Sys2Proof.Machine.execTransactionComplete g e s
  | .stretchTimeout g => Sys2Proof.Machine.execStretchTimeout g s
  | .recoveryEnd g dataHigh => Sys2Proof.Machine.execRecoveryEnd g dataHigh s
  | .ptRead g tag payload => Sys2Proof.Machine.execPtRead g tag payload s
  | .ptWrite g tag payload => Sys2Proof.Machine.execPtWrite g tag payload s
  | .ptSeqOpen g tag payload => Sys2Proof.Machine.execPtSeqOpen g tag payload s
  | .ptSeqClose g tag payload => Sys2Proof.Machine.execPtSeqClose g tag payload s
  | .sequenceIdleExpiry g => Sys2Proof.Machine.execSequenceIdleExpiry g s
  | .segmentResetHold tag segment => Sys2Proof.Machine.execSegmentResetHold tag segment s
  | .segmentResetRelease tag segment => Sys2Proof.Machine.execSegmentResetRelease tag segment s
  | .drain tag payload => Sys2Proof.Machine.execDrain tag payload s
  | .tableRead tag payload => Sys2Proof.Machine.execTableRead tag payload s
  | .tableWrite tag payload => Sys2Proof.Machine.execTableWrite tag payload s
  | .tableWriteCond tag payload => Sys2Proof.Machine.execTableWriteCond tag payload s
  | .tableLock tag payload => Sys2Proof.Machine.execTableLock tag payload s
  | .frameReceived bytes => Sys2Proof.Machine.execFrameReceived bytes s
  | .requestTake => Sys2Proof.Machine.execRequestTake s
  | .identify tag payload => Sys2Proof.Machine.execIdentify tag payload s
  | .statusReadBattery tag => Sys2Proof.Machine.execStatusReadBattery tag s
  | .statusReadThermal tag => Sys2Proof.Machine.execStatusReadThermal tag s
  | .statusReadKeyboard tag => Sys2Proof.Machine.execStatusReadKeyboard tag s
  | .summaryRead tag => Sys2Proof.Machine.execSummaryRead tag s
  | .transmitChoice permit => Sys2Proof.Machine.execTransmitChoice permit s
  | .frameSent => Sys2Proof.Machine.execFrameSent s
  | .streamStart tag payload => Sys2Proof.Machine.execStreamStart tag payload s
  | .streamStop tag payload => Sys2Proof.Machine.execStreamStop tag payload s
  | .streamPeriodExpiry x => Sys2Proof.Machine.execStreamPeriodExpiry x s
  | .wakeLineInactiveAccept => Sys2Proof.Machine.execWakeLineInactiveAccept s

end Sys2Proof.Machine
end

