-- ==== Sys2Proof/Safety.lean ====
section
/-!
DEFINITION. The terms that claims about the part are stated in: what makes a table sound, how many
entries a queue may hold, when the link stands as the power state says, when the commanded values stand
as the stage and the skin zone say, what the arbiter and the battery watch have done; and the PLI as an
answered request leaves it.
-/

namespace Sys2Proof.Machine

/-! ## Sound tables (R17, R22, R62, R84, R85, R106, R107, R130, R152, R165, R171) -/

/-- A number lies in a range. -/
def within (lo hi x : Nat) : Prop := lo ≤ x ∧ x ≤ hi

/-- SCAN within its ranges (R17). -/
def ScanTab.sound (t : ScanTab) : Prop :=
  within 1 18 t.driveLines ∧ within 1 8 t.senseLines ∧ t.onPeriod ≤ 4 ∧ within 8 64 t.sleepPeriod ∧
    t.sleepPeriod % 8 = 0 ∧ within 1 15 t.pressCount ∧ within 1 15 t.releaseCount

/-- A KEYMAP entry within its ranges (R22). -/
def KeymapEntry.sound (e : KeymapEntry) : Prop :=
  match e.kind with
  | .code c => c ≤ 65535
  | .action a => within 1 5 a
  | .noKey | .fn | .transparent => True

/-- A band within its ranges, its high not below its low (R84). -/
def Band.sound (b : Band) : Prop :=
  -20 ≤ b.low ∧ b.low ≤ b.high ∧ b.high ≤ 80 ∧ b.factor ≤ 100 ∧ b.reduction ≤ 500

/-- A PROFILE entry within its ranges (R84). -/
def ProfileTab.sound (p : ProfileTab) : Prop :=
  within 2000 3500 p.prechargeThreshold ∧ p.prechargeCurrent ≤ 2000 ∧ p.fastCurrent ≤ 8000 ∧
    within 3000 4600 p.chargeVoltage ∧ p.terminationCurrent ≤ 1000 ∧ p.topoffWindow ≤ 200 ∧
    within 50 100 p.rechargeSoc ∧ within 2 20 p.ceilingHysteresis ∧ within 10 1440 p.fastChargeTime ∧
    within 1 4 p.bandCount ∧ p.bands.length = 4 ∧ ∀ b ∈ p.bands, b.sound

/-- POWER within its ranges, the step a multiple of 8 mA, the slew a multiple of the step that is not below
the minimum charge current, the shutdown SoC not above the critical SoC (R48, R85, R107, R127). -/
structure PowerTab.Sound (p : PowerTab) : Prop where
  derate : within 50 100 p.derate
  guard : p.guard ≤ 20000
  efficiency : within 70 98 p.efficiency
  minCurrent : within 8 4000 p.minCurrent
  step : within 8 256 p.step ∧ p.step % 8 = 0
  slew : p.slew % p.step = 0 ∧ p.minCurrent ≤ p.slew ∧
    (p.slew ≤ 4000 ∨ p.slew < p.minCurrent + p.step)
  factors : p.zone1Factor ≤ 100 ∧ p.zone2Factor ≤ 100 ∧ p.fanFaultFactor ≤ 100
  soc : p.criticalSoc ≤ 50 ∧ p.shutdownSoc ≤ p.criticalSoc
  batteryGrace : within 10000 300000 p.batteryGrace
  intervals : within 100 5000 p.allocOn ∧ within 500 10000 p.allocOther ∧ within 1000 14000 p.refresh ∧
    within 100 5000 p.pollOn ∧ within 1000 60000 p.pollOther
  addresses : p.chargerAddress.one ≤ 127 ∧ p.chargerAddress.two ≤ 127 ∧ p.packAddress.one ≤ 127 ∧
    p.packAddress.two ≤ 127 ∧ p.skinAddress ≤ 127
  commands : p.cmdCurrent ≤ 255 ∧ p.cmdVoltage ≤ 255 ∧ p.cmdInputVoltage ≤ 255 ∧
    p.cmdSystemCurrent ≤ 255
  timings : within 100 10000 p.powerUpTimeout ∧ within 100 10000 p.powerDownTimeout ∧
    within 100 10000 p.restartOffTime ∧ within 2000 10000 p.overrideHold ∧
    within 10 100 p.buttonDebounce ∧ within 10 500 p.lidFoldDebounce ∧ within 50 1000 p.adapterDebounce

/-- A FANCURVE entry within its ranges (R106). -/
structure FanTab.Sound (f : FanTab) : Prop where
  points : f.points.length = 8 ∧ ∀ p ∈ f.points, -40 ≤ p.temp ∧ p.temp ≤ 150 ∧ p.duty ≤ 100
  sources : f.sources ≤ 127
  offsets : f.offsets.length = 7 ∧ ∀ x ∈ f.offsets, -30 ≤ x ∧ x ≤ 30
  duties : f.hysteresis ≤ 20 ∧ f.boostFloor ≤ 100 ∧ f.closedCap ≤ 100 ∧ f.heatAddition ≤ 50 ∧
    f.heatThreshold ≤ 8000
  starts : within 1 50 f.minStart ∧ within 1 100 f.decreaseStep
  stall : within 1 100 f.stallCheckDuty ∧ within 100 10000 f.stallSpeed

/-- THERMAL within its ranges, its thresholds rising, its fail-safe temperature below the die critical
(R107). -/
structure ThermalTab.Sound (t : ThermalTab) : Prop where
  zones : 20 ≤ t.zone1 ∧ t.zone1 ≤ t.zone2 ∧ t.zone2 ≤ t.zone3 ∧ t.zone3 ≤ 100
  zoneHysteresis : within 1 10 t.zoneHysteresis
  hostTimeout : within 500 30000 t.hostTimeout
  failSafe : within 40 149 t.failSafe ∧ t.failSafe < t.dieCritical
  criticals : within 60 150 t.dieCritical ∧ within 30 100 t.skinCritical
  criticalHysteresis : within 1 20 t.criticalHysteresis
  criticalGrace : within 1000 60000 t.criticalGrace
  skinCommand : t.skinCommand ≤ 255

/-- A FILTER entry within its ranges (R152). -/
def FilterEntry.sound (e : FilterEntry) : Prop := e.address ≤ 127 ∧ e.first ≤ e.last ∧ e.last ≤ 255

/-- SETTINGS within its ranges (R171). -/
def SettingsTab.sound (t : SettingsTab) : Prop :=
  within 50 100 t.ceiling ∧ t.prioResponse ≤ 3 ∧ t.prioKey ≤ 3 ∧ t.prioNotice ≤ 3 ∧
    t.prioBattery ≤ 3 ∧ t.prioThermal ≤ 3

/-- WAKE with the enable-in-OFF of POWER_BUTTON set (R130). -/
def wakeSound (w : List WakeEntry) : Prop := ∀ e, w[0]? = some e → e.inOff = true

/-- The eleven tables sound, each with its number of entries (R161, R165). -/
structure Tst.Sound (s : Tst) : Prop where
  scan : s.scan.sound
  keymap : s.keymap.length = 444 ∧ ∀ e ∈ s.keymap, e.sound
  profile : s.profile.length = 4 ∧ ∀ p ∈ s.profile, p.sound
  power : s.power.Sound
  adapter : s.adapter.length = 16 ∧ ∀ x ∈ s.adapter, x ≤ 200000
  itemmap : s.itemmap.length = 11 ∧ ∀ x ∈ s.itemmap, x ≤ 255
  fancurve : s.fancurve.one.Sound ∧ s.fancurve.two.Sound
  thermal : s.thermal.Sound
  filter : s.filter.length = 24 ∧ ∀ e ∈ s.filter, e.sound
  wake : s.wake.length = 7 ∧ wakeSound s.wake
  settings : s.settings.sound
  flags : s.reserved.length = 11 ∧ s.locked.length = 11

/-- The contents of a table, as TABLE_READ returns the whole of it entry by entry (R163). -/
def tableBytes (t : TableId) (s : Tst) : List (List Byte) :=
  (List.range t.entries).map fun i => readEntry t i s

/-! ## The link, the queues, the charge -/

/-- The link is UP exactly while the power state is ON and the platform reset input is released
(R183). -/
def Dev.LinkInv (d : Dev) : Prop :=
  d.pli.linkUp = (d.ppu.power == .on && !d.pins.platformReset)

/-- The notice queue holds at most one notice of each class (R189). -/
def Dev.NoticeInv (d : Dev) : Prop := (d.nsu.queue.map Notice.cls).Nodup

/-- The queues of the MSE and the KTU within their places: 148 records, 16 raw events (all of them in use
while the overrun mark is set), 16 held codes, 32 key reports; none of the last two and no restatement
while the link is DOWN (R10, R12, R26, R34, R38). -/
structure Dev.KeysInv (d : Dev) : Prop where
  positions : d.mse.recs.length = 148
  raw : d.mse.raw.length ≤ 16
  overrun : d.mse.overrun = true → d.mse.raw.length = 16
  pressed : d.ktu.recs.length = 148
  held : d.ktu.held.length ≤ 16
  reports : d.ktu.queue.length ≤ 32
  down : d.pli.linkUp = false →
    d.ktu.queue = [] ∧ d.ktu.held = [] ∧ d.ktu.restate = .idle

/-- The queues of the link within their places: 6 received frames, 8 slots, none of them taken and nothing
being sent while the link is DOWN (R176, R179, R183). -/
structure Dev.PliInv (d : Dev) : Prop where
  receive : d.pli.rx.length ≤ 6
  slots : d.pli.slots.length = 8
  down : d.pli.linkUp = false →
    d.pli.rx = [] ∧ d.pli.readyOrder = [] ∧ d.pli.tx = none ∧ ∀ s ∈ d.pli.slots, s.state = .free

/-- What a pack's charger is told: no current outside PRECHARGE, FAST and TOPOFF, none in skin zone 3,
and no voltage without a current (R65, R68, R77). -/
def Dev.ChargeInv (d : Dev) : Prop :=
  ∀ k, ((d.chp k).stage.charging = false → (d.chp k).current = 0) ∧
    (d.tfu.zone = 3 → (d.chp k).current = 0) ∧ ((d.chp k).current = 0 → (d.chp k).voltage = 0)

/-! ## The scan and the keyboard (R5, R7, R23) -/

/-- A raw event is a change of this position (R10). -/
def RawEntry.about (p : Nat) (e : RawEntry) : Bool :=
  match e with
  | .change q _ _ => q == p
  | .resync => false

/-- Changes with the SYNTHESIZED flag as given, in ascending position order (R5). -/
def Ascending (synthesized : Bool) (es : List RawEntry) : Prop :=
  (∀ e ∈ es, ∃ p press, e = .change p press synthesized) ∧
    es.Pairwise fun x y => ∃ p q a b,
      x = .change p a synthesized ∧ y = .change q b synthesized ∧ p < q

/-- In these records a matrix position in range completes a rectangle (R7): for some other drive line and
some other sense line the three further corners are in range and DOWN. -/
def Completes (t : ScanTab) (recs : List PosRec) (p : Nat) : Prop :=
  ∃ e f, e ≠ p / 8 ∧ f ≠ p % 8 ∧ e < t.driveLines ∧ f < t.senseLines ∧
    downAt recs (p / 8 * 8 + f) = true ∧ downAt recs (e * 8 + p % 8) = true ∧
    downAt recs (e * 8 + f) = true

/-- A lookup at a layer reads an entry of this kind (R23): the position's entry there, or its entry in layer 0
where that one is TRANSPARENT. -/
def Dev.Reads (d : Dev) (layer p : Nat) (k : KeyKind) : Prop :=
  ∃ e, d.tst.keymap[layer * 148 + p]? = some e ∧
    (if e.kind = .transparent ∧ layer ≠ 0 then
      ∃ f, d.tst.keymap[p]? = some f ∧ f.kind = k
    else e.kind = k)

/-- The scan period in µs of the table of R3 in a power state; `none`: the timer is stopped (R3, R17, R130). -/
def Dev.scanCalled (d : Dev) (p : PowerState) : Option Nat :=
  let key := d.wakeEntry .key
  let side := d.wakeEntry .sideButton
  let asleep := if key.inSleep = true ∨ side.inSleep = true then some (d.tst.scan.sleepPeriod * 1000) else none
  let off := if key.inOff = true ∨ side.inOff = true then some (d.tst.scan.sleepPeriod * 1000) else none
  match p with
  | .sleep => asleep
  | .off => off
  | .on | .poweringUp | .sleepEntry | .poweringDown => some (500 * 2 ^ d.tst.scan.onPeriod)

/-- What an event that calls for a scan period, or for a stopped timer, makes of the MSE (R3, R4): a timer that
runs with the period is left to run, any other starts with it; one that stops leaves every counter 0. -/
structure Mse.Retimed (m e : Mse) (period : Option Nat) : Prop where
  runs : ∀ us t, period = some us → m.scanTimer = some t → t.period = us → e = m
  starts : ∀ us, period = some us → (∀ t, m.scanTimer = some t → t.period ≠ us) →
    e = { m with scanTimer := some ⟨us, us⟩ }
  stops : period = none → m.scanTimer.isSome → e = { m with
    scanTimer := none, recs := m.recs.map fun r => { r with counter := 0 } }
  stands : period = none → m.scanTimer = none → e = m

/-- A position that a restatement translates once its record is empty (R36): DOWN with both flags clear, and no
matrix position under CLOSED or TABLET. -/
def Dev.HeldDown (d : Dev) (p : Nat) : Prop :=
  (∃ r, d.mse.recs[p]? = some r ∧ r.down = true ∧ r.suspect = false ∧ r.masked = false) ∧
    ¬ (p < 144 ∧ (d.ppu.posture = .closed ∨ d.ppu.posture = .tablet))

/-- A restatement that is done has made the record of a position that it read as this kind (R26, R27, R36): a code
that did not find room in the held-code list is rolled. -/
structure Ktu.Restated (u : Ktu) (p : Nat) (k : KeyKind) : Prop where
  code : ∀ c, k = .code c →
    (c ∈ u.held.map Prod.fst → u.recs[p]? = some (some ⟨.code c, false, false⟩)) ∧
    (c ∉ u.held.map Prod.fst →
      u.held.length = 16 ∧ u.recs[p]? = some (some ⟨.rolled, false, false⟩))
  fn : k = .fn → u.recs[p]? = some (some ⟨.fn, false, false⟩)
  action : ∀ a, k = .action a → u.recs[p]? = some (some ⟨.action a, false, false⟩)
  none : k = .noKey ∨ k = .transparent → u.recs[p]? = some (some ⟨.noKey, false, false⟩)

/-- The codes and directions of reports. -/
def told (reports : List KeyReport) : List (Nat × Bool) := reports.map fun r => (r.code, r.release)

/-- A restatement that has begun from here has queued these reports and left the KTU so (R35, R36).  It runs until it is
done or the key report queue is full, every report SYNTHESIZED, the release of the first held code first.  With an
empty key report queue it is done at once: the release of every held code in list order, then the press of every code
held anew; a pending ROLLOVER goes with the first.  The layer is 1 where a position held DOWN reads FN at layer 2 with
fn_lock on, 0 with it off, else that one; such positions are FN, every other one that is held DOWN is recorded as it
reads at the layer, no other has a record; the list holds each code once, by its first position, with its count. -/
structure Dev.Restates (d : Dev) (u : Ktu) (more : List KeyReport) : Prop where
  queued : u.queue = d.ktu.queue ++ more ∧ ∀ r ∈ more, r.synthesized = true
  waits : u.restate = .idle ∨ 32 ≤ u.queue.length
  first : ∀ h, d.ktu.held.head? = some h → d.ktu.queue.length < 32 →
    more.head? = some ⟨h.1, true, true, d.ktu.rollover⟩
  wakeKey : u.wakeKey = d.ktu.wakeKey
  whole : d.ktu.queue = [] → d.ktu.recs.length = 148 → (∀ k, some k ∈ d.ktu.recs → k.slotted = false) →
    let base := if d.tst.settings.fnLock then 2 else 0
    let pressed (c : Nat) (p : Nat) : Prop := u.recs[p]? = some (some ⟨.code c, false, false⟩)
    u.restate = .idle ∧
    told more = (d.ktu.held.map fun h => (h.1, true)) ++ u.held.map (fun h => (h.1, false)) ∧
    (∀ n r, more[n]? = some r → r.rollover = (n == 0 && d.ktu.rollover)) ∧
    ((∃ p < 148, d.HeldDown p ∧ d.Reads base p .fn) → u.layer = 1) ∧
    ((∀ p < 148, d.HeldDown p → ¬ d.Reads base p .fn) → u.layer = base) ∧
    (∀ p < 148, (¬ d.HeldDown p → u.recs[p]? = some none) ∧
      (d.HeldDown p → d.Reads base p .fn → u.Restated p .fn) ∧
      (d.HeldDown p → ¬ d.Reads base p .fn → ∀ k, d.Reads u.layer p k → u.Restated p k)) ∧
    (u.held.Pairwise fun h l => ∃ p, pressed h.1 p ∧ ∀ q, pressed l.1 q → p < q) ∧
    ∀ h ∈ u.held, h.2 = u.recs.count (some ⟨.code h.1, false, false⟩)

/-- The KTU may take this raw event now and no overrun mark stands, the link being as given (R12, R28). -/
structure Dev.TakesRaw (d : Dev) (up : Bool) (e : RawEntry) (rest : List RawEntry) : Prop where
  link : d.pli.linkUp = up
  head : d.mse.raw = e :: rest
  mark : d.mse.overrun = false
  free : up = true → d.ktu.restate = .idle ∧ d.ktu.queue.length < 32

/-- The part after a raw event was taken, the KTU as given. -/
def Dev.rawTaken (d : Dev) (rest : List RawEntry) (u : Ktu) : Dev :=
  { d with mse := { d.mse with raw := rest }, ktu := u }

/-- The KTU with a pressed-as record replaced. -/
def Ktu.noted (u : Ktu) (p : Nat) (r : Option KeyRec) : Ktu := { u with recs := u.recs.set p r }

/-! ## A request answered in its take event (R177, R179) -/

/-- The part takes a request in the event in which it arrives, into slot `i`: the link is UP, the receive
queue empty, and `i` the lowest FREE slot. -/
structure Dev.TakesInto (d : Dev) (i : Nat) : Prop where
  up : d.pli.linkUp = true
  empty : d.pli.rx = []
  slot : freeSlot d.pli.slots = some i

/-- The part after a request on a channel was taken into slot `i` and answered in the event: the slot is
READY with the response and stands last in the ready order; nothing else differs. -/
def Dev.answered (d : Dev) (i channel kind : Nat) (tag : Byte) (r : Response) : Dev :=
  { d with pli := { d.pli with
      slots := d.pli.slots.set i ⟨.ready, channel, kind, tag, some r⟩
      readyOrder := d.pli.readyOrder ++ [i] } }

/-- The part after a request was taken into slot `i` and waits for its response there. -/
def Dev.waiting (d : Dev) (i channel kind : Nat) (tag : Byte) : Dev :=
  { d with pli := { d.pli with
      slots := d.pli.slots.set i ⟨.waiting, channel, kind, tag, none⟩ } }

/-- A response with a status alone. -/
def Status.alone (st : Status) : Response := ⟨st, false, []⟩

/-- A response slot is READY with a response to a request with this channel, kind and tag, and waits to be
sent (R179). -/
def Dev.Answers (d : Dev) (i channel kind : Nat) (tag : Byte) (r : Response) : Prop :=
  d.pli.slots[i]? = some ⟨.ready, channel, kind, tag, some r⟩ ∧ i ∈ d.pli.readyOrder

/-- A notice of a class has been raised since the hub last read the pending summary (R189, R191). -/
def Dev.Raised (d : Dev) (cls : Nat) : Prop := d.nsu.summary.getLsbD cls = true

/-! ## Transactions on a segment (R143 to R146) -/

/-- A segment takes arrivals into its queue (R145). -/
def Segment.Takes (sg : Segment) : Prop := sg.state ≠ .held ∧ sg.state ≠ .fault

/-- A record of an internal requester's transaction as it was made: class, requester, kind, address,
command byte and data, two bytes long (R143). -/
def Txn.Is (t : Txn) (cls : Nat) (who : Requester) (write : Bool) (address command : Nat)
    (data : List Byte) : Prop :=
  t.cls = cls ∧ t.requester = who ∧ t.write = write ∧ t.address = address ∧ t.command = command ∧
    t.data = data ∧ t.length = 2 ∧ t.slot = none ∧ t.member = false

/-- A transaction of an internal requester stands in a segment's queue, waiting or in flight. -/
def Dev.Queued (d : Dev) (g : Seg) (cls : Nat) (who : Requester) (write : Bool)
    (address command : Nat) (data : List Byte) : Prop :=
  ∃ t ∈ (d.seg g).queue, t.Is cls who write address command data

/-- The transaction in flight on a segment belongs to this requester and is a write, or a read of so many
bytes. -/
def Dev.Flies (d : Dev) (g : Seg) (who : Requester) (write : Bool) (length : Nat) : Prop :=
  ∃ t, (d.seg g).current = some t ∧ t.requester = who ∧ t.write = write ∧ t.length = length

/-- Between two moments segment `g` alone moved: the other segment is as it was, and so is the link, unless a
PENDING sequence of `g` was granted, which answers its open request (R153). -/
structure Dev.SegmentMoved (d e : Dev) (g : Seg) : Prop where
  other : ∀ j, j ≠ g → e.seg j = d.seg j
  link : (∀ i, (d.seg g).sequence ≠ .pending i) → e.pli = d.pli

/-- The records that the arbiter may take under a sequence record (R146, R154): while it is OPEN those of class
0 and the members, otherwise all but the members. -/
def Sequence.lets (q : Sequence) (t : Txn) : Prop :=
  match q with
  | .opened _ => t.cls = 0 ∨ t.member = true
  | .pending _ | .noSeq => t.member = false

/-- Records that wait, each with an arrival order of its own. -/
def Wait (q : List Txn) : Prop := (∀ t ∈ q, t.inFlight = false) ∧ (q.map Txn.order).Nodup

/-- The arbiter has acted on these waiting records (R146, R154): of those it may take, the one of the lowest
class and in it of the lowest arrival order is in flight; with none, the segment is IDLE. -/
structure Segment.TookFirst (e : Segment) (q : List Txn) : Prop where
  idle : (∀ t ∈ q, ¬ e.sequence.lets t) → e.state = .idle
  first : ∀ t ∈ q, e.sequence.lets t →
    (∀ u ∈ q, e.sequence.lets u → u = t ∨ t.cls < u.cls ∨ (t.cls = u.cls ∧ t.order < u.order)) →
      e.current = some { t with inFlight := true }

/-- The sequence record after a completion (R154): that of a member starts the idle timer of an OPEN sequence anew, any
other leaves it running. -/
def Sequence.completed (q : Sequence) (member : Bool) : Sequence :=
  match q with
  | .opened t => .opened (if member then Timer.ofMs 50 else t)
  | .pending i => .pending i
  | .noSeq => .noSeq

/-- The sequence record once the arbiter has acted on an IDLE segment with these records in its queue (R146, R153): a
PENDING one is OPEN with its idle timer started, unless a class-3 record that is no member remains. -/
def Sequence.arbitrated (q : Sequence) (left : List Txn) : Sequence :=
  match q with
  | .pending i =>
    if left.any fun t => t.cls == 3 && !t.member then .pending i else .opened (Timer.ofMs 50)
  | .opened t => .opened t
  | .noSeq => .noSeq

/-- The PT_SEQ_OPEN of a segment that is PENDING, its slot being that of no other request (R153): it has its answer OK
once the sequence is no longer PENDING, and none before. -/
def Dev.TellsOpen (d e : Dev) (g : Seg) : Prop :=
  ∀ i c n tag, (d.seg g).sequence = .pending i → d.pli.slots[i]? = some ⟨.waiting, c, n, tag, none⟩ →
    (∀ h, h ≠ g → (d.seg h).sequence ≠ .pending i) → (∀ t ∈ (d.seg g).queue, t.slot ≠ some i) →
    (∀ x ∈ (d.seg g).drains, x.slot ≠ i) →
    if (e.seg g).sequence = .pending i then e.pli.slots[i]? = d.pli.slots[i]?
    else e.Answers i c n tag Status.ok.alone

/-- The commands by which a transaction in flight on a segment ends so (R144, R147): TRANSACTION_COMPLETE, or
STRETCH_TIMEOUT with TIMEOUT, or the completion of its own requester; an OK carries the bytes of the record. -/
def Txn.EndsBy (t : Txn) (g : Seg) (e : BusEnd) (c : Instr) : Prop :=
  (∀ data : List Byte, e = .ok data → data.length = (if t.write then 0 else t.length)) ∧
  ((e ≠ .timeout ∧ c = .transactionComplete g e) ∨ (e = .timeout ∧ c = .stretchTimeout g) ∨
    (t.requester = .pkm ∧ c = .packItemCompletion (packOf g) e) ∨
    (t.requester = .charger ∧ c = .chargerWriteCompletion (packOf g) e) ∨
    (t.requester = .input ∧ g = .seg0 ∧ c = .inputReadCompletion e) ∨
    (t.requester = .skin ∧ g = .seg1 ∧ c = .skinReadCompletion e))

/-- Neither segment refuses an arrival with SEG_FAULT (R145). -/
def Dev.NoFault (d : Dev) : Prop := ∀ g, (d.seg g).state ≠ .fault

/-- No PENDING sequence names a response slot, as none names a FREE one (R153). -/
def Dev.SlotClear (d : Dev) (i : Nat) : Prop := ∀ g, (d.seg g).sequence ≠ .pending i

/-! ## Heat (R96) -/

/-- Some source of D0 to D3 and S is REAL and at or above its critical temperature less a margin (R96). -/
def Dev.HotBy (d : Dev) (margin : Nat) : Prop :=
  ∃ i x, d.tfu.heatSources[i]? = some x ∧ x.cond = .real ∧
    (d.tst.thermal.criticalOf i : Int) - margin ≤ x.value

/-- The critical mark stands as an evaluation leaves it that found it at `was` (R96). -/
structure Dev.MarkFollows (d : Dev) (was : Bool) : Prop where
  set : d.HotBy 0 → d.tfu.critical = true
  clear : ¬ d.HotBy d.tst.thermal.criticalHysteresis → d.tfu.critical = false
  keep : ¬ d.HotBy 0 → d.HotBy d.tst.thermal.criticalHysteresis → d.tfu.critical = was

/-- The skin zone that the first of the three tests of R94 gives, from a zone, for a value of S. -/
def ThermalTab.moved (h : ThermalTab) (zone : Nat) (v : Int) : Nat :=
  if zone < 3 ∧ (match zone with | 0 => h.zone1 | 1 => h.zone2 | _ => h.zone3 : Int) ≤ v then
    (if h.zone3 ≤ v then 3 else if h.zone2 ≤ v then 2 else if h.zone1 ≤ v then 1 else 0)
  else if 0 < zone ∧ v <
      (match zone with | 1 => h.zone1 | 2 => h.zone2 | _ => h.zone3 : Int) - h.zoneHysteresis then zone - 1
  else zone

/-- What the critical mark does between two moments, at an evaluation that is no change of power state (R96 to R98).  In
ON a mark that clears stops the grace timer, one that stays SET leaves it, one that becomes SET is a crossing; in SLEEP,
where no die source is REAL, one that the skin sets is a crossing and a forced OFF at once; elsewhere it is kept. -/
structure Dev.MarkActs (d e : Dev) : Prop where
  stands : d.ppu.power ≠ .sleep ∨ (∀ x ∈ d.tfu.die, x.cond ≠ .real) → e.MarkFollows d.tfu.critical
  clears : d.ppu.power = .on → e.tfu.critical = false → e.tfu.graceTimer = none
  keeps : d.ppu.power = .on → d.tfu.critical = true → e.tfu.critical = true →
    e.tfu.graceTimer = d.tfu.graceTimer
  crosses : d.ppu.power = .on → d.tfu.critical = false → e.tfu.critical = true →
    e.Raised 12 ∧ e.tfu.graceTimer = some (Timer.ofMs d.tst.thermal.criticalGrace)
  rests : d.ppu.power ≠ .on → d.ppu.power ≠ .sleep → e.tfu.graceTimer = d.tfu.graceTimer
  shuts : d.ppu.power = .sleep → d.tfu.critical = false → e.tfu.skin.cond = .real →
    (d.tst.thermal.skinCritical : Int) ≤ e.tfu.skin.value →
      e.Raised 12 ∧ e.ppu.power = (if d.pins.powerGood then .poweringDown else .off) ∧
      e.ppu.cause = .thermal ∧ e.wku = { d.wku with lastCause := .thermal }
  sleeps : d.ppu.power = .sleep → (∀ x ∈ d.tfu.die, x.cond ≠ .real) →
    (d.tfu.critical = true ∨ e.tfu.skin.cond ≠ .real ∨
      e.tfu.skin.value < (d.tst.thermal.skinCritical : Int)) →
      e.ppu = d.ppu ∧ e.wku = d.wku ∧ e.tfu.graceTimer = d.tfu.graceTimer

/-! ## Changes of the link (R38, R41, R141, R153, R159, R183, R184, R190, R194) -/

/-- The KTU at link UP, from what it was (R34, R41): with no wake key nothing; with one, into an empty report queue
and an empty held-code list, the press report with both flags clear, and where its release has arrived the release
report with the flag of the raw change and an emptied record; else the code is held and its record no longer
slotted. -/
structure Ktu.Delivers (u v : Ktu) (fnLock : Bool) : Prop where
  none : u.wakeKey = none → v = u
  reports : ∀ w, u.wakeKey = some w → u.queue = [] → u.held = [] → u.rollover = false → v = { u with
    wakeKey := Option.none
    recs := v.recs
    layer := layerOf v.recs fnLock
    queue := ⟨w.code, false, false, false⟩ ::
      (match w.release with | some flag => [⟨w.code, true, flag, false⟩] | Option.none => [])
    held := if w.release.isSome then [] else [(w.code, 1)] }
  record : ∀ w, u.wakeKey = some w → v.wakeKey = Option.none ∧
    (∀ p, p ≠ w.pos → v.recs[p]? = u.recs[p]?) ∧
    (∀ x, u.recs[w.pos]? = some x → v.recs[w.pos]? =
      some (if w.release.isSome then Option.none else x.map fun k => { k with slotted := false }))

/-- The link has come UP, the KTU being as given before (R141, R184, R190): the four sequence numbers are 0, LINK_UP is
in the pending summary, and with its class enabled one LINK_UP notice, with the sticky wake record as it stands, is
at the head of the queue; with it disabled there is none.  The KTU has delivered its wake key. -/
structure Dev.LinkRose (d e : Dev) (u : Ktu) : Prop where
  link : e.pli = { d.pli with linkUp := true, seqKey := 0, seqNotice := 0, seqBattery := 0, seqThermal := 0 }
  raised : e.Raised 0
  notice : ∃ rest, (∀ n ∈ rest, n.cls ≠ 0) ∧
    e.nsu.queue = (if d.tst.settings.noticeMask.getLsbD 0 then
      [Notice.linkUp e.wku.lastSource e.wku.lastCause e.wku.powerFault] else []) ++ rest
  keys : u.Delivers e.ktu d.tst.settings.fnLock

/-- A rise from here brings the link UP: it is DOWN, power-good is asserted and the platform reset released
(R118, R183). -/
def Dev.RiseLinks (d : Dev) : Prop :=
  d.pli.linkUp = false ∧ d.pins.powerGood = true ∧ d.pins.platformReset = false

/-- A segment's record as a link DOWN leaves it: its slot released, no member (R151, R159). -/
def Txn.released (t : Txn) : Txn := { t with slot := none, member := false }

/-- The link has gone DOWN without a platform reset (R38, R153, R159, R183, R194): the PLI is emptied and a pending
POWER_REQUEST dropped; the streams are STOPPED with their slots empty; the KTU's reports, held codes, rollover and
restatement are gone, every record that is not empty is swallowed, the wake key stays and the layer is the base one;
no segment has a sequence or a drain, and its records stand in their order, without slot and member flag, those of a
segment that is not IDLE as they flew or waited. -/
structure Dev.LinkFell (d e : Dev) : Prop where
  link : e.pli = { d.pli with
    linkUp := false, rx := [], readyOrder := [], tx := none
    slots := d.pli.slots.map fun _ => ⟨.free, 0, 0, 0, none⟩ }
  request : e.ppu.request = none
  streams : ∀ i, e.stream i = { d.stream i with running := false, timer := none, slot := none }
  keys : e.ktu = { d.ktu with
    queue := [], held := [], rollover := false, restate := .idle
    recs := d.ktu.recs.map fun r => r.map fun k => { k with swallow := true }
    layer := if d.tst.settings.fnLock then 2 else 0 }
  sequences : ∀ g, (e.seg g).sequence = .noSeq ∧ (e.seg g).drains = [] ∧
    ∀ t ∈ (e.seg g).queue, t.slot = none ∧ t.member = false
  records : ∀ g, ∃ more, ((e.seg g).queue.map fun t => { t with inFlight := false }) =
    ((d.seg g).queue.map fun t => { t.released with inFlight := false }) ++ more
  runs : ∀ g, (d.seg g).state ≠ .idle → (e.seg g).state = (d.seg g).state ∧
    (d.seg g).queue.map Txn.released <+: (e.seg g).queue

/-! ## Wakes (R118, R132, R136) -/

/-- An offer of this source in this state is one that WAKE lets rise the platform: in SLEEP with its
enable-in-SLEEP, in OFF with its enable-in-OFF (R132). -/
def Dev.WouldWake (d : Dev) (w : WakeSource) : Prop :=
  (d.ppu.power = .sleep ∧ (d.wakeEntry w).inSleep = true) ∨
    (d.ppu.power = .off ∧ (d.wakeEntry w).inOff = true)

/-- The source was recorded and the wake taken: last source and sources seen (R136), restart and recorded
cause cleared, the state POWERING_UP, or ON when power-good stands, with the link (R117, R118, R183), whose UP sets the
sequence numbers to 0 and puts LINK_UP, when its class is enabled, at the head of the notices (R184, R190). -/
structure Dev.WokenBy (d e : Dev) (w : WakeSource) : Prop where
  source : e.wku.lastSource = some w
  seen : e.wku.seen = d.wku.seen ||| BitVec.twoPow 7 w.index
  power : e.ppu.power = if d.pins.powerGood then .on else .poweringUp
  restart : e.ppu.restartPending = false ∧ e.ppu.restartTimer = none ∧ e.ppu.cause = .none
  link : e.pli.linkUp = (d.pins.powerGood && !d.pins.platformReset)
  told : d.RiseLinks → e.Raised 0 ∧ e.pli.seqKey = 0 ∧ e.pli.seqNotice = 0 ∧ e.pli.seqBattery = 0 ∧
    e.pli.seqThermal = 0 ∧ (d.tst.settings.noticeMask.getLsbD 0 = true → e.nsu.queue.head? =
      some (.linkUp e.wku.lastSource e.wku.lastCause e.wku.powerFault))

/-! ## The system SoC (R82) -/

/-- The system SoC that the pack records give (R82): unknown with an adapter, or when no READY pack has a full
capacity other than 0; else the SoC of the READY packs weighed by their full capacities. -/
def Dev.batterySoc (d : Dev) : Option Nat :=
  let full (k : Pack) : Nat :=
    match (d.mon k).record.state, (d.mon k).record.telemetry with
    | .ready, some t => t.fullCapacity
    | _, _ => 0
  let soc (k : Pack) : Nat :=
    match (d.mon k).record.telemetry with
    | some t => t.soc
    | none => 0
  if d.chg.adapter.isSome ∨ full .a + full .b = 0 then none
  else some ((soc .a * full .a + soc .b * full .b) / (full .a + full .b))

/-- The system SoC stands as the records give it, and the low mark as the system SoC gives it (R82). -/
structure Dev.WatchStands (d : Dev) : Prop where
  soc : d.chg.systemSoc = d.batterySoc
  mark : d.chg.lowMark = true ↔ ∃ x, d.chg.systemSoc = some x ∧ x ≤ d.tst.power.criticalSoc

/-! ## Changes of power state (R45, R53, R63, R82, R90, R96, R97, R99, R105, R116) -/

/-- What the PKM, the CHG and the TFU make of one change to a power state, between the part before and the part after
the event (R116).  A poll timer or the allocation timer whose interval changes starts anew, a poll timer with the stale
test against the new interval (R45, R53, R63).  The battery watch stands; the battery grace is stopped outside ON, and
at the entry to ON a low mark is a crossing (R82).  D0 to D3 are ABSENT and the host report timer runs from the full
timeout in ON, is STOPPED elsewhere (R90).  The critical mark is evaluated, its grace stopped outside ON, and at the
entry to ON a mark that is SET is a crossing, held by the skin (R96, R97).  At the entry to OFF the duty of every
fitted fan is 0, and one in FAULT is OK again with FAN_FAULT and an allocation (R99, R105). -/
structure Dev.Entered (d e : Dev) (p : PowerState) : Prop where
  polls : ∀ k,
    let ms := if p = .on then d.tst.power.pollOn else d.tst.power.pollOther
    let m := d.mon k
    e.mon k = (match m.pollTimer with
      | none => m
      | some t => if t.period = ms * 1000 then m
        else { m with
          pollTimer := some ⟨ms * 1000, ms * 1000⟩
          record := { m.record with stale := m.record.stale ||
            (m.record.telemetry.isSome && decide (3 * ms < m.record.age * 1000)) } })
  watch : e.WatchStands
  charge : e.chg = { d.chg with
    allocTimer := d.chg.allocTimer.map fun t =>
      let us := (if p = .on then d.tst.power.allocOn else d.tst.power.allocOther) * 1000
      if t.period = us then t else ⟨us, us⟩
    systemSoc := e.chg.systemSoc, lowMark := e.chg.lowMark
    graceTimer := if p ≠ .on then none
      else if e.chg.lowMark then some (Timer.ofMs d.tst.power.batteryGrace) else d.chg.graceTimer
    headroom := e.chg.headroom, packs := e.chg.packs }
  low : p = .on → e.chg.lowMark = true → e.Raised 9 ∧
    (d.tst.settings.noticeMask.getLsbD 9 = true → ∀ x, e.chg.systemSoc = some x →
      Notice.batteryCritical x ∈ e.nsu.queue)
  heat : e.tfu = { d.tfu with
    die := e.tfu.die
    hostTimer := if p = .on then .running (Timer.ofMs d.tst.thermal.hostTimeout) else .stopped
    critical := e.tfu.critical
    graceTimer := if p ≠ .on then none
      else if e.tfu.critical then some (Timer.ofMs d.tst.thermal.criticalGrace) else d.tfu.graceTimer
    fans := e.tfu.fans }
  dies : e.tfu.die.map Source.cond = List.replicate 4 .absent
  mark : e.MarkFollows d.tfu.critical
  hot : p = .on → e.tfu.critical = true → e.Raised 12 ∧
    (d.tst.settings.noticeMask.getLsbD 12 = true →
      Notice.thermalCritical 4 e.tfu.skin.value ∈ e.nsu.queue)
  fans : ∀ f, e.fan f = (if p = .off ∧ d.fanFitted f = true then
      let x := d.fan f
      { x with
        duty := 0, fault := false, lowDuty := x.lowDuty || decide (0 < x.stallCheckDuty)
        stallCount := if x.fault then 0 else x.stallCount
        recoveryCount := if x.fault then 0 else x.recoveryCount }
    else d.fan f)
  recovers : p = .off → (∃ f, d.fanFitted f = true ∧ (d.fan f).fault = true) →
    e.Raised 10 ∧ e.chg.headroom = e.headroom
  commands : p ≠ .off ∨ (∀ f, d.fanFitted f = true → (d.fan f).fault = false) →
    e.chg.headroom = d.chg.headroom ∧ e.chg.packs = d.chg.packs
  frame : e.tst = d.tst ∧ e.profile = d.profile

/-- The power state has passed through these states in their order, each change taken by every block (R116). -/
def Dev.Passes (d e : Dev) : List PowerState → Prop
  | [] => False
  | [p] => d.Entered e p
  | p :: q :: ps => ∃ m : Dev, d.Entered m p ∧ m.Passes e (q :: ps)

/-- The states that a rise passes (R117, R118): POWERING_UP, and ON where power-good is asserted already. -/
def Dev.rise (d : Dev) : List PowerState :=
  if d.pins.powerGood then [.poweringUp, .on] else [.poweringUp]

/-- The states that a power-down passes (R125): POWERING_DOWN, and OFF where power-good is deasserted already. -/
def Dev.fall (d : Dev) : List PowerState :=
  if d.pins.powerGood then [.poweringDown] else [.poweringDown, .off]

/-- What a rise makes of the blocks, the KTU being as given before it: the changes of power state, and with power-good
and a released platform reset the link UP (R116, R183). -/
structure Dev.Rises (d e : Dev) (u : Ktu) : Prop where
  blocks : d.Passes e d.rise
  link : d.RiseLinks → d.LinkRose e u
  still : d.pli.linkUp = false → d.pins.powerGood = false ∨ d.pins.platformReset = true →
    e.ktu = u ∧ e.pli = d.pli

/-! ## The battery watch (R82, R83) -/

/-- What the battery watch does between two moments with no change of power state but its own (R82, R83).  In ON
a low mark that clears stops the grace timer, one that stays leaves it, and one that sets is a crossing; in SLEEP
a crossing raises BATTERY_CRITICAL and offers the wake, and with its enable clear a system SoC at or below the
shutdown SoC is a forced OFF. -/
structure Dev.WatchActs (d e : Dev) : Prop where
  stands : e.WatchStands
  clears : d.ppu.power = .on → e.chg.lowMark = false → e.chg.graceTimer = none
  keeps : d.ppu.power = .on → d.chg.lowMark = true → e.chg.lowMark = true →
    e.chg.graceTimer = d.chg.graceTimer
  crosses : d.ppu.power = .on → d.chg.lowMark = false → e.chg.lowMark = true →
    e.Raised 9 ∧ e.chg.graceTimer = some (Timer.ofMs d.tst.power.batteryGrace)
  tells : d.ppu.power = .on ∨ d.ppu.power = .sleep → d.chg.lowMark = false → e.chg.lowMark = true →
    d.tst.settings.noticeMask.getLsbD 9 = true → ∀ x, e.chg.systemSoc = some x →
      Notice.batteryCritical x ∈ e.nsu.queue
  wakes : d.ppu.power = .sleep → d.chg.lowMark = false → e.chg.lowMark = true →
    e.Raised 9 ∧ ((d.wakeEntry .batteryCritical).inSleep = true → d.WokenBy e .batteryCritical ∧
      (d.RiseLinks → d.ktu.Delivers e.ktu d.tst.settings.fnLock))
  shuts : d.ppu.power = .sleep → (d.wakeEntry .batteryCritical).inSleep = false →
    ∀ x, e.chg.systemSoc = some x → x ≤ d.tst.power.shutdownSoc →
      e.ppu.power = (if d.pins.powerGood then .poweringDown else .off) ∧ e.wku.lastCause = .battery
  sleeps : d.ppu.power = .sleep →
    (e.chg.lowMark = true → d.chg.lowMark = true ∨ (d.wakeEntry .batteryCritical).inSleep = false) →
    (∀ x, e.chg.systemSoc = some x →
      (d.wakeEntry .batteryCritical).inSleep = true ∨ d.tst.power.shutdownSoc < x) →
    e.ppu.power = .sleep

/-- The zero write that a pack lost and a removal start, from whatever stage (R69, R78, R81).  With the writer IDLE a
pass begins: its CURRENT write, two zero bytes, is in the queue of a segment that takes arrivals, and on a segment in
HELD or FAULT the pass ends at once.  With a pass under way the again mark is set.  That this is one start where the
commanded values change too is the model's choice (log entry 45). -/
structure Dev.ZeroWrites (d e : Dev) (k : Pack) : Prop where
  begins : (d.chp k).writer = .idle → (d.seg (segOf k)).Takes →
    (e.chp k).writer = .writingCurrent ∧ (e.chp k).retryUsed = false ∧
    e.Queued (segOf k) 0 .charger true (d.tst.power.chargerAddress.get k.ix) d.tst.power.cmdCurrent [0, 0]
  ends : (d.chp k).writer = .idle → ¬ (d.seg (segOf k)).Takes → (e.chp k).writer = .idle
  waits : (d.chp k).writer ≠ .idle → (e.chp k).writer = (d.chp k).writer ∧ (e.chp k).again = true

/-- A pack has lost contact (R55, R56, R69): the record is COMM_LOST with failure count 3 and telemetry that is
present stale, the cycle is gone, the pack's stage is NONE, or FAULT kept, with commanded values 0, which a write
carries to the charger, and PACK_CHANGE is raised.  Outside SLEEP, where the battery watch may go on, only the PKM's
pack, the CHG, the segments and what they hand on change. -/
structure Dev.LosesPack (d e : Dev) (k : Pack) : Prop where
  record : (e.mon k).record = { (d.mon k).record with
    state := .commLost, failures := 3
    stale := (d.mon k).record.stale || (d.mon k).record.telemetry.isSome }
  cycle : (e.mon k).cycle = none ∧ (e.mon k).staged = [] ∧ (e.mon k).outstanding = false
  charge : (e.chp k).stage = (if (d.chp k).stage = .fault then .fault else .none) ∧
    (e.chp k).current = 0 ∧ (e.chp k).voltage = 0
  write : d.ZeroWrites e k
  told : e.Raised 6
  watch : d.WatchActs e
  rest : d.ppu.power ≠ .sleep → e = { d with
    pins := e.pins, pkm := d.pkm.set k.ix (e.mon k), chg := e.chg, segs := e.segs, pli := e.pli
    nsu := e.nsu }

/-! ## The part's own requesters at entry to HELD and to FAULT (R55 to R57, R64, R79, R92, R148, R156) -/

/-- A requester has a record in the queue of a segment, waiting or in flight. -/
def Segment.holds (sg : Segment) (who : Requester) : Bool := sg.queue.any fun t => t.requester == who

/-- The records of a segment are all of this requester or of the hub. -/
def Segment.OnlyWith (sg : Segment) (who : Requester) : Prop :=
  ∀ t ∈ sg.queue, t.requester = who ∨ t.requester = .hub

/-- The skin reader has one record in the queue of a segment, as R91 allows it. -/
def Segment.OneSkinRead (sg : Segment) : Prop :=
  (sg.queue.filter fun t => t.requester == .skin).length = 1

/-- A DRAIN that the writes in the queue of a segment make up, so that its set empties as they complete (R158). -/
def Segment.Drains (sg : Segment) (x : DrainEntry) : Prop :=
  x.writes ≠ [] ∧ ∀ o ∈ x.writes, ∃ t ∈ sg.queue, t.requester = .hub ∧ t.write = true ∧ t.order = o

/-- The CHG's reader after the completions of an event (R64): a sample that an input read of the segment failed counts
a failure, up to 3, and keeps V_in and I_sys; with none in the queue, or the reader IDLE, it is as it was. -/
structure Dev.InputFollows (d e : Dev) (g : Seg) : Prop where
  fails : (d.seg g).holds .input = true → d.chg.reader ≠ .idle →
    e.chg.reader = .idle ∧ e.chg.inputFailures = min 3 (d.chg.inputFailures + 1)
  rests : (d.seg g).holds .input = false ∨ d.chg.reader = .idle →
    e.chg.reader = d.chg.reader ∧ e.chg.inputFailures = d.chg.inputFailures
  keeps : e.chg.vIn = d.chg.vIn ∧ e.chg.iSys = d.chg.iSys

/-- One skin read has failed between two moments (R92): the reader is IDLE and the failure counted, up to 3.  The third
in a row makes S FAIL_SAFE with THERMAL_INPUT_LOST, and the zone and the critical mark follow S (R94 to R98); any other
leaves S, the zone and the mark. -/
structure Dev.SkinFails (d e : Dev) : Prop where
  counts : e.tfu.skinReading = false ∧ e.tfu.skinFailures = min 3 (d.tfu.skinFailures + 1)
  keeps : d.tfu.skinFailures ≠ 2 → e.tfu = { d.tfu with
    skinReading := false, skinFailures := min 3 (d.tfu.skinFailures + 1) }
  lost : d.tfu.skinFailures = 2 →
    e.tfu.skin = ⟨d.tst.thermal.failSafe, .failSafe⟩ ∧ e.Raised 13 ∧
    e.tfu.zone = d.tst.thermal.moved d.tfu.zone d.tst.thermal.failSafe ∧
    (e.tfu.zone ≠ d.tfu.zone → e.Raised 11 ∧
      (e.tfu.zone = 3 → (e.chp .a).current = 0 ∧ (e.chp .b).current = 0)) ∧
    d.MarkActs e

/-- What entry to HELD makes of the records of the part's own requesters, waiting or in flight (R156).  A poll cycle or
an identification ends without a failure, the pack's record as it stands; an orphan is discarded, and an identification
that waited for it begins and ends at once (R46, R57).  A charger pass ends unwritten, its again mark, stage and
commanded values as they stand (R79).  An input sample and a skin read fail (R64, R92).  Of the blocks, the PKM's pack,
the CHG, the TFU, the segments and what they hand on alone change. -/
structure Dev.HoldsRequesters (d e : Dev) (g : Seg) : Prop where
  noRead : (d.seg g).holds .pkm = false → e.mon (packOf g) = d.mon (packOf g)
  cycle : (d.seg g).holds .pkm = true → (d.mon (packOf g)).orphan = false →
    (d.mon (packOf g)).cycle.isSome → e.mon (packOf g) = { d.mon (packOf g) with
      cycle := none, staged := [], outstanding := false }
  orphan : (d.seg g).holds .pkm = true → (d.mon (packOf g)).orphan = true →
    (d.mon (packOf g)).cycle = none →
    let met : PackMonitor := { d.mon (packOf g) with outstanding := false, orphan := false }
    e.mon (packOf g) = (if met.record.state = .identifying then { met with
        staged := []
        copyAddress := d.tst.power.packAddress.get (packOf g).ix, copyCommands := d.tst.itemmap }
      else met)
  charger : d.ChargeInv → e.chp (packOf g) = (if (d.seg g).holds .charger then
      { d.chp (packOf g) with writer := .idle, retryUsed := false }
    else d.chp (packOf g))
  input : d.InputFollows e g
  noSkin : (d.seg g).holds .skin = false → e.tfu = d.tfu
  skin : (d.seg g).OneSkinRead → d.SkinFails e
  rest : e = { d with
    pkm := d.pkm.set (packOf g).ix (e.mon (packOf g)), tfu := e.tfu, segs := e.segs, pli := e.pli
    nsu := e.nsu
    chg := { d.chg with
      reader := e.chg.reader, inputFailures := e.chg.inputFailures, headroom := e.chg.headroom
      packs := e.chg.packs } }

/-- A pack's record after an aborted cycle (R55, R56): the failure counted, up to 3; the third in IDENTIFYING or READY
is a loss of contact, which sets stale where telemetry is present. -/
def PackRecord.aborted (r : PackRecord) : PackRecord :=
  if 2 ≤ r.failures ∧ (r.state = .identifying ∨ r.state = .ready) then
    { r with state := .commLost, failures := 3, stale := r.stale || r.telemetry.isSome }
  else { r with failures := min 3 (r.failures + 1) }

/-- What entry to FAULT makes of the records of the part's own requesters (R148).  A read of the PKM and its retry fail,
so the cycle aborts; an orphan is discarded, and an identification that waited for it begins and aborts (R46, R55); a
pack that loses contact is told so, has no commanded values, and sets off the battery watch (R56, R69, R82).  A charger
write and its retry fail, so the pass ends with the again mark clear: a READY pack goes to FAULT with commanded values
0, any other keeps its stage (R79).  An input sample and a skin read fail (R64, R92).  Of the blocks, the PKM's pack,
the CHG, the TFU, the segments and what they hand on alone change. -/
structure Dev.FailsRequesters (d e : Dev) (g : Seg) : Prop where
  noRead : (d.seg g).holds .pkm = false → e.mon (packOf g) = d.mon (packOf g)
  cycle : (d.seg g).holds .pkm = true → (d.mon (packOf g)).orphan = false →
    (d.mon (packOf g)).cycle.isSome → e.mon (packOf g) = { d.mon (packOf g) with
      cycle := none, staged := [], outstanding := false, record := (d.mon (packOf g)).record.aborted }
  orphan : (d.seg g).holds .pkm = true → (d.mon (packOf g)).orphan = true →
    (d.mon (packOf g)).cycle = none →
    let met : PackMonitor := { d.mon (packOf g) with outstanding := false, orphan := false }
    e.mon (packOf g) = (if met.record.state = .identifying then { met with
        staged := [], record := met.record.aborted
        copyAddress := d.tst.power.packAddress.get (packOf g).ix, copyCommands := d.tst.itemmap }
      else met)
  lost : (d.mon (packOf g)).record.state ≠ .commLost → (e.mon (packOf g)).record.state = .commLost →
    e.Raised 6 ∧ (e.chp (packOf g)).current = 0 ∧ (e.chp (packOf g)).voltage = 0 ∧ d.WatchActs e
  charger : (d.seg g).holds .charger = true →
    (e.chp (packOf g)).writer = .idle ∧ (e.chp (packOf g)).retryUsed = false ∧
    (e.chp (packOf g)).again = false
  faults : (d.seg g).holds .charger = true → (d.seg g).holds .pkm = false →
    (d.mon (packOf g)).record.state = .ready → (d.chp (packOf g)).stage ≠ .fault →
    (e.chp (packOf g)).stage = .fault ∧ (e.chp (packOf g)).current = 0 ∧
    (e.chp (packOf g)).voltage = 0 ∧ (e.chp (packOf g)).termCount = 0 ∧
    (e.chp (packOf g)).elapsedUs = 0 ∧ e.Raised 7
  spares : (d.seg g).holds .pkm = false →
    (d.mon (packOf g)).record.state ≠ .ready ∨ (d.chp (packOf g)).stage = .fault →
    (e.chp (packOf g)).stage = (d.chp (packOf g)).stage
  input : d.InputFollows e g
  noSkin : (d.seg g).holds .skin = false → e.tfu = d.tfu
  skin : (d.seg g).OneSkinRead → d.SkinFails e
  rest : e = { d with
    pins := e.pins, pkm := d.pkm.set (packOf g).ix (e.mon (packOf g)), chg := e.chg, tfu := e.tfu
    segs := e.segs, pli := e.pli, nsu := e.nsu }
  watch : (e.mon (packOf g)).record.state = (d.mon (packOf g)).record.state → e.chg = { d.chg with
    reader := e.chg.reader, inputFailures := e.chg.inputFailures, headroom := e.chg.headroom
    packs := e.chg.packs }

/-! ## Fields in bytes (R196, R197) -/

/-- The number in so many bits of a part of a record, from a bit position upward: bit 8 is bit 0 of the part's
second byte (R196). -/
def bitsAt (bs : List Byte) (low width : Nat) : Nat := leNat bs / 2 ^ low % 2 ^ width

/-- The bytes carry these fields, each a bit position, a width in bits, and a value, in two's complement where it is
negative (R196, R197). -/
def Carries (bs : List Byte) (fields : List (Nat × Nat × Int)) : Prop :=
  ∀ x ∈ fields, (bitsAt bs x.1 x.2.1 : Int) = x.2.2 % 2 ^ x.2.1

/-- A field of whole bytes: the byte where it begins, how many bytes it takes, its value. -/
def wholeBytes (first size : Nat) (x : Int) : Nat × Nat × Int := (8 * first, 8 * size, x)

/-- Where SCAN's fields stand: in the order of R17, one byte each (R197); sleep_period in one byte is the model's
choice (log entry 44). -/
def ScanTab.layout (t : ScanTab) : List (Nat × Nat × Int) :=
  [wholeBytes 0 1 t.driveLines, wholeBytes 1 1 t.senseLines, wholeBytes 2 1 t.onPeriod,
    wholeBytes 3 1 t.sleepPeriod, wholeBytes 4 1 t.pressCount, wholeBytes 5 1 t.releaseCount,
    wholeBytes 6 1 (if t.diodeMatrix then 1 else 0)]

/-- Where a KEYMAP entry's fields stand (R197). -/
def KeymapEntry.layout (e : KeymapEntry) : List (Nat × Nat × Int) :=
  (7, 1, if e.wakeMark then 1 else 0) ::
    match e.kind with
    | .noKey => [(0, 3, 0)]
    | .code c => [(0, 3, 1), wholeBytes 1 2 c]
    | .fn => [(0, 3, 2)]
    | .action a => [(0, 3, 3), wholeBytes 1 1 a]
    | .transparent => [(0, 3, 4)]

/-- Where a PROFILE entry's fields stand: band `n`, counted from 0, in the 5 bytes from 16 + 5 n on (R197). -/
def ProfileTab.layout (t : ProfileTab) : List (Nat × Nat × Int) :=
  [wholeBytes 0 2 t.prechargeThreshold, wholeBytes 2 2 t.prechargeCurrent, wholeBytes 4 2 t.fastCurrent,
    wholeBytes 6 2 t.chargeVoltage, wholeBytes 8 2 t.terminationCurrent, wholeBytes 10 1 t.topoffWindow,
    wholeBytes 11 1 t.rechargeSoc, wholeBytes 12 1 t.ceilingHysteresis, wholeBytes 13 2 t.fastChargeTime,
    wholeBytes 15 1 t.bandCount] ++
  (t.bands.zipIdx.map fun (b, n) =>
    [wholeBytes (16 + 5 * n) 1 b.low, wholeBytes (17 + 5 * n) 1 b.high, wholeBytes (18 + 5 * n) 1 b.factor,
      wholeBytes (19 + 5 * n) 2 b.reduction]).flatten

/-- Where POWER's fields stand: those of R85, of R48, the skin sensor address, those of R127 (R197). -/
def PowerTab.layout (t : PowerTab) : List (Nat × Nat × Int) :=
  [wholeBytes 0 1 t.derate, wholeBytes 1 2 t.guard, wholeBytes 3 1 t.efficiency, wholeBytes 4 2 t.minCurrent,
    wholeBytes 6 2 t.step, wholeBytes 8 2 t.slew, wholeBytes 10 1 t.zone1Factor, wholeBytes 11 1 t.zone2Factor,
    wholeBytes 12 1 t.fanFaultFactor, wholeBytes 13 1 t.criticalSoc, wholeBytes 14 1 t.shutdownSoc,
    wholeBytes 15 4 t.batteryGrace, wholeBytes 19 2 t.allocOn, wholeBytes 21 2 t.allocOther,
    wholeBytes 23 2 t.refresh, wholeBytes 25 1 t.chargerAddress.one, wholeBytes 26 1 t.chargerAddress.two,
    wholeBytes 27 1 t.cmdCurrent, wholeBytes 28 1 t.cmdVoltage, wholeBytes 29 1 t.cmdInputVoltage,
    wholeBytes 30 1 t.cmdSystemCurrent, wholeBytes 31 1 t.packAddress.one, wholeBytes 32 1 t.packAddress.two,
    wholeBytes 33 2 t.pollOn, wholeBytes 35 2 t.pollOther, wholeBytes 37 1 t.skinAddress,
    wholeBytes 38 2 t.powerUpTimeout, wholeBytes 40 2 t.powerDownTimeout, wholeBytes 42 2 t.restartOffTime,
    wholeBytes 44 2 t.overrideHold, wholeBytes 46 1 t.buttonDebounce, wholeBytes 47 2 t.lidFoldDebounce,
    wholeBytes 49 2 t.adapterDebounce]

/-- Where a FANCURVE entry's fields stand (R197). -/
def FanTab.layout (t : FanTab) : List (Nat × Nat × Int) :=
  (t.points.zipIdx.map fun (p, n) =>
    [wholeBytes (3 * n) 2 p.temp, wholeBytes (3 * n + 2) 1 p.duty]).flatten ++ [(192, 7, (t.sources : Int))] ++
  (t.offsets.zipIdx.map fun (x, n) => wholeBytes (25 + n) 1 x) ++
  [wholeBytes 32 1 t.hysteresis, wholeBytes 33 1 t.boostFloor, wholeBytes 34 1 t.closedCap,
    wholeBytes 35 1 t.heatAddition, wholeBytes 36 2 t.heatThreshold, wholeBytes 38 1 t.minStart,
    wholeBytes 39 1 t.decreaseStep, wholeBytes 40 1 t.stallCheckDuty, wholeBytes 42 2 t.stallSpeed]

/-- Where THERMAL's fields stand: in the order of R107 (R197). -/
def ThermalTab.layout (t : ThermalTab) : List (Nat × Nat × Int) :=
  [wholeBytes 0 1 t.zone1, wholeBytes 1 1 t.zone2, wholeBytes 2 1 t.zone3, wholeBytes 3 1 t.zoneHysteresis,
    wholeBytes 4 2 t.hostTimeout, wholeBytes 6 1 t.failSafe, wholeBytes 7 1 t.dieCritical,
    wholeBytes 8 1 t.skinCritical, wholeBytes 9 1 t.criticalHysteresis, wholeBytes 10 2 t.criticalGrace,
    wholeBytes 12 1 t.skinCommand]

/-- Where a FILTER entry's fields stand (R197). -/
def FilterEntry.layout (e : FilterEntry) : List (Nat × Nat × Int) :=
  [(0, 1, if e.valid then 1 else 0), (1, 1, match e.seg with | .seg0 => 0 | .seg1 => 1),
    (2, 2, match e.access with | .read => 0 | .write => 1 | .both => 2),
    (4, 2, match e.action with | .pass => 0 | .deny => 1 | .shadow => 2),
    wholeBytes 1 1 e.address, wholeBytes 2 1 e.first, wholeBytes 3 1 e.last]

/-- Where a WAKE entry's flags stand (R197). -/
def WakeEntry.layout (e : WakeEntry) : List (Nat × Nat × Int) :=
  [(0, 1, if e.inSleep then 1 else 0), (1, 1, if e.inOff then 1 else 0), (2, 1, if e.deliver then 1 else 0)]

/-- Where SETTINGS's fields stand: in the order of R171, with bit n of notice_mask for class n (R197). -/
def SettingsTab.layout (t : SettingsTab) : List (Nat × Nat × Int) :=
  [wholeBytes 0 1 (if t.ceilingEnable then 1 else 0), wholeBytes 1 1 t.ceiling,
    wholeBytes 2 1 (if t.boost then 1 else 0), wholeBytes 3 1 (if t.fnLock then 1 else 0),
    wholeBytes 4 2 t.noticeMask.toNat, wholeBytes 6 1 t.prioResponse, wholeBytes 7 1 t.prioKey,
    wholeBytes 8 1 t.prioNotice, wholeBytes 9 1 t.prioBattery, wholeBytes 10 1 t.prioThermal]

/-- The fields of the entry at an index of a table, where R197 places them in the entry's bytes. -/
def Tst.layout (s : Tst) (t : TableId) (j : Nat) : List (Nat × Nat × Int) :=
  match t with
  | .scan => s.scan.layout
  | .keymap => (s.keymap.getD j ⟨.noKey, false⟩).layout
  | .profile => (s.profile.getD j ProfileTab.default).layout
  | .power => s.power.layout
  | .adapter => [wholeBytes 0 4 (s.adapter.getD j 0)]
  | .itemmap => [wholeBytes 0 1 (s.itemmap.getD j 0)]
  | .fancurve => (s.fancurve.get (j == 1)).layout
  | .thermal => s.thermal.layout
  | .filter => (s.filter.getD j FilterEntry.default).layout
  | .wake => (s.wake.getD j ⟨false, false, false⟩).layout
  | .settings => s.settings.layout

/-! ## Commands -/

/-- The frame whose arrival a request command is (R178, R195); none for the commands that are no request. -/
def frameOf : Instr → Option Frame
  | .tempReport tag p => some ⟨3, 0, tag, p⟩
  | .identify tag p => some ⟨0, 0, tag, p⟩
  | .tableRead tag p => some ⟨0, 1, tag, p⟩
  | .tableWrite tag p => some ⟨0, 2, tag, p⟩
  | .tableWriteCond tag p => some ⟨0, 3, tag, p⟩
  | .tableLock tag p => some ⟨0, 4, tag, p⟩
  | .wakeSet tag p => some ⟨0, 5, tag, p⟩
  | .wakeStatusRead tag p => some ⟨0, 6, tag, p⟩
  | .wakeStatusClear tag p => some ⟨0, 7, tag, p⟩
  | .powerRequestSleep tag => some ⟨0, 8, tag, [0]⟩
  | .powerRequestOff tag => some ⟨0, 8, tag, [1]⟩
  | .powerRequestRestart tag => some ⟨0, 8, tag, [2]⟩
  | .chargeClear tag p => some ⟨0, 9, tag, p⟩
  | .streamStart tag p => some ⟨0, 10, tag, p⟩
  | .streamStop tag p => some ⟨0, 11, tag, p⟩
  | .statusReadBattery tag => some ⟨0, 12, tag, [0]⟩
  | .statusReadThermal tag => some ⟨0, 12, tag, [1]⟩
  | .statusReadKeyboard tag => some ⟨0, 12, tag, [2]⟩
  | .summaryRead tag => some ⟨0, 12, tag, [3]⟩
  | .segmentResetHold tag segment => some ⟨0, 13, tag, [segment, 0]⟩
  | .segmentResetRelease tag segment => some ⟨0, 13, tag, [segment, 1]⟩
  | .drain tag p => some ⟨0, 14, tag, p⟩
  | .keyResync tag p => some ⟨0, 15, tag, p⟩
  | .ptRead g tag p => some ⟨passChannel g, 0, tag, p⟩
  | .ptWrite g tag p => some ⟨passChannel g, 1, tag, p⟩
  | .ptSeqOpen g tag p => some ⟨passChannel g, 2, tag, p⟩
  | .ptSeqClose g tag p => some ⟨passChannel g, 3, tag, p⟩
  | .powerOnReset _ | .platformResetAssert | .platformResetRelease | .scan _ | .takeRawEvent
  | .restatementResume | .presenceActive _ | .packRemoval _ | .pollTimerExpiry _ | .ageTick _
  | .packItemCompletion _ _ | .adapterPresentAccept _ _ | .allocationTimerExpiry
  | .inputReadCompletion _ | .fastChargeExpiry _ | .chargerWriteCompletion _ _
  | .chargerRefreshExpiry | .batteryGraceExpiry | .hostReportTimeout | .skinReadTimerExpiry
  | .skinReadCompletion _ | .criticalGraceExpiry | .fanUpdate _ | .tachPulse _ | .tachWindowEnd _
  | .lidFoldAccept _ | .shortPress | .buttonRelease | .overrideExpiry | .powerGoodChange _
  | .powerUpTimeout | .powerDownTimeout | .restartTimerExpiry | .wakeLineAccept
  | .transactionComplete _ _ | .stretchTimeout _ | .recoveryEnd _ _ | .sequenceIdleExpiry _
  | .frameReceived _ | .requestTake | .transmitChoice _ | .frameSent | .streamPeriodExpiry _
  | .wakeLineInactiveAccept => none

/-- A command ends with the part as given, the queue of commands as it was. -/
def Ends (c : Instr) (s : State) (d : Dev) : Prop := exec c s = .next { s with dev := d }

/-- The head of the receive queue may be taken: the link is UP, and the frame is a TEMP_REPORT on channel 3 or a slot
is FREE (R177). -/
def Dev.HeadTakable (d : Dev) : Prop :=
  d.pli.linkUp = true ∧ ∃ f rest, d.pli.rx = f :: rest ∧
    ((f.channel = 3 ∧ f.kind = 0) ∨ ∃ x ∈ d.pli.slots, x.state = .free)

/-- The second part is the first after takes of the head of the receive queue, at most so many (R177, R180).  While the
head may be taken, the free value that the model draws (log entry 37) decides: the takes are over, or the head is
taken, as REQUEST_TAKE takes it, and the next is attempted. -/
def Dev.TakesTo : Nat → Dev → Dev → Prop
  | 0, d, m => m = d
  | n + 1, d, m => (¬ d.HeadTakable ∧ m = d) ∨ (d.HeadTakable ∧
      let drawn : Dev := { d with draws := d.draws + 1 }
      (m = drawn ∨ ∃ e : Dev, Ends .requestTake ⟨drawn, []⟩ e ∧ Dev.TakesTo n e m))

end Sys2Proof.Machine
end

