-- ==== Sys2Proof/Certificates/Slice0/Obligations.lean ====
section
/-!
DEFINITION. The statements for the provers.  `Ends c s d` reads: the command `c`, run on `s`, answers the
next state in which the part is `d` and the commands that wait are as they were.  A record update
`{ s.dev with … }` on the right of an equation is the frame: every block it does not name is unchanged.
-/

open Sys2Proof Sys2Proof.Machine

/-! ## The machine -/

/-- A step runs the command at the front of the queue on the machine with the queue's rest.  What a step does with no
command waiting is the model's choice (log entry 3): a raw event that may be taken goes into the queue before all
else; with no step of the part's own to take, the first expiry that is due does, among them each of those named here;
with none due, 0.5 ms pass: every running timer, debounce wait and fast-charge timer moves on by it, the stretch
timer of a segment (R147) runs while its transaction waits on a line and is gone when it does not, and nothing else
happens. -/
def Obligations.StepRunsFrontCommand : Prop :=
  (∀ (c : Instr) (s : State), step { s with pending := c :: s.pending } = exec c s) ∧
  ∀ s : State, s.pending = [] →
    (s.dev.mse.raw ≠ [] →
      s.dev.pli.linkUp = false ∨ (s.dev.ktu.restate = .idle ∧ s.dev.ktu.queue.length < 32) →
      step s = .next { s with pending := [.takeRawEvent] }) ∧
    (s.dev.ownStep = none →
      (∀ c, s.dev.due.head? = some c → step s = .next { s with pending := [c] }) ∧
      (∀ (c : Instr) (t : Timer), t.left = 0 →
        (c = .scan s.dev.pins.keys ∧ s.dev.mse.scanTimer = some t) ∨
          (∃ k, (c = .pollTimerExpiry k ∧ (s.dev.mon k).pollTimer = some t) ∨
            (c = .ageTick k ∧ (s.dev.mon k).ageTick = some t)) ∨
          (c = .allocationTimerExpiry ∧ s.dev.chg.allocTimer = some t) ∨
          (c = .chargerRefreshExpiry ∧ s.dev.chg.refreshTimer = some t) ∨
          (c = .batteryGraceExpiry ∧ s.dev.chg.graceTimer = some t) ∨
          (c = .skinReadTimerExpiry ∧ s.dev.tfu.skinTimer = some t) ∨
          (c = .criticalGraceExpiry ∧ s.dev.tfu.graceTimer = some t) ∨
          (c = .overrideExpiry ∧ s.dev.ppu.overrideTimer = some t) ∨
          (c = .restartTimerExpiry ∧ s.dev.ppu.restartTimer = some t) ∨
          (∃ f, (c = .fanUpdate f ∧ (s.dev.fan f).updateTimer = some t) ∨
            (c = .tachWindowEnd f ∧ (s.dev.fan f).windowTimer = some t)) ∨
          (∃ x, c = .streamPeriodExpiry x ∧ (s.dev.stream x).timer = some t) →
        c ∈ s.dev.due) ∧
      (s.dev.due = [] →
        let on (t : Timer) : Timer := ⟨t.period, t.left - 500⟩
        let waits (ms : Nat) (level : Bool) (b : Debounce) : Debounce :=
          ⟨b.accepted, if b.accepted = some level then none
            else some (level, on (match b.wait with
              | some w => if w.1 = level then w.2 else Timer.ofMs ms
              | none => Timer.ofMs ms))⟩
        let p := s.dev.tst.power
        let fan (x : FanState) : FanState :=
          { x with updateTimer := x.updateTimer.map on, windowTimer := x.windowTimer.map on }
        let pack (x : ChargePack) : ChargePack :=
          if (x.stage = .fast ∨ x.stage = .topoff) ∧ x.current ≠ 0 then
            { x with elapsedUs := x.elapsedUs + 500 }
          else x
        let monitor (k : Pack) : PackMonitor := { s.dev.mon k with
          presence := if s.dev.packFitted k = true then
            waits 100 (s.dev.pins.presence.get k.ix) (s.dev.mon k).presence
            else (s.dev.mon k).presence
          pollTimer := (s.dev.mon k).pollTimer.map on, ageTick := (s.dev.mon k).ageTick.map on }
        let segment (g : Seg) : Segment :=
          let x := s.dev.seg g
          let low := s.dev.pins.clockHigh.get g.ix = false ∨
            (x.startWait = true ∧ s.dev.pins.dataHigh.get g.ix = false)
          { x with
            sequence := match x.sequence with
              | .opened t => .opened (on t)
              | .pending i => .pending i
              | .noSeq => .noSeq
            stretch := if x.state = .busy ∧ low then some (on (x.stretch.getD (Timer.ofMs 25))) else none
            startWait := x.startWait && decide (x.state = .busy ∧ low) }
        step s = .next { s with dev := { s.dev with
          mse := { s.dev.mse with scanTimer := s.dev.mse.scanTimer.map on }
          pkm := ⟨monitor .a, monitor .b⟩
          chg := { s.dev.chg with
            allocTimer := s.dev.chg.allocTimer.map on, refreshTimer := s.dev.chg.refreshTimer.map on
            graceTimer := s.dev.chg.graceTimer.map on
            packs := ⟨pack (s.dev.chp .a), pack (s.dev.chp .b)⟩ }
          tfu := { s.dev.tfu with
            hostTimer := match s.dev.tfu.hostTimer with
              | .running t => .running (on t)
              | .stopped => .stopped
              | .expired => .expired
            skinTimer := s.dev.tfu.skinTimer.map on, graceTimer := s.dev.tfu.graceTimer.map on
            fans := ⟨fan (s.dev.fan .fan1), fan (s.dev.fan .fan2)⟩ }
          ppu := { s.dev.ppu with
            lid := waits p.lidFoldDebounce s.dev.pins.lidClosed s.dev.ppu.lid
            fold := waits p.lidFoldDebounce s.dev.pins.foldFolded s.dev.ppu.fold
            button := waits p.buttonDebounce s.dev.pins.buttonPressed s.dev.ppu.button
            adapter := waits p.adapterDebounce s.dev.pins.adapterPresent s.dev.ppu.adapter
            overrideTimer := s.dev.ppu.overrideTimer.map on
            transition := s.dev.ppu.transition.map on
            restartTimer := s.dev.ppu.restartTimer.map on }
          wku := { s.dev.wku with line := waits 50 s.dev.pins.wakeLow s.dev.wku.line }
          segs := ⟨segment .seg0, segment .seg1⟩
          nsu := { s.dev.nsu with streams := ⟨
            { s.dev.stream .battery with timer := (s.dev.stream .battery).timer.map on },
            { s.dev.stream .thermal with timer := (s.dev.stream .thermal).timer.map on }⟩ } } }))

/-! ## Resets -/

/-- A power-on reset (R20, R42, R60, R86, R108, R128, R142, R159, R185, R190, R191, R194): every block at its
reset value, whatever stood before, with the timers that run from the reset and the debounce waits that start
from the inputs.  That the input lines themselves stay as they are but for the straps, which are sampled, is the
model's choice (log entry 24), and so is that a fan's stall-check duty and stall speed in force are the FANCURVE
defaults until its first update (log entry 22); the count of free values drawn, which goes on, is the model's own field
(log entry 37). -/
def Obligations.PowerOnResetLeaves : Prop :=
  ∀ (straps : Profile) (s : State), ∃ d, Ends (.powerOnReset straps) s d ∧
    let ms (n : Nat) : Timer := ⟨n * 1000, n * 1000⟩
    let waits (accepted : Option Bool) (n : Nat) (level : Bool) : Debounce :=
      ⟨accepted, if accepted = some level then none else some (level, ms n)⟩
    let fan (fitted : Bool) : FanState := ⟨-40, 0, if fitted then some (ms 250) else none, 0,
      if fitted then some (ms 1000) else none, 0, false, false, 0, 0, 30, 300⟩
    d.profile = straps ∧ d.pins = { s.dev.pins with straps := straps } ∧
    d.mse = ⟨List.replicate 148 ⟨false, 0, false, false⟩, [], false, .gated, none⟩ ∧
    d.ktu = ⟨List.replicate 148 none, [], 0, false, [], .idle, none⟩ ∧
    (∀ k, (d.mon k).record = ⟨.absent, none, none, false, 0, 0⟩ ∧
      (d.mon k).presence = waits (some false) 100
        (s.dev.pins.presence.get k.ix && (k == .a || straps.twoPacks)) ∧
      (d.mon k).cycle = none ∧ (d.mon k).staged = [] ∧ (d.mon k).outstanding = false ∧
      (d.mon k).orphan = false ∧ (d.mon k).pollTimer = none ∧ (d.mon k).ageTick = none) ∧
    (∀ k, d.chp k = ⟨.none, 0, 0, 0, 0, .idle, false, false⟩) ∧
    d.chg = ⟨none, none, none, 0, .idle, some (ms 2000), d.chg.packs, 0, some (ms 10000), none, false,
      none⟩ ∧
    d.tfu = ⟨d.tfu.die, d.tfu.skin, ⟨none, none⟩, .stopped, some (ms 1000), false, 0, 0, false, none,
      ⟨fan true, fan straps.twoFans⟩⟩ ∧
    d.tfu.die.map Source.cond = List.replicate 4 .absent ∧ d.tfu.skin.cond = .absent ∧
    d.ppu = ⟨waits none 50 s.dev.pins.lidClosed, waits none 50 s.dev.pins.foldFolded, .unknown,
      waits (some false) 30 s.dev.pins.buttonPressed, none,
      waits (some false) 200 s.dev.pins.adapterPresent, .off, none, none, false, none, false, .none⟩ ∧
    d.mainRail = false ∧ d.sleepRail = false ∧
    d.wku = ⟨none, 0, .none, false, ⟨some false, none⟩⟩ ∧
    (∀ g, d.seg g = ⟨.idle, [], (d.seg g).nextOrder, none, .noSeq, [], false, false⟩) ∧
    d.pli = ⟨false, [], List.replicate 8 ⟨.free, 0, 0, 0, none⟩, [], none, 0, 0, 0, 0, true⟩ ∧
    d.rxReady = false ∧ d.nsu.queue = [] ∧ d.nsu.summary = 0 ∧
    (∀ x, d.stream x = ⟨false, 1000, 1, false, 0, none, none⟩) ∧ d.draws = s.dev.draws

/-- A power-on reset loads the built-in defaults of the eleven tables and clears every reservation and
every lock (R173, with R17, R22, R48, R50, R62, R84, R85, R106, R107, R127, R130, R152, R171).  That the sleep period
stands in ms is the model's choice (log entry 44). -/
def Obligations.PowerOnResetLoadsDefaults : Prop :=
  ∀ (straps : Profile) (s : State), ∃ d, Ends (.powerOnReset straps) s d ∧
    d.tst.scan = ⟨16, 8, 1, 16, 3, 5, false⟩ ∧
    d.tst.keymap.length = 444 ∧
    (∀ p, p < 148 → d.tst.keymap[p]? = some ⟨.code (p + 1), false⟩) ∧
    (∀ p, 148 ≤ p → p < 444 → d.tst.keymap[p]? = some ⟨.transparent, false⟩) ∧
    d.tst.profile = List.replicate 4 ⟨3000, 128, 512, 4100, 64, 15, 95, 5, 300, 1,
      [⟨10, 45, 100, 0⟩, ⟨0, 0, 100, 0⟩, ⟨0, 0, 100, 0⟩, ⟨0, 0, 100, 0⟩]⟩ ∧
    d.tst.power = {
      derate := 90, guard := 2000, efficiency := 90, minCurrent := 128, step := 32, slew := 256
      zone1Factor := 75, zone2Factor := 50, fanFaultFactor := 50, criticalSoc := 5, shutdownSoc := 2
      batteryGrace := 60000, allocOn := 500, allocOther := 2000, refresh := 10000
      chargerAddress := ⟨0x09, 0x09⟩, cmdCurrent := 0x22, cmdVoltage := 0x23, cmdInputVoltage := 0x30
      cmdSystemCurrent := 0x31, packAddress := ⟨0x0B, 0x0B⟩, pollOn := 1000, pollOther := 10000
      skinAddress := 0x48, powerUpTimeout := 2000, powerDownTimeout := 1000, restartOffTime := 500
      overrideHold := 4000, buttonDebounce := 30, lidFoldDebounce := 50, adapterDebounce := 200 } ∧
    d.tst.adapter = List.replicate 16 45000 ∧
    d.tst.itemmap = [0x40, 0x41, 0x42, 0x43, 0x44, 0x45, 0x46, 0x47, 0x48, 0x49, 0x4A] ∧
    (∀ f, d.curve f = {
      points := [⟨40, 20⟩, ⟨60, 50⟩, ⟨80, 100⟩, ⟨0, 0⟩, ⟨0, 0⟩, ⟨0, 0⟩, ⟨0, 0⟩, ⟨0, 0⟩]
      sources := 127, offsets := [0, 0, 0, 0, 0, 0, 0], hysteresis := 4, boostFloor := 60
      closedCap := 40, heatAddition := 10, heatThreshold := 1000, minStart := 25, decreaseStep := 5
      stallCheckDuty := 30, stallSpeed := 300 }) ∧
    d.tst.thermal = ⟨45, 50, 55, 2, 3000, 95, 105, 60, 5, 10000, 0⟩ ∧
    d.tst.filter = List.replicate 24 ⟨false, .seg0, 0, 0, 0, .read, .deny⟩ ∧
    d.tst.wake = [⟨true, true, false⟩, ⟨true, false, false⟩, ⟨true, false, false⟩,
      ⟨false, false, false⟩, ⟨false, false, false⟩, ⟨true, false, false⟩, ⟨true, false, false⟩] ∧
    d.tst.settings = ⟨false, 80, false, false, 0xFFFF, 3, 3, 2, 1, 1⟩ ∧
    (∀ t, d.tst.isLocked t = false ∧ d.tst.isReserved t = false) ∧ d.tst.Sound

/-- An assertion of the platform reset input (R41, R159, R174, R183, R185): the link DOWN with its queues
emptied, notices and summary cleared, streams stopped, locks and reservations cleared with the tables'
contents kept, the KTU emptied, sequences closed; everything else unchanged.  A segment keeps its state, HELD and
FAULT included, its queue with the transaction in flight, and a recovery under way; one that is IDLE takes a
record that the end of the sequence lets it take. -/
def Obligations.PlatformResetClearsLinkSide : Prop :=
  ∀ s : State, s.dev.pins.platformReset = false →
    ∃ d, Ends .platformResetAssert s d ∧
      d.profile = s.dev.profile ∧ d.pins = { s.dev.pins with platformReset := true } ∧
      d.mse = s.dev.mse ∧ d.pkm = s.dev.pkm ∧ d.chg = s.dev.chg ∧ d.tfu = s.dev.tfu ∧
      d.wku = s.dev.wku ∧ d.ppu = { s.dev.ppu with request := none } ∧
      d.pli = { s.dev.pli with
        linkUp := false, rx := [], readyOrder := [], tx := none
        slots := s.dev.pli.slots.map fun _ => ⟨.free, 0, 0, 0, none⟩ } ∧
      d.nsu.queue = [] ∧ d.nsu.summary = 0 ∧
      (∀ i, d.stream i =
        { s.dev.stream i with running := false, timer := none, slot := none }) ∧
      d.tst = { s.dev.tst with
        reserved := s.dev.tst.reserved.map fun _ => false
        locked := s.dev.tst.locked.map fun _ => false } ∧
      d.ktu.queue = [] ∧ d.ktu.held = [] ∧ d.ktu.rollover = false ∧ d.ktu.restate = .idle ∧
      d.ktu.wakeKey = none ∧ d.ktu.recs = s.dev.ktu.recs.map (fun _ => none) ∧
      d.ktu.layer = (if s.dev.tst.settings.fnLock then 2 else 0) ∧
      (∀ g,
        let sg := s.dev.seg g
        let kept : Segment := { sg with
          sequence := .noSeq, drains := []
          queue := sg.queue.map fun t => { t with slot := none, member := false } }
        (sg.state ≠ .idle ∨ sg.queue = [] → d.seg g = kept) ∧
        (d.seg g).sequence = .noSeq ∧ (d.seg g).drains = [] ∧
        (d.seg g).nextOrder = sg.nextOrder ∧ (d.seg g).fromFault = sg.fromFault ∧
        ((d.seg g).queue.map fun t => { t with inFlight := false }) =
          (kept.queue.map fun t => { t with inFlight := false }) ∧
        (sg.state = .idle → Wait kept.queue → (d.seg g).TookFirst kept.queue))

/-- A release of the platform reset input while the power state is ON brings the link UP with all four
sequence numbers 0, the LINK_UP notice at the head when it is enabled, and a wake key delivered (R34, R41,
R141, R184, R190): into empty lists, its press report with both flags clear and its code held by a record that is no
longer slotted; where its release has arrived, the release report with the flag of the raw change too, the code not
held and the record empty; the wake key slot is empty and every other record as it was.  In any other power state it
changes the input alone (R183). -/
def Obligations.PlatformResetReleaseRaisesLink : Prop :=
  ∀ s : State, s.dev.pins.platformReset = true → s.dev.pli.linkUp = false →
    (s.dev.ppu.power ≠ .on → Ends .platformResetRelease s
      { s.dev with pins := { s.dev.pins with platformReset := false } }) ∧
    (s.dev.ppu.power = .on → ∃ d, Ends .platformResetRelease s d ∧
      d = { s.dev with
        pins := { s.dev.pins with platformReset := false }, ktu := d.ktu, nsu := d.nsu
        pli := { s.dev.pli with
          linkUp := true, seqKey := 0, seqNotice := 0, seqBattery := 0, seqThermal := 0 } } ∧
      d.nsu.streams = s.dev.nsu.streams ∧ d.Raised 0 ∧
      d.nsu.queue = (if s.dev.tst.settings.noticeMask.getLsbD 0 then
        [Notice.linkUp s.dev.wku.lastSource s.dev.wku.lastCause s.dev.wku.powerFault] else []) ++
        s.dev.nsu.queue.filter (fun n => n.cls != 0) ∧
      s.dev.ktu.Delivers d.ktu s.dev.tst.settings.fnLock)

/-! ## Chapter 1: the scan -/

/-- A scan, started by an expiry of the running scan timer, which restarts with the period in force (R3), at one
in-range position (R5, R6, R15, R19): debounced with press_count or release_count in ACTIVE and at a side button,
taken as a baseline in BASELINE; only the MSE and the samples change.  The changes that a scan yields (R5 to R8, R15,
R18, R19), which RawEventsQueueAndWait places in the raw event queue: at a matrix position in ACTIVE those of the
table of R6, the re-check of R8, and the synthesized release of one out of range that is DOWN with both flags clear;
none outside ACTIVE; at a side button one for each flip; the synthesized ones first, each kind in ascending
order.  That a matrix position out of range that was UP, too, ends the scan with counter 0 and both flags clear is the
model's choice (log entry 18): R18 settles the DOWN ones. -/
def Obligations.ScanSettlesEachPosition : Prop :=
  (∀ (raw : BitVec 148) (s : State) (p : Nat) (r : PosRec),
    s.dev.mse.scanTimer.isSome → p < 148 → s.dev.mse.recs[p]? = some r →
    (p < 144 → p / 8 < s.dev.tst.scan.driveLines ∧ p % 8 < s.dev.tst.scan.senseLines) →
    (144 ≤ p → s.dev.profile.sideButtons = true) →
    (p < 144 → s.dev.mse.scanState ≠ .gated) →
    ∃ d r', Ends (.scan raw) s d ∧
      d = { s.dev with pins := { s.dev.pins with keys := raw }, mse := d.mse } ∧
      d.mse.scanTimer = (s.dev.scanCalled s.dev.ppu.power).map (fun us => ⟨us, us⟩) ∧
      d.mse.recs[p]? = some r' ∧
      (if p < 144 ∧ s.dev.mse.scanState = .baseline then
        r' = ⟨raw.getLsbD p, 0, false, raw.getLsbD p⟩ ∧ d.mse.scanState = .active
      else if raw.getLsbD p = r.down then r'.down = r.down ∧ r'.counter = 0
      else if (if r.down then s.dev.tst.scan.releaseCount else s.dev.tst.scan.pressCount) ≤
          r.counter + 1 then
        r'.down = !r.down ∧ r'.counter = 0 ∧ (r.down → r'.suspect = false ∧ r'.masked = false)
      else r'.down = r.down ∧ r'.counter = r.counter + 1)) ∧
  ∀ (t : ScanTab) (side : Bool) (st : ScanState) (raw : BitVec 148) (recs : List PosRec),
    t.sound → recs.length = 148 →
    let after := (scanRecs t side st raw recs).1
    let yields := (scanRecs t side st raw recs).2
    (∃ released changed, yields = released ++ changed ∧ Ascending true released ∧
      Ascending false changed) ∧
    ∀ (p : Nat) (r : PosRec), recs[p]? = some r →
      let here := p / 8 < t.driveLines ∧ p % 8 < t.senseLines
      let e := after.getD p PosRec.up
      let now := yields.filter (RawEntry.about p)
      (144 ≤ p → now = (if e.down = r.down then [] else [.change p e.down false]) ∧
        (r.suspect = false → r.masked = false → e.suspect = false ∧ e.masked = false) ∧
        (side = false → e = r)) ∧
      (p < 144 → st ≠ .active → now = [] ∧ (st = .gated → e = r)) ∧
      (p < 144 → st = .active → ¬ here → e = ⟨false, 0, false, false⟩ ∧
        now = (if r.down = true ∧ r.suspect = false ∧ r.masked = false then [.change p false true]
          else [])) ∧
      (p < 144 → st = .active → here →
        (r.down = false → e.down = false → now = []) ∧
        (r.down = false → e.down = true →
          e.masked = false ∧ now = if e.suspect then [] else [.change p true false]) ∧
        (r.down = true → e.down = false → e.suspect = false ∧ e.masked = false ∧
          now = if r.suspect || r.masked then [] else [.change p false false]) ∧
        (r.down = true → e.down = true → r.suspect = true →
          (e.suspect = true ↔ t.diodeMatrix = false ∧ Completes t after p) ∧
          now = if e.suspect then [] else [.change p true false]) ∧
        (r.down = true → e.down = true → r.suspect = false →
          e.suspect = false ∧ e.masked = r.masked ∧ now = []))

/-- Ghost judgement (R7): in ACTIVE, an in-range matrix position that goes from UP to DOWN is made suspect
exactly when the diode flag is off and, for some other drive line and some other sense line, the three
further corners are in range and DOWN after all flips of the scan.  One made suspect yields no change; one not
made suspect yields a press change, which an empty raw event queue takes unless the scan's changes fill it. -/
def Obligations.ScanJudgesGhosts : Prop :=
  ∀ (raw : BitVec 148) (s : State) (p : Nat),
    s.dev.mse.scanTimer.isSome → s.dev.mse.scanState = .active → s.dev.tst.scan.sound →
    s.dev.mse.recs.length = 148 → s.dev.mse.raw = [] → p < 144 →
    p / 8 < s.dev.tst.scan.driveLines → p % 8 < s.dev.tst.scan.senseLines →
    ∃ d, Ends (.scan raw) s d ∧
      (downAt s.dev.mse.recs p = false → downAt d.mse.recs p = true →
        let made := (d.mse.recs.getD p PosRec.up).suspect
        (made = true ↔ s.dev.tst.scan.diodeMatrix = false ∧ Completes s.dev.tst.scan d.mse.recs p) ∧
        (made = true → d.mse.raw.filter (RawEntry.about p) = []) ∧
        (made = false → d.mse.raw.filter (RawEntry.about p) = [.change p true false] ∨
          d.mse.raw.length = 16))

/-! ## Chapter 2: key translation -/

/-- A press taken with the link UP at a position whose entry in the active layer, or in layer 0 beneath a
TRANSPARENT one, is CODE c (R23, R26, R27, R29): one more holder of a code in the held-code list; a new code with
its press report, which carries a pending ROLLOVER; or, with 16 codes in the list, a rolled position.  FN makes
the layer 1, NONE does nothing, the actions do what R32 and R33 say, ACTION_LOCKED on a locked SETTINGS; a
position left out under CLOSED or TABLET is swallowed; a record that is not empty leaves the press without effect
(R31).  With the link DOWN (R39) the press is swallowed, unless its layer-0 entry has a wake mark and its source
is enabled: then it offers the wake, and enters an empty wake key slot when the source delivers and the entry is
CODE; every block takes the changes of power state of the rise, and with ON the link comes UP (R116, R183). -/
def Obligations.PressOfCodeIsReported : Prop :=
  (∀ (s : State) (p : Nat) (sy : Bool) (rest : List RawEntry),
    s.dev.TakesRaw true (.change p true sy) rest → s.dev.ktu.recs[p]? = some none →
    let u := s.dev.ktu
    let t := s.dev.tst
    let shut := p < 144 ∧ (s.dev.ppu.posture = .closed ∨ s.dev.ppu.posture = .tablet)
    let pressed (x : Used) : Dev := s.dev.rawTaken rest (u.noted p (some ⟨x, false, false⟩))
    let told (n : Notice) : Nsu := s.dev.nsu.raise t.settings.noticeMask n
    let switched (x : SettingsTab) : Tst := { t with settings := x, reserved := t.reserved.set 10 false }
    (shut → Ends .takeRawEvent s (s.dev.rawTaken rest (u.noted p (some ⟨.noKey, true, false⟩)))) ∧
    (∀ c, ¬ shut → s.dev.Reads u.layer p (.code c) → Ends .takeRawEvent s (s.dev.rawTaken rest
      (if c ∈ u.held.map Prod.fst then
        { u.noted p (some ⟨.code c, false, false⟩) with
          held := u.held.map fun h => if h.1 = c then (h.1, h.2 + 1) else h }
      else if u.held.length < 16 then
        { u.noted p (some ⟨.code c, false, false⟩) with
          held := u.held ++ [(c, 1)]
          queue := u.queue ++ [⟨c, false, false, u.rollover⟩]
          rollover := false }
      else { u.noted p (some ⟨.rolled, false, false⟩) with rollover := true }))) ∧
    (¬ shut → s.dev.Reads u.layer p .noKey ∨ s.dev.Reads u.layer p .transparent →
      Ends .takeRawEvent s (pressed .noKey)) ∧
    (¬ shut → s.dev.Reads u.layer p .fn →
      Ends .takeRawEvent s { pressed .fn with
        ktu := { u.noted p (some ⟨.fn, false, false⟩) with layer := 1 } }) ∧
    (∀ a, ¬ shut → s.dev.Reads u.layer p (.action a) →
      (1 ≤ a → a ≤ 3 → t.isLocked .settings = true →
        Ends .takeRawEvent s { pressed (.action a) with nsu := told (.actionLocked a) }) ∧
      (a = 1 → t.isLocked .settings = false → ∃ d, Ends .takeRawEvent s d ∧
        d = { pressed (.action 1) with
          tst := switched { t.settings with ceilingEnable := !t.settings.ceilingEnable }
          chg := d.chg, segs := d.segs, pli := d.pli, nsu := d.nsu } ∧
        d.Raised 15 ∧ d.chg.headroom = s.dev.headroom ∧
        (s.dev.NoFault → d.nsu = told (.settingsChanged 0 (!t.settings.ceilingEnable)))) ∧
      (a = 2 → t.isLocked .settings = false → Ends .takeRawEvent s { pressed (.action 2) with
        tst := switched { t.settings with boost := !t.settings.boost }
        nsu := told (.settingsChanged 1 (!t.settings.boost)) }) ∧
      (a = 3 → t.isLocked .settings = false → ∃ d, Ends .takeRawEvent s d ∧
        d = { pressed (.action 3) with
          tst := switched { t.settings with fnLock := !t.settings.fnLock }
          ktu := { (pressed (.action 3)).ktu with layer := d.ktu.layer }
          nsu := told (.settingsChanged 2 (!t.settings.fnLock)) } ∧
        d.ktu.layer = layerOf d.ktu.recs (!t.settings.fnLock)) ∧
      (a = 4 → Ends .takeRawEvent s { pressed (.action 4) with nsu := told (.button true) }) ∧
      (a = 5 → Ends .takeRawEvent s { pressed (.action 5) with
        nsu := { s.dev.nsu with streams := { s.dev.nsu.streams with one :=
          { s.dev.stream .battery with slot := some ⟨(s.dev.stream .battery).remaining,
            (s.dev.stream .battery).slot.isSome, false, false, batteryRecord s.dev⟩ } } } }))) ∧
  (∀ (s : State) (p : Nat) (up sy : Bool) (x : KeyRec) (rest : List RawEntry),
    s.dev.TakesRaw up (.change p true sy) rest → s.dev.ktu.recs[p]? = some (some x) →
    Ends .takeRawEvent s (s.dev.rawTaken rest s.dev.ktu)) ∧
  ∀ (s : State) (p : Nat) (sy : Bool) (rest : List RawEntry) (e : KeymapEntry),
    s.dev.TakesRaw false (.change p true sy) rest → s.dev.ktu.recs[p]? = some none →
    s.dev.tst.keymap[p]? = some e →
    let w : WakeSource := if p < 144 then .key else .sideButton
    let f := s.dev.wakeEntry w
    let awake := e.wakeMark = true ∧
      (((s.dev.ppu.power = .sleepEntry ∨ s.dev.ppu.power = .sleep) ∧ f.inSleep = true) ∨
        (s.dev.ppu.power = .off ∧ f.inOff = true))
    let swallowed := s.dev.ktu.noted p (some ⟨.noKey, true, false⟩)
    let slotted : Ktu := match e.kind with
      | .code c => if f.deliver = true ∧ s.dev.ktu.wakeKey = none then
          { s.dev.ktu.noted p (some ⟨.code c, false, true⟩) with wakeKey := some ⟨p, c, none⟩ }
        else swallowed
      | _ => swallowed
    (¬ awake → Ends .takeRawEvent s (s.dev.rawTaken rest swallowed)) ∧
    (awake → s.dev.ppu.power = .sleepEntry → Ends .takeRawEvent s { s.dev.rawTaken rest slotted with
      ppu := { s.dev.ppu with wakeLatch := true }
      wku := { s.dev.wku with
        lastSource := some w, seen := s.dev.wku.seen ||| (if p < 144 then 4 else 8) } }) ∧
    (awake → s.dev.ppu.power ≠ .sleepEntry → ∃ d, Ends .takeRawEvent s d ∧ s.dev.WokenBy d w ∧
      s.dev.Rises d slotted)

/-- A release taken with the link UP acts on the record and empties it (R24, R26, R30).  For CODE c with swallow
clear, a last holder takes its code from the list with a release report that carries the raw change's SYNTHESIZED
flag, any other holder leaves without a report; any other record queues nothing; an empty one leaves the release
without effect (R31).  With the link DOWN (R40) the release of a slotted record is marked as arrived in the wake
key slot, with the flag that its report is to carry (R34), and the record stays; any other record empties.  That a
release already marked keeps its flag is the model's choice (log entry 38). -/
def Obligations.ReleaseOfCodeIsReported : Prop :=
  (∀ (s : State) (p : Nat) (sy sl : Bool) (rest : List RawEntry) (c : Nat),
    s.dev.TakesRaw true (.change p false sy) rest →
    s.dev.ktu.recs[p]? = some (some ⟨.code c, false, sl⟩) →
    ∃ d, Ends .takeRawEvent s d ∧
      d = { s.dev with mse := { s.dev.mse with raw := rest }, ktu := d.ktu } ∧
      d.ktu.recs = s.dev.ktu.recs.set p none ∧
      d.ktu.layer = layerOf d.ktu.recs s.dev.tst.settings.fnLock ∧
      d.ktu.restate = .idle ∧ d.ktu.wakeKey = s.dev.ktu.wakeKey ∧
      (if (c, 1) ∈ s.dev.ktu.held then
        d.ktu.held = s.dev.ktu.held.filter (fun h => h.1 ≠ c) ∧
          d.ktu.queue = s.dev.ktu.queue ++ [⟨c, true, sy, s.dev.ktu.rollover⟩] ∧
          d.ktu.rollover = false
      else
        d.ktu.held = (s.dev.ktu.held.map fun h => if h.1 = c then (h.1, h.2 - 1) else h) ∧
          d.ktu.queue = s.dev.ktu.queue ∧ d.ktu.rollover = s.dev.ktu.rollover)) ∧
  (∀ (s : State) (p : Nat) (sy : Bool) (rest : List RawEntry) (x : KeyRec),
    s.dev.TakesRaw true (.change p false sy) rest → s.dev.ktu.recs[p]? = some (some x) →
    x.swallow = true ∨ (∀ c, x.used ≠ .code c) →
    ∃ d, Ends .takeRawEvent s d ∧
      d = s.dev.rawTaken rest { s.dev.ktu.noted p none with layer := d.ktu.layer } ∧
      d.ktu.layer = layerOf d.ktu.recs s.dev.tst.settings.fnLock) ∧
  (∀ (s : State) (p : Nat) (up sy : Bool) (rest : List RawEntry),
    s.dev.TakesRaw up (.change p false sy) rest → s.dev.ktu.recs[p]? = some none →
    Ends .takeRawEvent s (s.dev.rawTaken rest s.dev.ktu)) ∧
  ∀ (s : State) (p : Nat) (sy : Bool) (rest : List RawEntry) (x : KeyRec),
    s.dev.TakesRaw false (.change p false sy) rest → s.dev.ktu.recs[p]? = some (some x) →
    (x.slotted = true → Ends .takeRawEvent s (s.dev.rawTaken rest { s.dev.ktu with
      wakeKey := s.dev.ktu.wakeKey.map fun w => { w with release := some (w.release.getD sy) } })) ∧
    (x.slotted = false → x.used ≠ .fn ∨ x.swallow = true →
      Ends .takeRawEvent s (s.dev.rawTaken rest (s.dev.ktu.noted p none)))

/-- The raw event queue.  The changes of a scan join it in the order they are produced while it holds fewer than 16
entries; the rest are discarded and the overrun mark is set, and the position records are the same whichever happens
(R10, R11).  At a take (R10, R12, R28), with the link UP nothing moves while a restatement runs or 32 reports are
queued; an entry taken leaves the head, and with the overrun mark set a RESYNC takes the freed place, the mark clears
and KEY_OVERRUN is raised.  A RESYNC taken with the link UP begins a restatement (R28, R35, R36), as KEY_RESYNC does,
and only the raw event queue and the KTU change.  A RESYNC taken with the link DOWN (R40) restates nothing: every
record that is not slotted becomes NONE with swallow set where its position is DOWN with both flags clear, and empty
elsewhere, and a slotted position that is UP marks its release as arrived: with SYNTHESIZED clear, as it comes from no
raw change, which is the model's choice (log entry 38). -/
def Obligations.RawEventsQueueAndWait : Prop :=
  ∀ s : State,
    (∀ (raw : BitVec 148), s.dev.mse.scanTimer.isSome → s.dev.mse.raw.length ≤ 16 →
        ∃ d, Ends (.scan raw) s d ∧
          let r := scanRecs s.dev.tst.scan s.dev.profile.sideButtons s.dev.mse.scanState raw
            s.dev.mse.recs
          d.mse.recs = r.1 ∧ d.mse.raw = (s.dev.mse.raw ++ r.2).take 16 ∧
            d.mse.overrun = (s.dev.mse.overrun || decide (16 < (s.dev.mse.raw ++ r.2).length))) ∧
    (s.dev.pli.linkUp = true →
      (s.dev.ktu.restate ≠ .idle ∨ 32 ≤ s.dev.ktu.queue.length) →
      Ends .takeRawEvent s s.dev) ∧
    (∀ e rest, s.dev.mse.raw = e :: rest →
      (s.dev.pli.linkUp = false ∨
        (s.dev.ktu.restate = .idle ∧ s.dev.ktu.queue.length < 32)) →
      ∃ d, Ends .takeRawEvent s d ∧ d.mse.overrun = false ∧
        (if s.dev.mse.overrun then d.mse.raw = rest ++ [.resync] ∧ d.Raised 2
        else d.mse.raw = rest)) ∧
    (∀ rest, s.dev.TakesRaw true .resync rest → s.dev.ktu.held.length ≤ 16 →
      ∃ u more, Ends .takeRawEvent s (s.dev.rawTaken rest u) ∧ s.dev.Restates u more) ∧
    (∀ rest, s.dev.TakesRaw false .resync rest →
      ∃ d, Ends .takeRawEvent s d ∧
        d = s.dev.rawTaken rest { s.dev.ktu with recs := d.ktu.recs, wakeKey := d.ktu.wakeKey } ∧
        d.ktu.recs.length = s.dev.ktu.recs.length ∧
        (∀ (p : Nat) (x : Option KeyRec), s.dev.ktu.recs[p]? = some x →
          let r := s.dev.mse.recs.getD p PosRec.up
          let left : Option KeyRec :=
            if ∃ k, x = some k ∧ k.slotted = true then x
            else if r.down = true ∧ r.suspect = false ∧ r.masked = false then
              some ⟨.noKey, true, false⟩
            else none
          d.ktu.recs[p]? = some left) ∧
        (∀ w, s.dev.ktu.wakeKey = some w → d.ktu.wakeKey = some
          (if downAt s.dev.mse.recs w.pos then w
            else { w with release := some (w.release.getD false) })) ∧
        (s.dev.ktu.wakeKey = none → d.ktu.wakeKey = none))

/-- A restatement that waited (R36) goes on at RESTATEMENT_RESUME until it is done or the key report queue
is full: what it queues goes behind the queued reports, all with SYNTHESIZED set, and in step 1 the first
is the release of the held code it had come to; a press that waited for room is the first in step 3.  A step 3 that
is done has queued the press of each code that came into the held-code list, in list order, has made the record of
every position from the place it had come to that is DOWN with both flags clear, had no record and is not left out
under CLOSED or TABLET, as R26, R27 and R36 say, and has passed every other position over.  Only the KTU changes. -/
def Obligations.RestatementGoesOn : Prop :=
  ∀ s : State, s.dev.ktu.held.length ≤ 16 →
    ∃ d more, Ends .restatementResume s d ∧ d = { s.dev with ktu := d.ktu } ∧
      d.ktu.queue = s.dev.ktu.queue ++ more ∧ (∀ r ∈ more, r.synthesized = true) ∧
      (d.ktu.restate = .idle ∨ 32 ≤ d.ktu.queue.length) ∧
      (∀ n h, s.dev.ktu.restate = .releasing n → s.dev.ktu.held[n]? = some h →
        s.dev.ktu.queue.length < 32 →
        more.head? = some ⟨h.1, true, true, s.dev.ktu.rollover⟩) ∧
      (∀ p c, s.dev.ktu.restate = .pressWaiting p c → s.dev.ktu.queue.length < 32 →
        s.dev.ktu.held.length < 16 → c ∉ s.dev.ktu.held.map Prod.fst →
        p < s.dev.ktu.recs.length →
        more.head? = some ⟨c, false, true, s.dev.ktu.rollover⟩ ∧
          d.ktu.recs[p]? = some (some ⟨.code c, false, false⟩)) ∧
      (∀ n, s.dev.ktu.restate = .pressing n → d.ktu.restate = .idle →
        s.dev.ktu.recs.length = 148 →
        (s.dev.ktu.layer = 1 ∨ ∀ p, s.dev.HeldDown p → ¬ s.dev.Reads s.dev.ktu.layer p .fn) →
        d.ktu.layer = s.dev.ktu.layer ∧
        d.ktu.held.map Prod.fst = s.dev.ktu.held.map Prod.fst ++ more.map KeyReport.code ∧
        (∀ r ∈ more, r.release = false) ∧
        ∀ p,
          let due := n ≤ p ∧ s.dev.ktu.recs[p]? = some none ∧ s.dev.HeldDown p
          (¬ due → d.ktu.recs[p]? = s.dev.ktu.recs[p]?) ∧
          (due → ∀ k, s.dev.Reads s.dev.ktu.layer p k → d.ktu.Restated p k))

/-- KEY_RESYNC (R35).  With an empty payload it is answered BUSY, with nothing else changed, while a restatement
runs; else answered OK, and a restatement begins, which runs until it is done or the key report queue is full (R36).
With an empty key report queue it is done at once: the release of every held code in list order, then the press of
every code held anew; a pending ROLLOVER goes with the first.  The layer is 1 where a position held DOWN reads FN at
layer 2 with fn_lock on, 0 with it off, else that one; such positions are FN, every other one that is held DOWN is
recorded as it reads at the layer, no other has a record; the list holds each code once, by its first position, with its
count.  With another payload length it is answered BAD_REQUEST, with nothing else changed (R195). -/
def Obligations.KeyResyncRestates : Prop :=
  ∀ (s : State) (i : Nat) (tag : Byte), s.dev.TakesInto i →
    (s.dev.ktu.restate ≠ .idle →
      Ends (.keyResync tag []) s (s.dev.answered i 0 15 tag Status.busy.alone)) ∧
    (s.dev.ktu.restate = .idle → s.dev.ktu.held.length ≤ 16 →
      ∃ u more, Ends (.keyResync tag []) s { s.dev.answered i 0 15 tag Status.ok.alone with ktu := u } ∧
        s.dev.Restates u more) ∧
    (∀ p : List Byte, p ≠ [] → p.length ≤ 60 →
      Ends (.keyResync tag p) s (s.dev.answered i 0 15 tag Status.badRequest.alone))

/-! ## Chapter 3: battery packs -/

/-- A presence line accepted ACTIVE (R46, R48, R51): the record goes to IDENTIFYING with every optional field
absent, the poll timer starts with the interval in force, PACK_CHANGE is raised, and the identification
begins with a class-1 read of CHEMISTRY; with a PKM transaction still outstanding nothing is issued.  On a
segment in FAULT the read and its retry fail in the event and the aborted cycle counts one failure (R55). -/
def Obligations.PresenceStartsIdentification : Prop :=
  ∀ (k : Pack) (s : State), s.dev.packFitted k = true →
    (s.dev.mon k).presence.accepted ≠ some true →
    ∃ d, Ends (.presenceActive k) s d ∧
      d = { s.dev with
        pins := { s.dev.pins with presence := s.dev.pins.presence.set k.ix true }
        pkm := s.dev.pkm.set k.ix (d.mon k), segs := d.segs, pli := d.pli
        nsu := s.dev.nsu.raise s.dev.tst.settings.noticeMask (.packChange k .identifying) } ∧
      (d.mon k).record = ⟨.identifying, none, none, false, 0,
        if (s.dev.mon k).outstanding = false ∧ (s.dev.seg (segOf k)).state = .fault then 1 else 0⟩ ∧
      (d.mon k).presence = ⟨some true, none⟩ ∧
      (d.mon k).pollTimer = some (Timer.ofMs s.dev.pollInterval) ∧
      ((s.dev.mon k).outstanding = true →
        d.segs = s.dev.segs ∧ d.pli = s.dev.pli ∧ (d.mon k).cycle = (s.dev.mon k).cycle) ∧
      ((s.dev.mon k).outstanding = false → (s.dev.seg (segOf k)).Takes →
        (d.mon k).cycle = some ⟨.identify, 0, false⟩ ∧ (d.mon k).staged = [] ∧
        (d.mon k).outstanding = true ∧ s.dev.SegmentMoved d (segOf k) ∧
        d.Queued (segOf k) 1 .pkm false (s.dev.tst.power.packAddress.get k.ix)
          (s.dev.tst.itemmap.getD 8 0) [])

/-- A presence line accepted INACTIVE (R47, R69, R93): the record is ABSENT with everything gone, cycle and timers
stopped, a PKM transaction still outstanding marked orphaned; the stage is NONE with commanded values 0, which a write
pass carries to the charger from whatever stage, one start of a pass by the model's choice (R69, R81, log entry 45);
the pack source is absent; PACK_CHANGE is raised; the battery watch acts (R82, R83).  Outside SLEEP, where the watch
may go on to a wake or a forced OFF, only the PKM's pack, the CHG, the segments and what they hand on change. -/
def Obligations.RemovalEmptiesRecord : Prop :=
  ∀ (k : Pack) (s : State), (s.dev.mon k).presence.accepted = some true →
    ∃ d, Ends (.packRemoval k) s d ∧
      d.mon k = { s.dev.mon k with
        record := ⟨.absent, none, none, false, 0, 0⟩, presence := ⟨some false, none⟩
        cycle := none, staged := [], pollTimer := none, ageTick := none
        orphan := (s.dev.mon k).outstanding } ∧
      (d.chp k).stage = .none ∧ (d.chp k).current = 0 ∧ (d.chp k).voltage = 0 ∧ s.dev.ZeroWrites d k ∧
      d.tfu.pack.get k.ix = none ∧ d.Raised 6 ∧ s.dev.WatchActs d ∧
      ((s.dev.chp k).stage ≠ .none → d.Raised 7) ∧
      (s.dev.ppu.power ≠ .sleep → d = { s.dev with
        pins := { s.dev.pins with presence := s.dev.pins.presence.set k.ix false }
        pkm := s.dev.pkm.set k.ix (d.mon k), chg := d.chg
        tfu := { s.dev.tfu with pack := s.dev.tfu.pack.set k.ix none }
        segs := d.segs, pli := d.pli, nsu := d.nsu })

/-- The two timers of a pack.  A poll timer expiry (R53) restarts the timer with the interval in force, and
with no cycle and nothing outstanding begins a cycle: an identification while the identity is absent, else a
poll cycle, with the cycle copy taken anew.  On a HELD segment its read ends the cycle at once (R57); on a segment
in FAULT the read and its retry fail at once, the aborted cycle counts a failure, and the third in IDENTIFYING or
READY is a loss of contact (R55 to R57).  An age tick (R45) raises the age by 1 s up to 65535 s and sets stale when
the age exceeds three poll intervals. -/
def Obligations.PackTimersRun : Prop :=
  ∀ (k : Pack) (s : State),
    (∀ t, (s.dev.mon k).pollTimer = some t →
      ((s.dev.mon k).cycle.isSome ∨ (s.dev.mon k).outstanding = true →
        Ends (.pollTimerExpiry k) s { s.dev with pkm := s.dev.pkm.set k.ix { s.dev.mon k with
          pollTimer := some (Timer.ofMs s.dev.pollInterval) } }) ∧
      ((s.dev.mon k).cycle = none → (s.dev.mon k).outstanding = false →
        let begun : PackMonitor := { s.dev.mon k with
          pollTimer := some (Timer.ofMs s.dev.pollInterval), staged := []
          copyAddress := s.dev.tst.power.packAddress.get k.ix, copyCommands := s.dev.tst.itemmap }
        let r := (s.dev.mon k).record
        ((s.dev.seg (segOf k)).Takes →
          ∃ d, Ends (.pollTimerExpiry k) s d ∧
            d = { s.dev with
              pkm := s.dev.pkm.set k.ix { begun with
                cycle := some ⟨if r.identity = none then .identify else .poll, 0, false⟩
                outstanding := true }
              segs := d.segs, pli := d.pli } ∧
            s.dev.SegmentMoved d (segOf k) ∧
            d.Queued (segOf k) 1 .pkm false (s.dev.tst.power.packAddress.get k.ix)
              (s.dev.tst.itemmap.getD (if r.identity = none then 8 else 0) 0) []) ∧
        ((s.dev.seg (segOf k)).state = .held → Ends (.pollTimerExpiry k) s
          { s.dev with pkm := s.dev.pkm.set k.ix begun }) ∧
        ((s.dev.seg (segOf k)).state = .fault →
          (r.failures < 2 ∨ (r.state ≠ .identifying ∧ r.state ≠ .ready) →
            let failed : PackMonitor := { begun with
              record := { r with failures := min 3 (r.failures + 1) } }
            Ends (.pollTimerExpiry k) s { s.dev with pkm := s.dev.pkm.set k.ix failed }) ∧
          (2 ≤ r.failures → r.state = .identifying ∨ r.state = .ready →
            ∃ d, Ends (.pollTimerExpiry k) s d ∧ s.dev.LosesPack d k)))) ∧
    (∀ t, (s.dev.mon k).ageTick = some t →
      let age := min 65535 ((s.dev.mon k).record.age + 1)
      Ends (.ageTick k) s { s.dev with pkm := s.dev.pkm.set k.ix { s.dev.mon k with
        ageTick := some ⟨t.period, t.period⟩
        record := { (s.dev.mon k).record with
          age := age
          stale := (s.dev.mon k).record.stale || ((s.dev.mon k).record.telemetry.isSome &&
            decide (3 * s.dev.pollInterval < age * 1000)) } } })

/-- An item read that completes before the last item of its cycle (R47 to R49, R51, R54 to R56).  OK: its value,
saturated by its item, joins the staged sample, the committed record stays as it is, and the read of the next item
goes to the segment with the address and command byte of the cycle copy.  A first failure issues the same read
again; a failed retry aborts the cycle and counts one failure, and the third in IDENTIFYING or READY is a loss of
contact.  An orphan's completion is discarded, and an identification that waited for it begins.  That both lines
read high after an OK completion is the model's choice (log entry 26). -/
def Obligations.PackItemIsStaged : Prop :=
  ∀ (k : Pack) (s : State),
    (∀ (lo hi : Byte) (c : Cycle),
      s.dev.Flies (segOf k) .pkm false 2 → (s.dev.mon k).orphan = false →
      (s.dev.mon k).cycle = some c →
      c.item + 1 < (match c.kind with | .identify => 3 | .poll => 8) →
      ∃ d v, Ends (.packItemCompletion k (.ok [lo, hi])) s d ∧
        d = { s.dev with
          pins := { s.dev.pins with
            clockHigh := s.dev.pins.clockHigh.set (segOf k).ix true
            dataHigh := s.dev.pins.dataHigh.set (segOf k).ix true }
          pkm := s.dev.pkm.set k.ix { s.dev.mon k with
            cycle := some ⟨c.kind, c.item + 1, false⟩, outstanding := true
            staged := (s.dev.mon k).staged ++ [v] }
          segs := d.segs, pli := d.pli } ∧
        (let u : Nat := lo.toNat + 256 * hi.toNat
         let x : Int := if u < 32768 then u else (u : Int) - 65536
         (c.kind = .identify → v = some (u : Int)) ∧
         (c.kind = .poll →
          (c.item = 0 → v = some (min 20000 (u : Int))) ∧
          (c.item = 1 → v = some (max (-10000) (min 10000 x))) ∧
          (c.item = 2 → v = some (max (-400) (min 1500 x))) ∧
          (c.item = 3 → v = some (min 100 (u : Int))) ∧
          (c.item = 4 → v = some (u : Int)) ∧
          (c.item = 5 → v = if u = 65535 then none else some (min 10000 (u : Int))) ∧
          (c.item = 6 → v = if u = 65535 then none else some (min 20000 (u : Int))))) ∧
        s.dev.SegmentMoved d (segOf k) ∧
        d.Queued (segOf k) 1 .pkm false (s.dev.mon k).copyAddress
          ((s.dev.mon k).copyCommands.getD
            ((match c.kind with | .identify => 8 | .poll => 0) + (c.item + 1)) 0) []) ∧
    (∀ (e : BusEnd) (c : Cycle), e = .addrNack ∨ e = .dataNack ∨ e = .timeout →
      s.dev.Flies (segOf k) .pkm false 2 → (s.dev.mon k).orphan = false →
      (s.dev.mon k).cycle = some c →
      let r := (s.dev.mon k).record
      (c.retryUsed = false → ∃ d, Ends (.packItemCompletion k e) s d ∧
        d = { s.dev with
          pins := d.pins
          pkm := s.dev.pkm.set k.ix { s.dev.mon k with
            cycle := some ⟨c.kind, c.item, true⟩, outstanding := true }
          segs := d.segs, pli := d.pli } ∧
        s.dev.SegmentMoved d (segOf k) ∧
        d.Queued (segOf k) 1 .pkm false (s.dev.mon k).copyAddress
          ((s.dev.mon k).copyCommands.getD
            ((match c.kind with | .identify => 8 | .poll => 0) + c.item) 0) []) ∧
      (c.retryUsed = true → r.failures < 2 ∨ (r.state ≠ .identifying ∧ r.state ≠ .ready) →
        ∃ d, Ends (.packItemCompletion k e) s d ∧
          d = { s.dev with
            pins := d.pins
            pkm := s.dev.pkm.set k.ix { s.dev.mon k with
              cycle := none, staged := [], outstanding := false
              record := { r with failures := min 3 (r.failures + 1) } }
            segs := d.segs, pli := d.pli } ∧
          s.dev.SegmentMoved d (segOf k)) ∧
      (c.retryUsed = true → 2 ≤ r.failures → r.state = .identifying ∨ r.state = .ready →
        ∃ d, Ends (.packItemCompletion k e) s d ∧ s.dev.LosesPack d k)) ∧
    (∀ e : BusEnd, (∃ lo hi, e = .ok [lo, hi]) ∨ e = .addrNack ∨ e = .dataNack ∨ e = .timeout →
      s.dev.Flies (segOf k) .pkm false 2 → (s.dev.mon k).orphan = true →
      let met : PackMonitor := { s.dev.mon k with outstanding := false, orphan := false }
      ∃ d, Ends (.packItemCompletion k e) s d ∧
        d = { s.dev with
          pins := d.pins
          pkm := s.dev.pkm.set k.ix (if met.record.state = .identifying then
            { met with
              cycle := some ⟨.identify, 0, false⟩, outstanding := true, staged := []
              copyAddress := s.dev.tst.power.packAddress.get k.ix, copyCommands := s.dev.tst.itemmap }
            else met)
          segs := d.segs, pli := d.pli } ∧
        s.dev.SegmentMoved d (segOf k) ∧
        (met.record.state = .identifying → d.Queued (segOf k) 1 .pkm false
          (s.dev.tst.power.packAddress.get k.ix) (s.dev.tst.itemmap.getD 8 0) []))

/-- The STATUS read that ends a poll cycle (R54, R93): the staged sample is committed at once, age 0, stale
clear, failure count 0, state READY, the cycle NONE, the age tick restarted; the temperature, floored to whole
°C, becomes the TFU's pack source; a record that was not READY before raises PACK_CHANGE; the CHG takes the sample
complete (R66), whose stages, commanded values and writers stand at the end; the battery watch acts on the sample (R82,
R83).  The read that ends an identification (R51, R52): a supported identity enters the record
and a poll cycle begins at once with the cycle copy taken anew; any other makes the record UNSUPPORTED, unread from
then on, and raises PACK_CHANGE. -/
def Obligations.LastItemCommitsSample : Prop :=
  (∀ (k : Pack) (s : State) (lo hi : Byte) (r : Bool) (v i t c f : Int) (rc rv : Option Int),
    s.dev.Flies (segOf k) .pkm false 2 → (s.dev.mon k).orphan = false →
    (s.dev.mon k).cycle = some ⟨.poll, 7, r⟩ →
    (s.dev.mon k).staged = [some v, some i, some t, some c, some f, rc, rv] →
    ∃ d, Ends (.packItemCompletion k (.ok [lo, hi])) s d ∧
      (d.mon k).record = { (s.dev.mon k).record with
        state := .ready, stale := false, age := 0, failures := 0
        telemetry := some ⟨v.toNat, i, t, c.toNat, f.toNat, rc.map Int.toNat, rv.map Int.toNat,
          ⟨(lo.getLsbD 6), (lo.getLsbD 5), (lo.getLsbD 7), (lo.getLsbD 4), (lo.getLsbD 3)⟩⟩ } ∧
      (d.mon k).cycle = none ∧ (d.mon k).staged = [] ∧ (d.mon k).outstanding = false ∧
      (d.mon k).ageTick = some (Timer.ofMs 1000) ∧
      d.tfu.pack.get k.ix = some (t / 10) ∧ d.tst = s.dev.tst ∧ d.profile = s.dev.profile ∧
      s.dev.WatchActs d ∧ d.chg.headroom = s.dev.headroom ∧
      ((s.dev.ppu.power = .sleep → d.ppu.power = .sleep) → d.chg.packs =
        (sampleComplete k { s.dev with pkm := d.pkm, tfu := d.tfu }).chg.packs) ∧
      ((s.dev.mon k).record.state = .identifying ∨ (s.dev.mon k).record.state = .commLost →
        d.Raised 6)) ∧
  ∀ (k : Pack) (s : State) (lo hi : Byte) (r : Bool) (a b : Nat),
    s.dev.Flies (segOf k) .pkm false 2 → (s.dev.mon k).orphan = false →
    (s.dev.mon k).cycle = some ⟨.identify, 2, r⟩ →
    (s.dev.mon k).staged = [some (a : Int), some (b : Int)] →
    (a ≤ 3 → 1 ≤ b → b ≤ 4 → ∃ d, Ends (.packItemCompletion k (.ok [lo, hi])) s d ∧
      d = { s.dev with
        pins := d.pins
        pkm := s.dev.pkm.set k.ix { s.dev.mon k with
          record := { (s.dev.mon k).record with
            identity := some ⟨a, b, lo.toNat + 256 * hi.toNat⟩ }
          cycle := some ⟨.poll, 0, false⟩, staged := [], outstanding := true
          copyAddress := s.dev.tst.power.packAddress.get k.ix, copyCommands := s.dev.tst.itemmap }
        segs := d.segs, pli := d.pli } ∧
      s.dev.SegmentMoved d (segOf k) ∧
      d.Queued (segOf k) 1 .pkm false (s.dev.tst.power.packAddress.get k.ix)
        (s.dev.tst.itemmap.getD 0 0) []) ∧
    (3 < a ∨ b = 0 ∨ 4 < b → ∃ d, Ends (.packItemCompletion k (.ok [lo, hi])) s d ∧
      d = { s.dev with
        pins := d.pins
        pkm := s.dev.pkm.set k.ix { s.dev.mon k with
          record := ⟨.unsupported, none, none, false, 0, 0⟩
          cycle := none, staged := [], outstanding := false, pollTimer := none, ageTick := none }
        tfu := { s.dev.tfu with pack := s.dev.tfu.pack.set k.ix none }
        nsu := s.dev.nsu.raise s.dev.tst.settings.noticeMask (.packChange k .unsupported)
        segs := d.segs, pli := d.pli } ∧
      s.dev.SegmentMoved d (segOf k))

/-- The stage evaluation (R66, R67, R68): at a sample complete a stage that is not FAULT of a READY record follows the
ten lines in their order, with the termination count as the sample leaves it; a stage that changes is told by
CHARGE_STAGE (R65).  Where the stage stays, one allocation gives the commanded values.  Where it changes, two do, one
after the other: that is the model's choice (log entry 11, DEDUCED), which no rule settles, and unsafe if the hardware
allocates once there. -/
def Obligations.SampleSettlesStage : Prop :=
  ∀ (k : Pack) (d : Dev) (n : Identity) (t : Telemetry) (p : ProfileTab),
    (d.mon k).record.state = .ready → (d.mon k).record.identity = some n →
    (d.mon k).record.telemetry = some t → d.tst.profile[n.chemistry]? = some p → d.NoFault →
    let s := d.tst.settings
    let e := sampleComplete k d
    let c := d.chp k
    let count :=
      if c.stage = .fast ∨ c.stage = .topoff then
        if c.current = 0 then c.termCount
        else if t.current ≤ p.terminationCurrent then min 3 (c.termCount + 1) else 0
      else 0
    let temp := t.temperature / 10
    let band := (p.bands.take p.bandCount).find? fun b => decide (b.low ≤ temp ∧ temp ≤ b.high)
    let charging := (e.chp k).stage = .precharge ∨ (e.chp k).stage = .fast ∨ (e.chp k).stage = .topoff
    let entered := d.setChp k { c with
      stage := (e.chp k).stage
      current := if charging then c.current else 0
      voltage := if charging then c.voltage else 0 }
    (e.chp k).stage =
      (if c.stage = .fault then .fault
      else if t.status.overCharge then .fault
      else if t.status.overTemp ∨ t.status.terminate then .inhibit
      else match band with
        | none => .inhibit
        | some b =>
          if s.ceilingEnable ∧ (s.ceiling ≤ t.soc ∨
              (c.stage = .hold ∧ s.ceiling < t.soc + p.ceilingHysteresis)) then .hold
          else if c.stage = .full ∧ p.rechargeSoc < t.soc then .full
          else if (c.stage = .fast ∨ c.stage = .topoff) ∧ (t.status.full ∨ count = 3) then .full
          else if t.voltage < p.prechargeThreshold * n.cells then .precharge
          else if n.cells * (p.chargeVoltage - b.reduction) ≤ t.voltage + p.topoffWindow * n.cells
            then .topoff
          else .fast) ∧
      e.chg.headroom = d.headroom ∧
      ((e.chp k).stage = c.stage → (e.chp k).termCount = count ∧
        ∀ j, (e.chp j).current = ((allocate d).chp j).current ∧
          (e.chp j).voltage = ((allocate d).chp j).voltage) ∧
      ((e.chp k).stage ≠ c.stage → e.Raised 7 ∧
        ∀ j, (e.chp j).current = ((allocate (allocate entered)).chp j).current ∧
          (e.chp j).voltage = ((allocate (allocate entered)).chp j).voltage)

/-! ## Chapter 4: charge control -/

/-- A debounced change of adapter-present (R61, R111, R133): the adapter record with the class sampled, ADAPTER_CHANGE
with class and rated power, which are 0 on departure (R196), the offer of the wake, an allocation, and the battery
watch, which acts on what the records then give (R82, R83): a departure that leaves the system SoC at or below the
critical SoC is a crossing in ON, and in SLEEP with its wake enables clear a forced OFF at or below the shutdown SoC.
That the wake is offered before the watch acts is the model's choice (log entry 50): a departure that wakes the
platform is no crossing of SLEEP, and is one of ON where ON is reached.  Where the offer wakes nothing and the state is
not SLEEP, only the lines, the PPU's accepted level, the CHG, and what the allocation hands on change; in SLEEP_ENTRY
an offer that qualifies sets besides the wake latch and is recorded as last source and among the sources seen (R119,
R136), and one with the enable clear leaves the latch and the wake record as they stand (R132). -/
def Obligations.AdapterChangeIsTaken : Prop :=
  ∀ (present : Bool) (cls : BitVec 4) (s : State), s.dev.ppu.adapter.accepted ≠ some present →
    let rated := if present then s.dev.tst.adapter.getD cls.toNat 0 else 0
    ∃ d, Ends (.adapterPresentAccept present cls) s d ∧
      d.ppu.adapter = ⟨some present, none⟩ ∧
      d.chg.adapter = (if present then some cls.toNat else none) ∧ d.Raised 8 ∧
      (s.dev.tst.settings.noticeMask.getLsbD 8 = true →
        Notice.adapterChange present (if present then cls.toNat else 0) rated ∈ d.nsu.queue) ∧
      d.chg.headroom = rated * s.dev.tst.power.derate / 100 -
        (if s.dev.chg.inputFailures = 3 ∨ s.dev.chg.vIn = none ∨ s.dev.chg.iSys = none then
          rated * s.dev.tst.power.derate / 100
        else s.dev.chg.vIn.getD 0 * s.dev.chg.iSys.getD 0 / 1000) - s.dev.tst.power.guard ∧
      d.pins = { s.dev.pins with adapterPresent := present, adapterClass := cls } ∧
      d.tst = s.dev.tst ∧ d.profile = s.dev.profile ∧ d.WatchStands ∧
      (present = true → d.chg.systemSoc = none ∧ d.chg.lowMark = false) ∧
      (present = true → s.dev.ppu.power = .on → d.chg.graceTimer = none) ∧
      (¬ s.dev.WouldWake .adapterChange → s.dev.WatchActs d) ∧
      (s.dev.WouldWake .adapterChange → s.dev.WokenBy d .adapterChange ∧
        (s.dev.RiseLinks → s.dev.ktu.Delivers d.ktu s.dev.tst.settings.fnLock) ∧
        (s.dev.pins.powerGood = true →
          (d.chg.lowMark = true → d.Raised 9 ∧
            d.chg.graceTimer = some (Timer.ofMs s.dev.tst.power.batteryGrace)) ∧
          (d.chg.lowMark = false → d.chg.graceTimer = none))) ∧
      (s.dev.ppu.power ≠ .sleep → ¬ s.dev.WouldWake .adapterChange →
        let latched := s.dev.ppu.power = .sleepEntry ∧ (s.dev.wakeEntry .adapterChange).inSleep = true
        d = { s.dev with
          pins := d.pins
          ppu := { s.dev.ppu with
            adapter := ⟨some present, none⟩
            wakeLatch := if latched then true else s.dev.ppu.wakeLatch }
          wku := if latched then { s.dev.wku with
              lastSource := some .adapterChange, seen := s.dev.wku.seen ||| BitVec.twoPow 7 4 }
            else s.dev.wku
          chg := d.chg, segs := d.segs, pli := d.pli, nsu := d.nsu } ∧
        (s.dev.NoFault → ∀ k,
          let a := allocate { s.dev with chg := { s.dev.chg with adapter := d.chg.adapter } }
          (d.chp k).current = (a.chp k).current ∧ (d.chp k).voltage = (a.chp k).voltage))

/-- The input sample (R63, R64).  An expiry of the allocation timer restarts it with the interval in force and,
with the reader IDLE, issues the class-1 read of INPUT_VOLTAGE on SEG0, which on a HELD or faulted SEG0 fails at
once with an allocation; its OK completion issues the read of
SYSTEM_CURRENT; the OK completion of that takes both values, saturated, with the failure count 0 and the
headroom of R73; any other completion counts a failure, up to 3, and keeps the values.  That the voltage, like the
current, is read unsigned is the model's choice (log entry 39). -/
def Obligations.InputSampleIsTaken : Prop :=
  ∀ s : State,
    (s.dev.chg.allocTimer.isSome →
      (s.dev.chg.reader ≠ .idle → Ends .allocationTimerExpiry s { s.dev with
        chg := { s.dev.chg with allocTimer := some (Timer.ofMs s.dev.allocInterval) } }) ∧
      (s.dev.chg.reader = .idle → (s.dev.seg .seg0).Takes →
        ∃ d, Ends .allocationTimerExpiry s d ∧
          d = { s.dev with
            chg := { s.dev.chg with
              allocTimer := some (Timer.ofMs s.dev.allocInterval), reader := .readingVoltage }
            segs := d.segs, pli := d.pli } ∧
          s.dev.SegmentMoved d .seg0 ∧
          d.Queued .seg0 1 .input false s.dev.tst.power.chargerAddress.one
            s.dev.tst.power.cmdInputVoltage []) ∧
      (s.dev.chg.reader = .idle → ¬ (s.dev.seg .seg0).Takes →
        let failed : Dev := { s.dev with chg := { s.dev.chg with
          allocTimer := some (Timer.ofMs s.dev.allocInterval)
          inputFailures := min 3 (s.dev.chg.inputFailures + 1) } }
        ∃ d, Ends .allocationTimerExpiry s d ∧
          d = { s.dev with
            chg := { failed.chg with headroom := d.chg.headroom, packs := d.chg.packs }
            segs := d.segs, pli := d.pli, nsu := d.nsu } ∧
          (2 ≤ s.dev.chg.inputFailures → d.chg.headroom = 0) ∧
          d.seg .seg0 = s.dev.seg .seg0 ∧
          (s.dev.NoFault → d.nsu = s.dev.nsu ∧ ∀ k,
            (d.chp k).stage = (s.dev.chp k).stage ∧
            (d.chp k).current = ((allocate failed).chp k).current ∧
            (d.chp k).voltage = ((allocate failed).chp k).voltage))) ∧
    (∀ lo hi, s.dev.Flies .seg0 .input false 2 → s.dev.chg.reader = .readingVoltage →
      ∃ d, Ends (.inputReadCompletion (.ok [lo, hi])) s d ∧
        d.chg = { s.dev.chg with reader := .readingCurrent (lo.toNat + 256 * hi.toNat) } ∧
        d.Queued .seg0 1 .input false s.dev.tst.power.chargerAddress.one
          s.dev.tst.power.cmdSystemCurrent []) ∧
    (∀ lo hi v, s.dev.Flies .seg0 .input false 2 → s.dev.chg.reader = .readingCurrent v →
      ∃ d, Ends (.inputReadCompletion (.ok [lo, hi])) s d ∧
        d.chg.vIn = some (min 25000 v) ∧ d.chg.iSys = some (min 10000 (lo.toNat + 256 * hi.toNat)) ∧
        d.chg.inputFailures = 0 ∧ d.chg.reader = .idle ∧
        d.chg.headroom =
          (match s.dev.chg.adapter with
            | none => 0
            | some c => s.dev.tst.adapter.getD c 0) * s.dev.tst.power.derate / 100 -
          min 25000 v * min 10000 (lo.toNat + 256 * hi.toNat) / 1000 - s.dev.tst.power.guard ∧
        d = { s.dev with
          pins := d.pins, chg := d.chg, segs := d.segs, pli := d.pli, nsu := d.nsu }) ∧
    (∀ e, e = .addrNack ∨ e = .dataNack ∨ e = .timeout → s.dev.Flies .seg0 .input false 2 →
      s.dev.chg.reader ≠ .idle →
      ∃ d, Ends (.inputReadCompletion e) s d ∧
        d.chg.vIn = s.dev.chg.vIn ∧ d.chg.iSys = s.dev.chg.iSys ∧ d.chg.reader = .idle ∧
        d.chg.inputFailures = min 3 (s.dev.chg.inputFailures + 1) ∧
        (2 ≤ s.dev.chg.inputFailures → d.chg.headroom = 0) ∧
        d = { s.dev with
          pins := d.pins, chg := d.chg, segs := d.segs, pli := d.pli, nsu := d.nsu })

/-- Every allocation (R73 to R76).  The demand of a pack is 0 unless its stage is PRECHARGE, FAST or TOPOFF, its
temperature lies in a band and its segment is not HELD; else the stage current under the band factor, or the requested
current where that is lower, under the zone factor and, with a fitted fan in FAULT, the fan-fault factor.  Each need is
granted when both fit the headroom; else the priority pack, the eligible one with the lower SoC, or A, is granted
first.  The current that a grant pays for, at most the demand, rounded down to the step, 0 below the minimum charge
current, is taken at once when it is below the previous current; else at most the previous current, rounded down to
the step, plus the slew.  The voltage is 0 with a zero current, else the target voltage or the lower request (R68).  On
sound tables the input power that the two new currents need stays within the headroom; each current is 0 or a
multiple of the step not below the minimum charge current, at most the demand and the requested current, and 0 outside
the three stages, in skin zone 3 and on a HELD segment. -/
def Obligations.AllocationKeepsBudget : Prop :=
  ∀ d : Dev,
    let e := allocate d
    let p := d.tst.power
    let record (k : Pack) := (d.mon k).record
    let profile (k : Pack) : ProfileTab := match (record k).identity with
      | none => ProfileTab.default
      | some n => d.tst.profile.getD n.chemistry ProfileTab.default
    let cells (k : Pack) : Nat := match (record k).identity with | none => 0 | some n => n.cells
    let band (k : Pack) : Option Band := match (record k).telemetry with
      | none => none
      | some t => ((profile k).bands.take (profile k).bandCount).find? fun b =>
          decide (b.low ≤ t.temperature / 10 ∧ t.temperature / 10 ≤ b.high)
    let target (k : Pack) : Nat := match band k with
      | none => 0
      | some b => cells k * ((profile k).chargeVoltage - b.reduction)
    let soc (k : Pack) : Nat := match (record k).telemetry with | none => 0 | some t => t.soc
    let charging (k : Pack) : Bool := match (d.chp k).stage with
      | .precharge | .fast | .topoff => true
      | .none | .full | .hold | .inhibit | .fault => false
    let eligible (k : Pack) : Bool :=
      charging k && (band k).isSome && decide ((d.seg (segOf k)).state ≠ .held)
    let factor : Nat := match d.tfu.zone with
      | 0 => 100 | 1 => p.zone1Factor | 2 => p.zone2Factor | _ => 0
    let faulted : Bool := (d.fan .fan1).fault || (d.profile.twoFans && (d.fan .fan2).fault)
    let demand (k : Pack) : Nat := match eligible k, band k with
      | true, some b =>
        let stage := (if (d.chp k).stage = .precharge then (profile k).prechargeCurrent
          else (profile k).fastCurrent) * b.factor / 100
        let asked := match (record k).telemetry with
          | some t => (match t.reqCurrent with | some r => min stage r | none => stage)
          | none => stage
        let zoned := asked * factor / 100
        if faulted then zoned * p.fanFaultFactor / 100 else zoned
      | _, _ => 0
    let need (volt current : Nat) : Nat :=
      (current * volt * 100 + (1000 * p.efficiency - 1)) / (1000 * p.efficiency)
    let budget := (match d.chg.adapter with | none => 0 | some c => d.tst.adapter.getD c 0) * p.derate / 100
    let system := match d.chg.vIn, d.chg.iSys with
      | some v, some i => if d.chg.inputFailures = 3 then budget else v * i / 1000
      | _, _ => budget
    let room := budget - system - p.guard
    let a := need (target .a) (demand .a)
    let b := need (target .b) (demand .b)
    let grant (k : Pack) : Nat :=
      let bFirst := eligible .b && (!eligible .a || decide (soc .b < soc .a))
      match k with
      | .a => if a + b ≤ room then a else if bFirst then min a (room - min b room) else min a room
      | .b => if a + b ≤ room then b else if bFirst then min b room else min b (room - min a room)
    let current (k : Pack) : Nat :=
      let paid := min (grant k * 1000 * p.efficiency / (100 * target k)) (demand k) / p.step * p.step
      let goal := if paid < p.minCurrent then 0 else paid
      let before := (d.chp k).current
      if goal < before then goal else min goal (before / p.step * p.step + p.slew)
    e.chg.headroom = room ∧
      (∀ k, (e.chp k).current = current k ∧
        (e.chp k).voltage = (if current k = 0 then 0
          else match (record k).telemetry with
            | some t => (match t.reqVoltage with | some r => min r (target k) | none => target k)
            | none => target k) ∧
        (e.chp k).stage = (d.chp k).stage ∧ (e.chp k).elapsedUs = (d.chp k).elapsedUs) ∧
      (d.tst.Sound →
        need (target .a) (e.chp .a).current + need (target .b) (e.chp .b).current ≤ room ∧
        ∀ k, ((e.chp k).current = 0 ∨
            ((e.chp k).current % p.step = 0 ∧ p.minCurrent ≤ (e.chp k).current)) ∧
          (e.chp k).current ≤ demand k ∧
          (∀ t r, (record k).telemetry = some t → t.reqCurrent = some r → (e.chp k).current ≤ r) ∧
          ((d.chp k).stage ≠ .precharge → (d.chp k).stage ≠ .fast → (d.chp k).stage ≠ .topoff →
            (e.chp k).current = 0) ∧
          (d.tfu.zone = 3 → (e.chp k).current = 0) ∧
          ((d.seg (segOf k)).state = .held → (e.chp k).current = 0) ∧
          (e.chp k).current ≤ (d.chp k).current + p.slew)

/-- The fast-charge timer of a pack that is RUNNING reaches its limit (R65, R70): the stage becomes FAULT with
commanded values, termination count and timer 0, and CHARGE_STAGE is raised.  The zeroing is a change of the commanded
values and starts a write pass (R76, R78): with the writer IDLE on a segment that takes arrivals the zero current goes
to the charger.  That R65's zeroing counts as such a change is DEDUCED (log entry 15). -/
def Obligations.FastChargeExpiryFaultsPack : Prop :=
  ∀ (k : Pack) (s : State), (s.dev.chp k).stage = .fast ∨ (s.dev.chp k).stage = .topoff →
    (s.dev.chp k).current ≠ 0 →
    ∃ d, Ends (.fastChargeExpiry k) s d ∧
      d = { s.dev with chg := d.chg, segs := d.segs, pli := d.pli, nsu := d.nsu } ∧
      (d.chp k).stage = .fault ∧ (d.chp k).current = 0 ∧ (d.chp k).voltage = 0 ∧
      (d.chp k).termCount = 0 ∧ (d.chp k).elapsedUs = 0 ∧ d.Raised 7 ∧
      ((s.dev.chp k).writer = .idle → (s.dev.seg (segOf k)).Takes →
        d.Queued (segOf k) 0 .charger true (s.dev.tst.power.chargerAddress.get k.ix)
          s.dev.tst.power.cmdCurrent [0, 0])

/-- CHARGE_CLEAR (R71): a pack in FAULT goes to NONE and is told so by CHARGE_STAGE; a pack in another stage is
answered OK with nothing else changed; a value that is neither pack, or another payload length, is answered
BAD_REQUEST. -/
def Obligations.ChargeClearClearsFault : Prop :=
  ∀ (s : State) (i : Nat) (tag : Byte), s.dev.TakesInto i →
    (∀ k, (s.dev.chp k).stage ≠ .fault →
      Ends (.chargeClear tag [match k with | .a => (0 : Byte) | .b => 1]) s
        (s.dev.answered i 0 9 tag Status.ok.alone)) ∧
    (∀ k, (s.dev.chp k).stage = .fault → s.dev.ChargeInv →
      s.dev.SlotClear i →
      ∃ d, Ends (.chargeClear tag [match k with | .a => (0 : Byte) | .b => 1]) s d ∧
        (d.chp k).stage = .none ∧ (d.chp k).current = 0 ∧ (d.chp k).elapsedUs = 0 ∧ d.Raised 7 ∧
        d.Answers i 0 9 tag Status.ok.alone ∧
        d = { s.dev with chg := d.chg, segs := d.segs, pli := d.pli, nsu := d.nsu }) ∧
    (∀ p : List Byte, p.length ≤ 60 → (∀ b, p = [b] → 2 ≤ b.toNat) →
      Ends (.chargeClear tag p) s (s.dev.answered i 0 9 tag Status.badRequest.alone))

/-- A charger write completes (R78, R79).  CURRENT OK: the VOLTAGE write is issued with the commanded voltage.
VOLTAGE OK: the pass ends, and a set again mark starts a new pass with the CURRENT write.  A first failure issues the
same item again.  A failed retry of a READY pack not in FAULT makes its stage FAULT with commanded values 0, and the
zero current goes to the charger at once; that this is one start of a pass is the model's choice (log entry 45). -/
def Obligations.ChargerWriteGoesOn : Prop :=
  ∀ (k : Pack) (s : State), s.dev.Flies (segOf k) .charger true 2 →
    let p := s.dev.tst.power
    let after (d : Dev) (w : ChargePack) : Prop :=
      d = { s.dev with
        pins := d.pins, chg := { s.dev.chg with packs := s.dev.chg.packs.set k.ix w }
        segs := d.segs, pli := d.pli } ∧ s.dev.SegmentMoved d (segOf k)
    ((s.dev.chp k).writer = .writingCurrent →
      ∃ d, Ends (.chargerWriteCompletion k (.ok [])) s d ∧
        after d { s.dev.chp k with writer := .writingVoltage, retryUsed := false } ∧
        d.Queued (segOf k) 0 .charger true (p.chargerAddress.get k.ix) p.cmdVoltage
          (leBytes 2 (s.dev.chp k).voltage)) ∧
    ((s.dev.chp k).writer = .writingVoltage → (s.dev.chp k).again = false →
      ∃ d, Ends (.chargerWriteCompletion k (.ok [])) s d ∧
        after d { s.dev.chp k with writer := .idle, retryUsed := false }) ∧
    ((s.dev.chp k).writer = .writingVoltage → (s.dev.chp k).again = true →
      ∃ d, Ends (.chargerWriteCompletion k (.ok [])) s d ∧
        after d { s.dev.chp k with writer := .writingCurrent, retryUsed := false, again := false } ∧
        d.Queued (segOf k) 0 .charger true (p.chargerAddress.get k.ix) p.cmdCurrent
          (leBytes 2 (s.dev.chp k).current)) ∧
    (∀ e, e = .addrNack ∨ e = .dataNack ∨ e = .timeout → (s.dev.chp k).writer ≠ .idle →
      (s.dev.chp k).retryUsed = false →
      ∃ d, Ends (.chargerWriteCompletion k e) s d ∧
        after d { s.dev.chp k with retryUsed := true } ∧
        (if (s.dev.chp k).writer = .writingVoltage then
          d.Queued (segOf k) 0 .charger true (p.chargerAddress.get k.ix) p.cmdVoltage
            (leBytes 2 (s.dev.chp k).voltage)
        else d.Queued (segOf k) 0 .charger true (p.chargerAddress.get k.ix) p.cmdCurrent
            (leBytes 2 (s.dev.chp k).current))) ∧
    (∀ e, e = .addrNack ∨ e = .dataNack ∨ e = .timeout → (s.dev.chp k).retryUsed = true →
      (s.dev.mon k).record.state = .ready → (s.dev.chp k).stage ≠ .fault →
      ∃ d, Ends (.chargerWriteCompletion k e) s d ∧
        (d.chp k).stage = .fault ∧ (d.chp k).current = 0 ∧ (d.chp k).voltage = 0 ∧ d.Raised 7 ∧
        d.Queued (segOf k) 0 .charger true (p.chargerAddress.get k.ix) p.cmdCurrent [0, 0] ∧
        d = { s.dev with
          pins := d.pins, chg := d.chg, segs := d.segs, pli := d.pli, nsu := d.nsu })

/-- The refresh timer expires (R80): it restarts, and each pack whose record is not ABSENT starts a write pass,
or sets its again mark while one is under way; a pack whose record is ABSENT is left alone.  A pass on a HELD segment
ends at once (R79) with nothing written and the again mark as it stands.  On a segment in FAULT the write and its retry
fail at once (R79): a READY pack not in FAULT gets the stage FAULT with commanded values 0 and CHARGE_STAGE, any other
keeps its stage. -/
def Obligations.RefreshStartsPasses : Prop :=
  ∀ s : State, s.dev.chg.refreshTimer.isSome →
    ∃ d, Ends .chargerRefreshExpiry s d ∧
      d = { s.dev with
        chg := { s.dev.chg with
          refreshTimer := some (Timer.ofMs s.dev.tst.power.refresh), packs := d.chg.packs
          headroom := d.chg.headroom }
        segs := d.segs, pli := d.pli, nsu := d.nsu } ∧
      (s.dev.NoFault → d.nsu = s.dev.nsu ∧ d.chg.headroom = s.dev.chg.headroom ∧ ∀ k,
        ((s.dev.mon k).record.state = .absent →
          d.chp k = s.dev.chp k ∧ d.seg (segOf k) = s.dev.seg (segOf k)) ∧
        ((s.dev.mon k).record.state ≠ .absent → (s.dev.chp k).writer ≠ .idle →
          d.chp k = { s.dev.chp k with again := true } ∧ d.seg (segOf k) = s.dev.seg (segOf k)) ∧
        ((s.dev.mon k).record.state ≠ .absent → (s.dev.chp k).writer = .idle →
          (s.dev.seg (segOf k)).Takes →
          d.chp k = { s.dev.chp k with writer := .writingCurrent, retryUsed := false } ∧
          d.Queued (segOf k) 0 .charger true (s.dev.tst.power.chargerAddress.get k.ix)
            s.dev.tst.power.cmdCurrent (leBytes 2 (s.dev.chp k).current)) ∧
        ((s.dev.mon k).record.state ≠ .absent → (s.dev.chp k).writer = .idle →
          (s.dev.seg (segOf k)).state = .held →
          d.chp k = { s.dev.chp k with retryUsed := false } ∧
          d.seg (segOf k) = s.dev.seg (segOf k))) ∧
      ∀ k, (s.dev.mon k).record.state ≠ .absent → (s.dev.chp k).writer = .idle →
        (s.dev.seg (segOf k)).state = .fault →
        d.seg (segOf k) = s.dev.seg (segOf k) ∧ (d.chp k).writer = .idle ∧
        (d.chp k).again = false ∧
        (if (s.dev.mon k).record.state = .ready ∧ (s.dev.chp k).stage ≠ .fault then
          (d.chp k).stage = .fault ∧ (d.chp k).current = 0 ∧ (d.chp k).voltage = 0 ∧
            (d.chp k).termCount = 0 ∧ (d.chp k).elapsedUs = 0 ∧ d.Raised 7
        else (d.chp k).stage = (s.dev.chp k).stage)

/-! ## Chapter 5: thermal inputs and fans -/

/-- The host's die reports (R88 to R90, R96).  TEMP_REPORT with 2, 4, 6 or 8 bytes: the values reported are
REAL, saturated to −40 to 150 °C, the further die sources ABSENT, and the host report timer starts again; any
other length changes nothing.  The timer's expiry makes D0 to D3 FAIL_SAFE and raises THERMAL_INPUT_LOST.
The critical mark is evaluated at each: one that becomes SET is a crossing with THERMAL_CRITICAL and the grace timer,
one that becomes CLEAR stops that timer (R97). -/
def Obligations.HostReportsSetDieSources : Prop :=
  ∀ s : State, s.dev.ppu.power = .on →
    (∀ tag p, s.dev.pli.linkUp = true → s.dev.pli.rx = [] → p.length ≤ 60 →
      (p.length ≠ 2 → p.length ≠ 4 → p.length ≠ 6 → p.length ≠ 8 →
        Ends (.tempReport tag p) s s.dev) ∧
      (p.length = 2 ∨ p.length = 4 ∨ p.length = 6 ∨ p.length = 8 →
        ∃ d, Ends (.tempReport tag p) s d ∧
          d = { s.dev with
            tfu := { s.dev.tfu with
              die := d.tfu.die
              hostTimer := .running (Timer.ofMs s.dev.tst.thermal.hostTimeout)
              critical := d.tfu.critical, graceTimer := d.tfu.graceTimer }
            nsu := d.nsu } ∧
          d.tfu.die.length = 4 ∧
          (∀ j, 2 * j + 1 < p.length → d.tfu.die[j]? =
            some ⟨max (-40) (min 150 (s16At p (2 * j))), .real⟩) ∧
          (∀ j, j < 4 → p.length ≤ 2 * j + 1 → d.tfu.die[j]? = some ⟨0, .absent⟩) ∧
          s.dev.MarkActs d)) ∧
    (∀ t, s.dev.tfu.hostTimer = .running t →
      ∃ d, Ends .hostReportTimeout s d ∧
        d = { s.dev with
          tfu := { s.dev.tfu with
            die := List.replicate 4 ⟨s.dev.tst.thermal.failSafe, .failSafe⟩, hostTimer := .expired
            critical := d.tfu.critical, graceTimer := d.tfu.graceTimer }
          nsu := d.nsu } ∧
        d.Raised 13 ∧ s.dev.MarkActs d)

/-- The skin reader (R91 to R95).  Its timer restarts at each expiry; a reader that is READING issues nothing; an IDLE
one issues the class-2 read on SEG1, which on a HELD or faulted SEG1 fails at once.  A read that completes OK makes S
the value read, saturated, REAL, with the failure count 0.  A failure counts, and the third in a row makes S FAIL_SAFE
with THERMAL_INPUT_LOST; any other failure moves nothing else but the segment, which goes on.  The skin zone follows S
by the first of the three tests of R94; a zone that changes raises THERMAL_ZONE, and zone 3 leaves both packs without
current.  The critical mark is evaluated at each change of S: in ON a mark that becomes SET is a crossing, with
THERMAL_CRITICAL and the grace timer, and one that becomes CLEAR stops that timer; in SLEEP a mark that S sets is
THERMAL_CRITICAL and a forced OFF at once (R96 to R98). -/
def Obligations.SkinReadsMoveZone : Prop :=
  ∀ s : State,
    let moved := s.dev.tst.thermal.moved
    (∀ t, s.dev.tfu.skinTimer = some t →
      (s.dev.tfu.skinReading = true → Ends .skinReadTimerExpiry s
        { s.dev with tfu := { s.dev.tfu with skinTimer := some ⟨t.period, t.period⟩ } }) ∧
      (s.dev.tfu.skinReading = false → (s.dev.seg .seg1).Takes →
        ∃ d, Ends .skinReadTimerExpiry s d ∧
          d = { s.dev with
            tfu := { s.dev.tfu with skinTimer := some ⟨t.period, t.period⟩, skinReading := true }
            segs := d.segs, pli := d.pli } ∧
          s.dev.SegmentMoved d .seg1 ∧
          d.Queued .seg1 2 .skin false s.dev.tst.power.skinAddress s.dev.tst.thermal.skinCommand []) ∧
      (s.dev.tfu.skinReading = false → ¬ (s.dev.seg .seg1).Takes → s.dev.tfu.skinFailures < 2 →
        Ends .skinReadTimerExpiry s { s.dev with tfu := { s.dev.tfu with
          skinTimer := some ⟨t.period, t.period⟩, skinFailures := s.dev.tfu.skinFailures + 1 } }) ∧
      (s.dev.tfu.skinReading = false → ¬ (s.dev.seg .seg1).Takes → 2 < s.dev.tfu.skinFailures →
        Ends .skinReadTimerExpiry s { s.dev with tfu := { s.dev.tfu with
          skinTimer := some ⟨t.period, t.period⟩, skinFailures := 3 } }) ∧
      (s.dev.tfu.skinReading = false → ¬ (s.dev.seg .seg1).Takes → s.dev.tfu.skinFailures = 2 →
        let z := s.dev.tfu.zone
        let v := s.dev.tst.thermal.failSafe
        ∃ d, Ends .skinReadTimerExpiry s d ∧ d.tst = s.dev.tst ∧
          d.tfu.skin = ⟨v, .failSafe⟩ ∧ d.tfu.skinFailures = 3 ∧ d.Raised 13 ∧
          d.tfu.skinTimer = some ⟨t.period, t.period⟩ ∧ d.tfu.skinReading = false ∧
          d.tfu.zone = moved z v ∧
          (d.tfu.zone ≠ z → d.Raised 11 ∧
            (d.tfu.zone = 3 → (d.chp .a).current = 0 ∧ (d.chp .b).current = 0)) ∧
          s.dev.MarkActs d ∧
          (s.dev.ppu.power ≠ .sleep → d = { s.dev with
            chg := d.chg, segs := d.segs, pli := d.pli, nsu := d.nsu
            tfu := { s.dev.tfu with
              skin := d.tfu.skin, skinTimer := d.tfu.skinTimer, skinFailures := 3
              zone := d.tfu.zone, critical := d.tfu.critical, graceTimer := d.tfu.graceTimer } }))) ∧
    (∀ (e : BusEnd) (n : Nat), s.dev.Flies .seg1 .skin false 2 →
      (∃ lo hi, e = .ok [lo, hi]) ∨ e = .addrNack ∨ e = .dataNack ∨ e = .timeout →
      n = s.dev.tfu.skinFailures →
      ∃ d, Ends (.skinReadCompletion e) s d ∧ d.tfu.skinReading = false ∧ d.tst = s.dev.tst ∧
        (∀ lo hi, e = .ok [lo, hi] →
          d.tfu.skin = ⟨max (-40) (min 150 (s16At [lo, hi] 0)), .real⟩ ∧ d.tfu.skinFailures = 0) ∧
        (e = .addrNack ∨ e = .dataNack ∨ e = .timeout →
          d.tfu.skinFailures = min 3 (n + 1) ∧
          (n = 2 → d.tfu.skin = ⟨s.dev.tst.thermal.failSafe, .failSafe⟩ ∧ d.Raised 13) ∧
          (n ≠ 2 → d = { s.dev with
            pins := d.pins, segs := d.segs, pli := d.pli
            tfu := { s.dev.tfu with skinReading := false, skinFailures := min 3 (n + 1) } })) ∧
        ((∃ lo hi, e = .ok [lo, hi]) ∨ n = 2 →
          s.dev.MarkActs d ∧
          let z := s.dev.tfu.zone
          d.tfu.zone = moved z d.tfu.skin.value ∧
          (d.tfu.zone ≠ z → d.Raised 11 ∧
            (d.tfu.zone = 3 → (d.chp .a).current = 0 ∧ (d.chp .b).current = 0))) ∧
        (s.dev.ppu.power ≠ .sleep → d = { s.dev with
          pins := d.pins, chg := d.chg, segs := d.segs, pli := d.pli, nsu := d.nsu
          tfu := { s.dev.tfu with
            skin := d.tfu.skin, skinReading := false, skinFailures := d.tfu.skinFailures
            zone := d.tfu.zone, critical := d.tfu.critical, graceTimer := d.tfu.graceTimer } }))

/-- A fan update (R99 to R103) ends with the timer restarted, the stall fields of FANCURVE in force, E moved by the
first of the three tests of R100, the low-duty mark set by a duty below the stall-check duty, and the commanded duty at
the value that R101 and R102 give: 0 in OFF; else the curve duty of the new E, with the charge
heat added, raised to the boost floor, lowered to the closed cap, clamped, 100 % under a fan fault, raised to the
minimum start duty, and held back by the decrease step.  On sound tables it is at most 100 %, never between 0 and
the minimum start duty.  The demand (R100) is the greatest of value less offset over the selected sources that are
present, saturated, and −40 with none.  The curve (R101): `p` is active when every point before it is colder; below
the first active point the duty is that point's; between `p` and the next active point `q`, the points `low`
between them passed over, it is `p`'s duty and the truncated share of the difference; from the last active point on
that point's duty. -/
def Obligations.FanUpdateSetsDuty : Prop :=
  (∀ (f : Fan) (s : State) (t : Timer), (s.dev.fan f).updateTimer = some t →
    let c := s.dev.curve f
    let x := s.dev.fan f
    let dem := fanDemand c s.dev.tfu
    let eval := if x.eval < dem then dem
      else if dem < x.eval - c.hysteresis then dem + c.hysteresis else x.eval
    let heat := c.heatThreshold ≤ (s.dev.chp .a).current ∨ c.heatThreshold ≤ (s.dev.chp .b).current
    let fault := x.fault = true ∨
      (s.dev.fanFitted (otherFan f) = true ∧ (s.dev.fan (otherFan f)).fault = true)
    let heated := if heat then curveDuty c.points eval + c.heatAddition else curveDuty c.points eval
    let boosted := if s.dev.tst.settings.boost then max heated c.boostFloor else heated
    let capped := if s.dev.ppu.posture = .closed ∧ s.dev.ppu.power = .on then min boosted c.closedCap
      else boosted
    let driven : Nat := if fault then 100 else (max 0 (min 100 capped)).toNat
    let started := if 0 < driven ∧ driven < c.minStart then c.minStart else driven
    let held := max started (x.duty - c.decreaseStep)
    let stepped := if started < x.duty then
        (if started = 0 ∧ held < c.minStart then 0 else held) else started
    let new := if s.dev.ppu.power = .off then 0 else stepped
    Ends (.fanUpdate f) s { s.dev with tfu := { s.dev.tfu with fans := s.dev.tfu.fans.set f.ix { x with
      updateTimer := some ⟨t.period, t.period⟩, eval := eval, duty := new
      lowDuty := x.lowDuty || decide (new < c.stallCheckDuty)
      stallCheckDuty := c.stallCheckDuty, stallSpeed := c.stallSpeed } } } ∧
    (x.duty ≤ 100 → s.dev.tst.Sound → new ≤ 100 ∧ (new = 0 ∨ c.minStart ≤ new) ∧
      (s.dev.ppu.power ≠ .off → (fault → new = 100) ∧
        (x.duty ≤ new + c.decreaseStep ∨ (new = 0 ∧ x.duty < c.minStart + c.decreaseStep)) ∧
        (s.dev.tst.settings.boost = true →
          ¬ (s.dev.ppu.posture = .closed ∧ s.dev.ppu.power = .on) → c.boostFloor ≤ new) ∧
        (¬ fault → s.dev.ppu.posture = .closed → s.dev.ppu.power = .on →
          new ≤ max (max c.closedCap c.minStart) (x.duty - c.decreaseStep))))) ∧
  (∀ (c : FanTab) (t : Tfu), t.die.length = 4 →
    let value (j : Nat) : Option Int :=
      match j with
      | 5 => t.pack.one
      | 6 => t.pack.two
      | _ => match (t.die ++ [t.skin])[j]? with
        | some ⟨v, .real⟩ | some ⟨v, .failSafe⟩ => some v
        | _ => none
    let asks (j : Nat) (y : Int) : Prop := j < 7 ∧ c.sources.testBit j = true ∧
      ∃ v, value j = some v ∧ y = max (-40) (min 150 (v - c.offsets.getD j 0))
    (∀ j y, asks j y → y ≤ fanDemand c t) ∧
    ((∃ j, asks j (fanDemand c t)) ∨ ((∀ j y, ¬ asks j y) ∧ fanDemand c t = -40))) ∧
  (∀ (e : Int) (pre low high : List Point) (p q : Point),
    (∀ x ∈ pre, x.temp < p.temp) → (∀ x ∈ low, x.temp ≤ p.temp) →
    (e < p.temp → curveDuty (p :: low) e = p.duty) ∧
    (p.temp ≤ e → curveDuty (pre ++ p :: low) e = p.duty) ∧
    (p.temp < q.temp →
      (e < p.temp → curveDuty (p :: low ++ q :: high) e = p.duty) ∧
      (p.temp ≤ e → e < q.temp → curveDuty (pre ++ p :: low ++ q :: high) e =
        p.duty + (((q.duty : Int) - p.duty) * (e - p.temp)).tdiv (q.temp - p.temp))))

/-- The tach (R103 to R105), with the stall speed and the stall-check duty as the last fan update read them (R102).  A
pulse of a fitted fan is counted.  The end of a window gives the last rpm as
the pulses times 30, at most 30000, and starts the next with no pulses and the low-duty mark as the duty
then stands.  A fan in OK counts a window below the
stall speed with the low-duty mark clear, any other window clears the count, and the third in a row is FAULT:
counts 0, both fitted fans at 100 %, FAN_FAULT.  A fan in FAULT returns to OK after three windows at or above
the stall speed. -/
def Obligations.TachWindowsJudgeFans : Prop :=
  ∀ (f : Fan) (s : State),
    (s.dev.fanFitted f = true → Ends (.tachPulse f) s { s.dev with tfu := { s.dev.tfu with
      fans := s.dev.tfu.fans.set f.ix
        { s.dev.fan f with pulses := (s.dev.fan f).pulses + 1 } } }) ∧
    (∀ t, (s.dev.fan f).windowTimer = some t → s.dev.fanFitted f = true →
      let x := s.dev.fan f
      let rpm := min 30000 (x.pulses * 30)
      let stalled := x.lowDuty = false ∧ rpm < x.stallSpeed
      ∃ d, Ends (.tachWindowEnd f) s d ∧
        (d.fan f).lastRpm = rpm ∧ (d.fan f).pulses = 0 ∧
        (d.fan f).windowTimer = some ⟨t.period, t.period⟩ ∧
        (d.fan f).lowDuty = decide ((d.fan f).duty < x.stallCheckDuty) ∧
        (x.fault = false →
          (¬ stalled → d.fan f = { x with
            lastRpm := rpm, pulses := 0, windowTimer := some ⟨t.period, t.period⟩, stallCount := 0
            lowDuty := (d.fan f).lowDuty }) ∧
          (stalled → x.stallCount < 2 → d.fan f = { x with
            lastRpm := rpm, pulses := 0, windowTimer := some ⟨t.period, t.period⟩
            stallCount := x.stallCount + 1, lowDuty := (d.fan f).lowDuty }) ∧
          (stalled → 2 ≤ x.stallCount →
            (d.fan f).fault = true ∧ (d.fan f).stallCount = 0 ∧ (d.fan f).recoveryCount = 0 ∧
            d.Raised 10 ∧ ∀ j, s.dev.fanFitted j = true → (d.fan j).duty = 100)) ∧
        (x.fault = true →
          (rpm < x.stallSpeed →
            (d.fan f).fault = true ∧ (d.fan f).recoveryCount = 0) ∧
          (x.stallSpeed ≤ rpm → x.recoveryCount < 2 →
            (d.fan f).fault = true ∧ (d.fan f).recoveryCount = x.recoveryCount + 1) ∧
          (x.stallSpeed ≤ rpm → 2 ≤ x.recoveryCount →
            (d.fan f).fault = false ∧ (d.fan f).recoveryCount = 0 ∧ d.Raised 10)) ∧
        d = { s.dev with
          tfu := { s.dev.tfu with fans := d.tfu.fans }, chg := d.chg, segs := d.segs
          pli := d.pli, nsu := d.nsu } ∧
        ((d.fan f).fault = x.fault → d = { s.dev with
          tfu := { s.dev.tfu with fans := s.dev.tfu.fans.set f.ix (d.fan f) } }))

/-! ## Chapter 6: posture, buttons, power -/

/-- A level of the lid or the fold is accepted (R110, R112 to R114): the posture is CLOSED with the lid closed, TABLET
with it open and the fold folded, OPEN with it open and unfolded, UNKNOWN while either has no accepted level.  A
posture that changes raises POSTURE; OPEN ends the gating with a baseline (R13).  CLOSED and TABLET gate a matrix that
is not gated (R14): each matrix position that is DOWN with both flags clear yields a synthesized release, in ascending
order, which join the raw event queue up to its 16 entries, the rest setting the overrun mark (R11); every matrix
position is UP with counter 0 and both flags clear, and the side buttons stay as they are; any other change leaves
records, raw queue and overrun mark as they are.  CLOSED and TABLET empty a wake key slot that holds a matrix
position, whose record becomes NONE with swallow set (R40).  A change from CLOSED to OPEN or TABLET offers LID_OPEN
(R134): in SLEEP and OFF WAKE lets it rise the platform, in SLEEP_ENTRY with its enable set it is recorded and
latched, anywhere else it is dropped (R119, R132).  Without a rise nothing but these, the input line and its
debouncing changes. -/
def Obligations.LidAndFoldGivePosture : Prop :=
  ∀ (x : LidFold) (s : State),
    (match x with
      | .lid b => s.dev.ppu.lid.accepted ≠ some b
      | .fold b => s.dev.ppu.fold.accepted ≠ some b) →
    ∃ d, Ends (.lidFoldAccept x) s d ∧
      (let lid := match x with | .lid b => some b | .fold _ => s.dev.ppu.lid.accepted
       let fold := match x with | .fold b => some b | .lid _ => s.dev.ppu.fold.accepted
       let old := s.dev.ppu.posture
       let new := d.ppu.posture
       let opens := old = .closed ∧ (new = .opened ∨ new = .tablet)
       let latches := opens ∧ s.dev.ppu.power = .sleepEntry ∧ (s.dev.wakeEntry .lidOpen).inSleep = true
       let keys : Ktu := match s.dev.ktu.wakeKey with
        | some w => if (new = .closed ∨ new = .tablet) ∧ w.pos < 144 then
            { s.dev.ktu.noted w.pos (some ⟨.noKey, true, false⟩) with wakeKey := none }
          else s.dev.ktu
        | none => s.dev.ktu
       d.ppu.lid.accepted = lid ∧ d.ppu.fold.accepted = fold ∧
       new = (match lid, fold with
        | some true, some _ => .closed
        | some false, some true => .tablet
        | some false, some false => .opened
        | _, _ => .unknown) ∧
       let gates := (new = .closed ∨ new = .tablet) ∧ s.dev.mse.scanState ≠ .gated
       (new ≠ old → d.Raised 5 ∧
        d.mse.scanState = (if new = .closed ∨ new = .tablet then .gated
          else if new = .opened ∧ s.dev.mse.scanState = .gated then .baseline else s.dev.mse.scanState) ∧
        (gates → s.dev.mse.raw.length ≤ 16 →
          (∀ (p : Nat) (r : PosRec), s.dev.mse.recs[p]? = some r →
            d.mse.recs[p]? = some (if p < 144 then ⟨false, 0, false, false⟩ else r)) ∧
          ∃ released, Ascending true released ∧
            (∀ p, .change p true true ∉ released ∧ (.change p false true ∈ released ↔ p < 144 ∧
              ∃ r, s.dev.mse.recs[p]? = some r ∧ r.down = true ∧ r.suspect = false ∧ r.masked = false)) ∧
            d.mse.raw = (s.dev.mse.raw ++ released).take 16 ∧
            d.mse.overrun = (s.dev.mse.overrun || decide (16 < (s.dev.mse.raw ++ released).length))) ∧
        (¬ gates → d.mse.recs = s.dev.mse.recs ∧ d.mse.raw = s.dev.mse.raw ∧
          d.mse.overrun = s.dev.mse.overrun)) ∧
       (new = old → d = { s.dev with
          pins := d.pins, ppu := { s.dev.ppu with lid := d.ppu.lid, fold := d.ppu.fold } }) ∧
       (opens → s.dev.WouldWake .lidOpen → s.dev.WokenBy d .lidOpen ∧ s.dev.Rises d keys) ∧
       (new ≠ old → ¬ (opens ∧ s.dev.WouldWake .lidOpen) → d = { s.dev with
          pins := d.pins
          ppu := { s.dev.ppu with
            lid := d.ppu.lid, fold := d.ppu.fold, posture := new
            wakeLatch := d.ppu.wakeLatch }
          mse := { s.dev.mse with
            recs := d.mse.recs, raw := d.mse.raw, overrun := d.mse.overrun
            scanState := d.mse.scanState }
          ktu := keys, wku := d.wku
          nsu := s.dev.nsu.raise s.dev.tst.settings.noticeMask (.posture old new) } ∧
          (latches → d.ppu.wakeLatch = true ∧ d.wku = { s.dev.wku with
            lastSource := some .lidOpen, seen := s.dev.wku.seen ||| 2 }) ∧
          (¬ latches → d.ppu.wakeLatch = s.dev.ppu.wakeLatch ∧ d.wku = s.dev.wku)))

/-- The power button (R114, R115).  PRESSED starts the override timer with the override hold; in ON it raises
BUTTON, in SLEEP and OFF it offers POWER_BUTTON, which WAKE lets rise the platform or drops (every block takes the
changes of power state of the rise, R116, and with ON the link comes UP, R183), in POWERING_UP and POWERING_DOWN it does
nothing more.  RELEASED stops the override timer. -/
def Obligations.PowerButtonIsTaken : Prop :=
  ∀ s : State,
    (s.dev.ppu.button.accepted ≠ some true →
      let pressed : Dev := { s.dev with
        pins := { s.dev.pins with buttonPressed := true }
        ppu := { s.dev.ppu with
          button := ⟨some true, none⟩
          overrideTimer := some (Timer.ofMs s.dev.tst.power.overrideHold) } }
      (s.dev.ppu.power = .on → Ends .shortPress s { pressed with
        nsu := s.dev.nsu.raise s.dev.tst.settings.noticeMask (.button false) }) ∧
      (s.dev.ppu.power = .poweringUp ∨ s.dev.ppu.power = .poweringDown → Ends .shortPress s pressed) ∧
      (s.dev.WouldWake .powerButton → ∃ d, Ends .shortPress s d ∧ s.dev.WokenBy d .powerButton ∧
        s.dev.Rises d s.dev.ktu ∧
        d.ppu.button = pressed.ppu.button ∧ d.ppu.overrideTimer = pressed.ppu.overrideTimer) ∧
      (s.dev.ppu.power = .sleep ∨ s.dev.ppu.power = .off → ¬ s.dev.WouldWake .powerButton →
        Ends .shortPress s pressed) ∧
      (s.dev.ppu.power = .sleepEntry → (s.dev.wakeEntry .powerButton).inSleep = false →
        Ends .shortPress s pressed) ∧
      (s.dev.ppu.power = .sleepEntry → (s.dev.wakeEntry .powerButton).inSleep = true →
        Ends .shortPress s { pressed with
          ppu := { pressed.ppu with wakeLatch := true }
          wku := { s.dev.wku with
            lastSource := some .powerButton, seen := s.dev.wku.seen ||| 1 } })) ∧
    (s.dev.ppu.button.accepted = some true → Ends .buttonRelease s { s.dev with
      pins := { s.dev.pins with buttonPressed := false }
      ppu := { s.dev.ppu with button := ⟨some false, none⟩, overrideTimer := none } })

/-- The three forced OFFs (R82, R97, R115, R124, R125): the override timer, the battery grace and the critical grace,
each with its cause.  In ON, POWERING_UP, SLEEP_ENTRY and SLEEP the request pending and the wake latch clear, the cause
is recorded and handed to the WKU, the link goes DOWN and the state is POWERING_DOWN under the power-down timeout,
with the scan timer as it calls for (R3), or OFF when power-good is deasserted already; every block takes each change
of power state passed (R116), and a link that was UP goes DOWN as R183 lays down.  In POWERING_DOWN and OFF a restart
pending is cancelled and the cause handed on, in POWERING_DOWN the recorded cause becomes it; without one only the timer
stops. -/
def Obligations.ForcedOffPowersDown : Prop :=
  ∀ (s : State) (c : Instr) (cause : Cause),
    (c = .overrideExpiry ∧ cause = .buttonOverride ∧ s.dev.ppu.overrideTimer.isSome) ∨
      (c = .batteryGraceExpiry ∧ cause = .battery ∧ s.dev.chg.graceTimer.isSome) ∨
      (c = .criticalGraceExpiry ∧ cause = .thermal ∧ s.dev.tfu.graceTimer.isSome) →
    ∃ d, Ends c s d ∧
      (c = .overrideExpiry → d.ppu.overrideTimer = none) ∧
      (c = .batteryGraceExpiry → d.chg.graceTimer = none) ∧
      (c = .criticalGraceExpiry → d.tfu.graceTimer = none) ∧
      d.tst = s.dev.tst ∧ d.profile = s.dev.profile ∧ d.pins = s.dev.pins ∧
      (s.dev.ppu.power ≠ .off → s.dev.ppu.power ≠ .poweringDown →
        d.ppu.power = (if s.dev.pins.powerGood then .poweringDown else .off) ∧
        d.ppu.transition = (if s.dev.pins.powerGood then
          some (Timer.ofMs s.dev.tst.power.powerDownTimeout) else none) ∧
        d.ppu.request = none ∧ d.ppu.wakeLatch = false ∧ d.ppu.cause = cause ∧
        d.wku = { s.dev.wku with lastCause := cause } ∧ d.pli.linkUp = false ∧
        d.mainRail = false ∧ d.sleepRail = false ∧
        (s.dev.pins.powerGood = true →
          s.dev.mse.Retimed d.mse (s.dev.scanCalled .poweringDown)) ∧
        s.dev.Passes d s.dev.fall ∧ (s.dev.pli.linkUp = true → s.dev.LinkFell d)) ∧
      (s.dev.ppu.power = .off ∨ s.dev.ppu.power = .poweringDown →
        d.ppu.power = s.dev.ppu.power ∧ d.ppu.restartPending = false ∧
        d.ppu = { s.dev.ppu with
          overrideTimer := d.ppu.overrideTimer, restartPending := false
          restartTimer := if s.dev.ppu.power = .off ∧ s.dev.ppu.restartPending = true then none
            else s.dev.ppu.restartTimer
          cause := if s.dev.ppu.power = .poweringDown ∧ s.dev.ppu.restartPending = true then cause
            else s.dev.ppu.cause } ∧
        d.wku = (if s.dev.ppu.restartPending then { s.dev.wku with lastCause := cause }
          else s.dev.wku) ∧
        d.chg = { s.dev.chg with graceTimer := d.chg.graceTimer } ∧
        d.tfu = { s.dev.tfu with graceTimer := d.tfu.graceTimer } ∧ d.pli = s.dev.pli ∧
        d.segs = s.dev.segs ∧ d.nsu = s.dev.nsu ∧ d.mse = s.dev.mse ∧ d.ktu = s.dev.ktu ∧
        d.pkm = s.dev.pkm)

/-- A change of power-good (R3, R83, R98, R117, R119, R123, R126).  It ends the waits: POWERING_UP to ON with the link
UP, SLEEP_ENTRY to SLEEP, or with the wake latch set on to POWERING_UP, POWERING_DOWN to OFF, where a restart pending
starts its timer; its fall in ON is a loss of power: OFF through POWERING_DOWN with POWER_FAULT and the cause NONE,
the link DOWN; in every other case only the line changes.  Every block takes each change of power state passed (R116),
and the scan timer follows the state reached (R3, R4).  At entry to SLEEP a low mark that stands set is a crossing:
BATTERY_CRITICAL, and the wake it offers, or with its enable clear a forced OFF at or below the shutdown SoC; a
critical mark that stands set is one too: THERMAL_CRITICAL and a forced OFF.  The order in which these are taken there
is the model's choice (log entry 16) and no rule's: the low mark first, then the forced OFF of the critical mark
whatever the low mark led to, and the wake latch last; so with the latch set and a low mark that wakes, the source
recorded last is BATTERY_CRITICAL. -/
def Obligations.PowerGoodEndsWaits : Prop :=
  ∀ s : State,
    (s.dev.ppu.power = .poweringUp → s.dev.pins.powerGood = false →
      ∃ d, Ends (.powerGoodChange true) s d ∧ d.ppu.power = .on ∧ d.ppu.transition = none ∧
        d.pli.linkUp = !s.dev.pins.platformReset ∧ d.mainRail = true ∧ d.sleepRail = true ∧
        d.tst = s.dev.tst ∧ d.wku = s.dev.wku ∧ s.dev.mse.Retimed d.mse (s.dev.scanCalled .on) ∧
        s.dev.Entered d .on ∧ (s.dev.pli.linkUp = false →
          (s.dev.pins.platformReset = false → s.dev.LinkRose d s.dev.ktu) ∧
          (s.dev.pins.platformReset = true → d.ktu = s.dev.ktu ∧ d.pli = s.dev.pli))) ∧
    (s.dev.ppu.power = .sleepEntry → s.dev.pins.powerGood = true →
      let p := s.dev.tst.power
      let h := s.dev.tst.thermal
      let soc := s.dev.batterySoc
      let low := ∃ x, soc = some x ∧ x ≤ p.criticalSoc
      let hot := s.dev.tfu.skin.cond = .real ∧
        (h.skinCritical : Int) - (if s.dev.tfu.critical then h.criticalHysteresis else 0) ≤
          s.dev.tfu.skin.value
      let wakes := (s.dev.wakeEntry .batteryCritical).inSleep = true
      let latched : PowerState := if s.dev.ppu.wakeLatch then .poweringUp else .sleep
      let taken : List PowerState := if s.dev.ppu.wakeLatch then [.sleep, .poweringUp] else [.sleep]
      ∃ d, Ends (.powerGoodChange false) s d ∧ d.ppu.wakeLatch = false ∧ d.pli.linkUp = false ∧
        d.tst = s.dev.tst ∧ (low → d.Raised 9) ∧ (hot → d.Raised 12) ∧
        (d.ppu.power = .sleep → s.dev.mse.Retimed d.mse (s.dev.scanCalled .sleep)) ∧
        (¬ hot → ¬ low → (∀ x, soc = some x → p.shutdownSoc < x) →
          d.ppu.power = latched ∧ d.sleepRail = true ∧ d.wku = s.dev.wku ∧ s.dev.Passes d taken) ∧
        (¬ hot → low → wakes → d.ppu.power = .poweringUp ∧ s.dev.Passes d [.sleep, .poweringUp] ∧
          d.wku = { s.dev.wku with
            lastSource := some .batteryCritical, seen := s.dev.wku.seen ||| 32 }) ∧
        (¬ hot → low → ¬ wakes → ∀ x, soc = some x →
          (p.shutdownSoc < x → d.ppu.power = latched ∧ d.wku = s.dev.wku ∧ s.dev.Passes d taken) ∧
          (x ≤ p.shutdownSoc → d.ppu.power = .off ∧
            s.dev.Passes d [.sleep, .poweringDown, .off] ∧
            d.wku = { s.dev.wku with lastCause := .battery })) ∧
        (hot → d.ppu.power = .off) ∧
        (hot → low → wakes → s.dev.Passes d [.sleep, .poweringUp, .poweringDown, .off]) ∧
        (hot → ¬ (low ∧ wakes) → s.dev.Passes d [.sleep, .poweringDown, .off]) ∧
        (hot → ¬ low → (∀ x, soc = some x → p.shutdownSoc < x) →
          d.wku = { s.dev.wku with lastCause := .thermal })) ∧
    (s.dev.ppu.power = .poweringDown → s.dev.pins.powerGood = true →
      ∃ d, Ends (.powerGoodChange false) s d ∧ d.ppu.power = .off ∧ d.ppu.transition = none ∧
        d.ppu.restartPending = s.dev.ppu.restartPending ∧
        (s.dev.ppu.restartPending = true →
          d.ppu.restartTimer = some (Timer.ofMs s.dev.tst.power.restartOffTime)) ∧
        d.mainRail = false ∧ d.sleepRail = false ∧ d.tst = s.dev.tst ∧ d.wku = s.dev.wku ∧
        s.dev.mse.Retimed d.mse (s.dev.scanCalled .off) ∧ s.dev.Entered d .off) ∧
    (s.dev.ppu.power = .on → s.dev.pins.powerGood = true →
      ∃ d, Ends (.powerGoodChange false) s d ∧ d.ppu.power = .off ∧ d.ppu.request = none ∧
        d.ppu.restartPending = false ∧ d.ppu.cause = .none ∧ d.pli.linkUp = false ∧
        d.wku = { s.dev.wku with lastCause := .none, powerFault := true } ∧ d.tst = s.dev.tst ∧
        s.dev.Passes d [.poweringDown, .off] ∧ (s.dev.pli.linkUp = true → s.dev.LinkFell d) ∧
        (∀ t, s.dev.mse.scanTimer = some t → some t.period = s.dev.scanCalled .on →
          s.dev.mse.Retimed d.mse (s.dev.scanCalled .off))) ∧
    (∀ level, s.dev.pins.powerGood ≠ level →
      ¬ (s.dev.ppu.power = .poweringUp ∧ level = true) →
      ¬ ((s.dev.ppu.power = .sleepEntry ∨ s.dev.ppu.power = .poweringDown ∨
        s.dev.ppu.power = .on) ∧ level = false) →
      Ends (.powerGoodChange level) s
        { s.dev with pins := { s.dev.pins with powerGood := level } })

/-- The power timers (R118, R123, R125): the power-up timeout in POWERING_UP and the power-down timeout in
POWERING_DOWN and SLEEP_ENTRY end in OFF with POWER_FAULT set and the last shutdown cause kept, a restart
pending or a wake latch cleared; the restart timer brings the platform up without a wake source.  The scan timer
follows the state reached (R3, R4), every block takes each change of power state passed (R116), and ON brings the link
UP with the platform reset released. -/
def Obligations.PowerTimersExpire : Prop :=
  ∀ s : State,
    (s.dev.ppu.power = .poweringUp → s.dev.ppu.transition.isSome →
      ∃ d, Ends .powerUpTimeout s d ∧ d.ppu.power = .off ∧ d.ppu.transition = none ∧
        d.wku = { s.dev.wku with powerFault := true } ∧ d.tst = s.dev.tst ∧
        d.pins = s.dev.pins ∧ s.dev.mse.Retimed d.mse (s.dev.scanCalled .off) ∧
        s.dev.Entered d .off) ∧
    (s.dev.ppu.power = .poweringDown ∨ s.dev.ppu.power = .sleepEntry →
      s.dev.ppu.transition.isSome →
      ∃ d, Ends .powerDownTimeout s d ∧ d.ppu.power = .off ∧ d.ppu.transition = none ∧
        (s.dev.ppu.power = .poweringDown →
          d.ppu.restartPending = false ∧ d.ppu.restartTimer = none ∧
          d.ppu.cause = s.dev.ppu.cause) ∧
        (s.dev.ppu.power = .sleepEntry → d.ppu.wakeLatch = false ∧ d.ppu.cause = .none) ∧
        d.wku = { s.dev.wku with powerFault := true } ∧ d.tst = s.dev.tst ∧
        d.pins = s.dev.pins ∧ s.dev.mse.Retimed d.mse (s.dev.scanCalled .off) ∧
        s.dev.Entered d .off) ∧
    (s.dev.ppu.restartTimer.isSome →
      ∃ d, Ends .restartTimerExpiry s d ∧
        d.ppu.power = (if s.dev.pins.powerGood then .on else .poweringUp) ∧
        d.ppu.restartPending = false ∧ d.ppu.restartTimer = none ∧ d.ppu.cause = .none ∧
        d.wku = s.dev.wku ∧ d.tst = s.dev.tst ∧ d.pins = s.dev.pins ∧
        s.dev.mse.Retimed d.mse (s.dev.scanCalled .on) ∧ s.dev.Rises d s.dev.ktu)

/-- POWER_REQUEST with the value SLEEP, OFF or RESTART (R120): in ON with no request pending it is answered OK
and stands as the request pending, with its tag, until its response is sent; else it is answered BUSY.  One that is
taken from the head of the receive queue with any other payload, a value that is none of the three or another length
(R195), is answered BAD_REQUEST in every power state, and nothing else changes. -/
def Obligations.PowerRequestIsAnswered : Prop :=
  (∀ (s : State) (i : Nat) (tag : Byte) (p : List Byte) (rest : List Frame), s.dev.pli.linkUp = true →
    freeSlot s.dev.pli.slots = some i → s.dev.pli.rx = ⟨0, 8, tag, p⟩ :: rest →
    p ≠ [0] → p ≠ [1] → p ≠ [2] →
    Ends .requestTake s { s.dev with pli := { s.dev.pli with
      rx := rest
      slots := s.dev.pli.slots.set i ⟨.ready, 0, 8, tag, some Status.badRequest.alone⟩
      readyOrder := s.dev.pli.readyOrder ++ [i] } }) ∧
  ∀ (s : State) (i : Nat) (tag : Byte) (c : Instr) (v : PowerReq), s.dev.TakesInto i →
    (c = .powerRequestSleep tag ∧ v = .sleep) ∨ (c = .powerRequestOff tag ∧ v = .off) ∨
      (c = .powerRequestRestart tag ∧ v = .restart) →
    (s.dev.ppu.power = .on → s.dev.ppu.request = none →
      Ends c s { s.dev.answered i 0 8 tag Status.ok.alone with
        ppu := { s.dev.ppu with request := some (v, tag) } }) ∧
    (s.dev.ppu.power ≠ .on ∨ s.dev.ppu.request ≠ none →
      Ends c s (s.dev.answered i 0 8 tag Status.busy.alone))

/-! ## Chapter 7: wakes -/

/-- The wake line (R132, R135, R136).  Accepted ACTIVE it offers WAKE_LINE: in SLEEP and OFF, where WAKE
enables it, the wake is recorded and taken, with the scan timer at the on period (R3), every block taking the changes of
power state of the rise (R116) and ON bringing the link UP (R183); in SLEEP_ENTRY it is recorded and latched; else it
is dropped.  Accepted INACTIVE it offers nothing. -/
def Obligations.WakeLineIsTakenByItsEdge : Prop :=
  ∀ s : State,
    (s.dev.wku.line.accepted ≠ some true →
      let low : Dev := { s.dev with
        pins := { s.dev.pins with wakeLow := true }
        wku := { s.dev.wku with line := ⟨some true, none⟩ } }
      (s.dev.WouldWake .wakeLine → ∃ d, Ends .wakeLineAccept s d ∧ s.dev.WokenBy d .wakeLine ∧
        d.wku = { s.dev.wku with
          line := ⟨some true, none⟩, lastSource := some .wakeLine
          seen := s.dev.wku.seen ||| 64 } ∧ s.dev.mse.Retimed d.mse (s.dev.scanCalled .on) ∧
        s.dev.Rises d s.dev.ktu) ∧
      (s.dev.ppu.power = .sleepEntry → (s.dev.wakeEntry .wakeLine).inSleep = true →
        Ends .wakeLineAccept s { low with
          ppu := { s.dev.ppu with wakeLatch := true }
          wku := { low.wku with lastSource := some .wakeLine, seen := s.dev.wku.seen ||| 64 } }) ∧
      (¬ s.dev.WouldWake .wakeLine →
        ¬ (s.dev.ppu.power = .sleepEntry ∧ (s.dev.wakeEntry .wakeLine).inSleep = true) →
        Ends .wakeLineAccept s low)) ∧
    (s.dev.wku.line.accepted = some true → Ends .wakeLineInactiveAccept s { s.dev with
      pins := { s.dev.pins with wakeLow := false }
      wku := { s.dev.wku with line := ⟨some false, none⟩ } })

/-- WAKE_SET (R131): for each source the named flag is set when the source is in the set mask, else clear when
it is in the clear mask, else as it was; the enable-in-OFF of POWER_BUTTON is then set, with CLAMPED exactly
when it had come out clear; the reservation of WAKE clears.  A locked WAKE is answered LOCKED, a payload of the
wrong length, flag or mask BAD_REQUEST, with nothing written.  It is an event at the MSE (R3): in every state but
SLEEP and OFF, in which no request is taken, a timer that runs with the on period is left to run, any other starts
with it. -/
def Obligations.WakeSetMasksFlags : Prop :=
  ∀ (s : State) (i : Nat) (tag : Byte), s.dev.TakesInto i →
    (∀ flag set clear : Byte, flag.toNat ≤ 2 → set.toNat < 128 → clear.toNat < 128 →
      (s.dev.tst.isLocked .wake = true → Ends (.wakeSet tag [flag, set, clear]) s
        (s.dev.answered i 0 5 tag Status.locked.alone)) ∧
      (s.dev.tst.isLocked .wake = false →
        ∃ d wake clamped, Ends (.wakeSet tag [flag, set, clear]) s d ∧
          d = { s.dev.answered i 0 5 tag ⟨.ok, clamped, []⟩ with
            tst := { s.dev.tst with wake := wake, reserved := s.dev.tst.reserved.set 9 false }
            mse := d.mse } ∧
          wake.length = s.dev.tst.wake.length ∧
          (∀ n e, s.dev.tst.wake[n]? = some e → ∃ e', wake[n]? = some e' ∧
            e'.inSleep = (if flag = 0 then
              set.getLsbD n || (!clear.getLsbD n && e.inSleep) else e.inSleep) ∧
            e'.inOff = ((if flag = 1 then
              set.getLsbD n || (!clear.getLsbD n && e.inOff) else e.inOff) || n == 0) ∧
            e'.deliver = (if flag = 2 then
              set.getLsbD n || (!clear.getLsbD n && e.deliver) else e.deliver) ∧
            (n = 0 → clamped = !(if flag = 1 then
              set.getLsbD 0 || (!clear.getLsbD 0 && e.inOff) else e.inOff))) ∧
          (s.dev.ppu.power ≠ .sleep → s.dev.ppu.power ≠ .off →
            let us := 500 * 2 ^ s.dev.tst.scan.onPeriod
            (∀ t, s.dev.mse.scanTimer = some t → t.period = us → d.mse = s.dev.mse) ∧
            ((∀ t, s.dev.mse.scanTimer = some t → t.period ≠ us) →
              d.mse = { s.dev.mse with scanTimer := some ⟨us, us⟩ })))) ∧
    (∀ p : List Byte, p.length ≤ 60 →
      p.length ≠ 3 ∨ 2 < byteAt p 0 ∨ 127 < byteAt p 1 ∨ 127 < byteAt p 2 →
      Ends (.wakeSet tag p) s (s.dev.answered i 0 5 tag Status.badRequest.alone))

/-- WAKE_STATUS_READ answers the four fields of the sticky wake record and changes nothing; WAKE_STATUS_CLEAR
empties them and answers OK; a payload that is not empty is answered BAD_REQUEST by both (R139, R140, with the codes
of R195). -/
def Obligations.WakeStatusIsReadAndCleared : Prop :=
  ∀ (s : State) (i : Nat) (tag : Byte), s.dev.TakesInto i →
    Ends (.wakeStatusRead tag []) s (s.dev.answered i 0 6 tag ⟨.ok, false,
      [match s.dev.wku.lastSource with
        | none => 255 | some .powerButton => 0 | some .lidOpen => 1 | some .key => 2
        | some .sideButton => 3 | some .adapterChange => 4 | some .batteryCritical => 5
        | some .wakeLine => 6,
       s.dev.wku.seen.setWidth 8,
       match s.dev.wku.lastCause with
        | .none => 0 | .hostRequest => 1 | .buttonOverride => 2 | .thermal => 3 | .battery => 4,
       if s.dev.wku.powerFault then 1 else 0]⟩) ∧
    Ends (.wakeStatusClear tag []) s { s.dev.answered i 0 7 tag Status.ok.alone with
      wku := { s.dev.wku with
        lastSource := none, seen := 0, lastCause := .none, powerFault := false } } ∧
    (∀ p : List Byte, p ≠ [] → p.length ≤ 60 →
      Ends (.wakeStatusRead tag p) s (s.dev.answered i 0 6 tag Status.badRequest.alone) ∧
      Ends (.wakeStatusClear tag p) s (s.dev.answered i 0 7 tag Status.badRequest.alone))

/-! ## Chapter 8: segments and pass-through -/

/-- The transaction in flight ends for a pass-through request whose slot still waits (R144, R146, R147, R151,
R154): OK with the bytes read, or OK alone for a write, ADDR_NACK and DATA_NACK in TRANSACTION_COMPLETE, TIMEOUT in
STRETCH_TIMEOUT after which the segment is RECOVERING; the slot is READY with that status, and the record leaves
the queue.  The completion of a member, TIMEOUT among them, starts the idle timer of an OPEN sequence anew with 50 ms,
any other leaves it running; a PENDING sequence is granted with its idle timer started unless a record of class 3 that is
no member remains (R153), which SequencesOpenAndClose states with its answer, for every requester.  The arbiter then
takes, of the records that wait and that it may take, the one of the lowest class and in it of the lowest arrival
order.  That a timeout shows the clock low where no line that the transaction waits on reads low yet is the model's
choice (log entry 26). -/
def Obligations.PassThroughCompletionAnswers : Prop :=
  ∀ (g : Seg) (s : State) (t : Txn) (i c n : Nat) (tag : Byte),
    (s.dev.seg g).current = some t → t.requester = .hub → t.slot = some i →
    s.dev.pli.slots[i]? = some ⟨.waiting, c, n, tag, none⟩ →
    let left := (s.dev.seg g).queue.filter fun u => !u.inFlight
    let sequence := (s.dev.seg g).sequence.completed t.member
    let goesOn (d : Dev) : Prop :=
      (d.seg g).queue.map Txn.order = left.map Txn.order ∧
      (d.seg g).sequence = sequence.arbitrated left ∧
      ((d.seg g).state = .idle ∨ (d.seg g).state = .busy) ∧
      ((left.map Txn.order).Nodup → (d.seg g).TookFirst left) ∧
      d = { s.dev with pins := d.pins, segs := s.dev.segs.set g.ix (d.seg g), pli := d.pli }
    (∀ data : List Byte, data.length = (if t.write then 0 else t.length) →
      ∃ d, Ends (.transactionComplete g (.ok data)) s d ∧
        d.Answers i c n tag ⟨.ok, false, data⟩ ∧ goesOn d) ∧
    (∀ e st, (e = .addrNack ∧ st = .addrNack) ∨ (e = .dataNack ∧ st = .dataNack) →
      ∃ d, Ends (.transactionComplete g e) s d ∧ d.Answers i c n tag (Status.alone st) ∧ goesOn d) ∧
    (∃ d, Ends (.stretchTimeout g) s d ∧ d.Answers i c n tag Status.timeout.alone ∧
      (d.seg g).state = .recovering ∧ (d.seg g).queue = left ∧
      (d.seg g).stretch = none ∧ (d.seg g).sequence = sequence ∧
      d = { s.dev with
        pins := if s.dev.waitsOnLine g then s.dev.pins
          else { s.dev.pins with clockHigh := s.dev.pins.clockHigh.set g.ix false }
        segs := s.dev.segs.set g.ix (d.seg g), pli := d.pli })

/-- A recovery ends (R146, R148, R157).  With the data line high the segment is IDLE and the arbiter acts: it grants a
PENDING sequence unless a class-3 record that is no member remains, its request then answered OK (R153), and takes the
first record it may; a recovery that a RELEASE from FAULT started raises SEGMENT_EVENT with the segment and the kind
RECOVERED, another raises nothing (R160).  With it low the segment enters FAULT: its queue is empty, its sequence gone,
SEGMENT_EVENT is raised with the segment and the kind FAULT, and the pass-through requests that waited, a PENDING
PT_SEQ_OPEN (R153), and each DRAIN whose set the queue's writes make up (R158) are answered SEG_FAULT, its entry leaving
the list; the part's own requesters fail (R55, R56, R64, R79, R92).  The two premises on `j` keep other causes from its
slot while internal records complete too: in SLEEP a lost pack may end the link, and what an allocation issues on the
other segment may grant a sequence there.  In SLEEP a pack that is lost and a skin that is lost act on the power state
too: each is stated there for a queue without records of another requester of the part. -/
def Obligations.RecoveryEndsInIdleOrFault : Prop :=
  ∀ (g : Seg) (s : State), (s.dev.seg g).state = .recovering →
    let sg := s.dev.seg g
    let mask := s.dev.tst.settings.noticeMask
    (∃ d, Ends (.recoveryEnd g true) s d ∧
      ((d.seg g).state = .idle ∨ (d.seg g).state = .busy) ∧ (d.seg g).fromFault = false ∧
      (d.seg g).queue.map Txn.order = sg.queue.map Txn.order ∧
      (Wait sg.queue → (d.seg g).TookFirst sg.queue) ∧
      (d.seg g).sequence = sg.sequence.arbitrated sg.queue ∧ s.dev.TellsOpen d g ∧
      s.dev.SegmentMoved d g ∧
      d = { s.dev with pins := d.pins, segs := d.segs, pli := d.pli, nsu := d.nsu } ∧
      (sg.fromFault = true → d.Raised 14 ∧
        (mask.getLsbD 14 = true → Notice.segmentEvent g .recovered ∈ d.nsu.queue) ∧
        d.nsu = s.dev.nsu.raise mask (.segmentEvent g .recovered)) ∧
      (sg.fromFault = false → d.nsu = s.dev.nsu)) ∧
    (∃ d, Ends (.recoveryEnd g false) s d ∧
      (d.seg g).state = .fault ∧ (d.seg g).queue = [] ∧ (d.seg g).sequence = .noSeq ∧
      d.Raised 14 ∧ (mask.getLsbD 14 = true → Notice.segmentEvent g .fault ∈ d.nsu.queue) ∧
      let hubOnly := ∀ t ∈ sg.queue, t.requester = .hub
      let k := packOf g
      let m := s.dev.mon k
      let loses := 2 ≤ m.record.failures ∧ (m.record.state = .identifying ∨ m.record.state = .ready)
      (hubOnly → d = { s.dev with
        pins := d.pins, segs := s.dev.segs.set g.ix (d.seg g), pli := d.pli
        nsu := s.dev.nsu.raise mask (.segmentEvent g .fault) }) ∧
      ((∀ x ∈ sg.drains, sg.Drains x) → (d.seg g).drains = []) ∧
      (∀ j c n tag, s.dev.pli.slots[j]? = some ⟨.waiting, c, n, tag, none⟩ →
        hubOnly ∨ (s.dev.ppu.power ≠ .sleep ∧ ∀ h, h ≠ g → (s.dev.seg h).sequence ≠ .pending j) →
        (∃ t ∈ sg.queue, t.requester = .hub ∧ t.slot = some j) ∨ sg.sequence = .pending j ∨
          (∃ x ∈ sg.drains, x.slot = j ∧ sg.Drains x) →
        d.Answers j c n tag Status.segFault.alone) ∧
      (s.dev.ppu.power ≠ .sleep ∨ (¬ loses ∧
          (sg.holds .skin = false ∨ (sg.OneSkinRead ∧ s.dev.tfu.skinFailures ≠ 2))) →
        s.dev.FailsRequesters d g) ∧
      (sg.OnlyWith .pkm → sg.holds .pkm = true → loses →
        (m.orphan = false ∧ m.cycle.isSome) ∨
          (m.orphan = true ∧ m.cycle = none ∧ m.record.state = .identifying) →
        Dev.LosesPack { s.dev with segs := s.dev.segs.set g.ix { sg with state := .fault } } d k) ∧
      (sg.OnlyWith .skin → sg.OneSkinRead → s.dev.SkinFails d))

/-- PT_READ and PT_WRITE (R149, R150, R154).  An address above 127, a read of 0 or more than 32 bytes, a write of none
or more than 32, or another payload length: BAD_REQUEST.  `e` is the FILTER entry that matches first.  None, or the
action DENY: DENIED.  SHADOW: a read of two bytes is answered from the pack record (R59), every other request DENIED.
PASS: SEG_RESET in HELD, SEG_FAULT in FAULT, BUSY with four class-3 records queued, and else a class-3 record with the
request's fields and slot, a member while a sequence stands. -/
def Obligations.PassThroughIsJudged : Prop :=
  (∀ (g : Seg) (s : State) (i : Nat) (tag : Byte) (p : List Byte),
    s.dev.TakesInto i → p.length ≤ 60 →
    let ch := match g with | .seg0 => 4 | .seg1 => 5
    (p.length ≠ 3 ∨ 127 < byteAt p 0 ∨ byteAt p 2 = 0 ∨ 32 < byteAt p 2 →
      Ends (.ptRead g tag p) s (s.dev.answered i ch 0 tag Status.badRequest.alone)) ∧
    (p.length < 3 ∨ 34 < p.length ∨ 127 < byteAt p 0 →
      Ends (.ptWrite g tag p) s (s.dev.answered i ch 1 tag Status.badRequest.alone))) ∧
  ∀ (g : Seg) (s : State) (i : Nat) (tag a b : Byte) (rest data : List Byte) (write : Bool)
      (n : Nat) (c : Instr) (e : Option FilterEntry),
    s.dev.TakesInto i → a.toNat ≤ 127 → 1 ≤ n → n ≤ 32 →
    (write = false ∧ rest = [BitVec.ofNat 8 n] ∧ data = [] ∧ c = .ptRead g tag (a :: b :: rest)) ∨
      (write = true ∧ rest = data ∧ data.length = n ∧ c = .ptWrite g tag (a :: b :: rest)) →
    e = s.dev.tst.filter.find? (fun e => e.valid && e.seg == g && e.address == a.toNat &&
      decide (e.first ≤ b.toNat ∧ b.toNat ≤ e.last) &&
      (e.access == .both || e.access == (if write then .write else .read))) →
    let ch := match g with | .seg0 => 4 | .seg1 => 5
    let kind := if write then 1 else 0
    let sg := s.dev.seg g
    let action := match e with | none => FilterAction.deny | some e => e.action
    (action = .deny → Ends c s (s.dev.answered i ch kind tag Status.denied.alone)) ∧
    (action = .shadow → write = true ∨ n ≠ 2 →
      Ends c s (s.dev.answered i ch kind tag Status.denied.alone)) ∧
    (action = .shadow → write = false → n = 2 →
      Ends c s (s.dev.answered i ch kind tag (shadowAnswer g b.toNat s.dev))) ∧
    (action = .pass → sg.state = .held →
      Ends c s (s.dev.answered i ch kind tag Status.segReset.alone)) ∧
    (action = .pass → sg.state = .fault →
      Ends c s (s.dev.answered i ch kind tag Status.segFault.alone)) ∧
    (action = .pass → sg.Takes → 4 ≤ (sg.queue.filter fun t => t.cls == 3).length →
      Ends c s (s.dev.answered i ch kind tag Status.busy.alone)) ∧
    (action = .pass → sg.Takes → (sg.queue.filter fun t => t.cls == 3).length < 4 →
      s.dev.SlotClear i →
      ∃ d, Ends c s d ∧ d.pli.slots[i]? = some ⟨.waiting, ch, kind, tag, none⟩ ∧
        d = { s.dev with segs := s.dev.segs.set g.ix (d.seg g), pli := d.pli } ∧
        ∃ t ∈ (d.seg g).queue, t.cls = 3 ∧ t.requester = .hub ∧ t.write = write ∧
          t.address = a.toNat ∧ t.command = b.toNat ∧ t.length = n ∧ t.data = data ∧
          t.slot = some i ∧ t.member = (sg.sequence != .noSeq) ∧ t.order = sg.nextOrder)

/-- The answer to a SHADOW read (R59): ABSENT when no ITEMMAP entry holds the command byte or the pack's record
lacks the field, else the field of the first item that holds it, in the form the pack sends; in the status word the
bits outside the five are 0. -/
def Obligations.ShadowAnswersFromRecord : Prop :=
  ∀ (g : Seg) (command : Nat) (d : Dev),
    let r := (d.mon (match g with | .seg0 => Pack.a | .seg1 => .b)).record
    (command ∉ d.tst.itemmap → shadowAnswer g command d = ⟨.absent, false, []⟩) ∧
    (∀ (j : Nat), d.tst.itemmap[j]? = some command →
      (∀ l < j, d.tst.itemmap[l]? ≠ some command) →
      (j < 8 → r.telemetry = none → shadowAnswer g command d = ⟨.absent, false, []⟩) ∧
      (8 ≤ j → r.identity = none → shadowAnswer g command d = ⟨.absent, false, []⟩) ∧
      (∀ t, r.telemetry = some t →
        (j = 0 → shadowAnswer g command d = ⟨.ok, false, leBytes 2 t.voltage⟩) ∧
        (j = 1 → shadowAnswer g command d = ⟨.ok, false, leBytes 2 (t.current % 65536).toNat⟩) ∧
        (j = 2 → shadowAnswer g command d = ⟨.ok, false, leBytes 2 (t.temperature % 65536).toNat⟩) ∧
        (j = 3 → shadowAnswer g command d = ⟨.ok, false, leBytes 2 t.soc⟩) ∧
        (j = 4 → shadowAnswer g command d = ⟨.ok, false, leBytes 2 t.fullCapacity⟩) ∧
        (j = 5 → shadowAnswer g command d = (match t.reqCurrent with
          | none => ⟨.absent, false, []⟩ | some x => ⟨.ok, false, leBytes 2 x⟩)) ∧
        (j = 6 → shadowAnswer g command d = (match t.reqVoltage with
          | none => ⟨.absent, false, []⟩ | some x => ⟨.ok, false, leBytes 2 x⟩)) ∧
        (j = 7 → (shadowAnswer g command d).status = .ok ∧
          ∃ b : Byte, (shadowAnswer g command d).data = [b, 0] ∧ b.toNat % 8 = 0 ∧
            PackStatus.ofWord b.toNat = t.status)) ∧
      (∀ n, r.identity = some n →
        (j = 8 → shadowAnswer g command d = ⟨.ok, false, leBytes 2 n.chemistry⟩) ∧
        (j = 9 → shadowAnswer g command d = ⟨.ok, false, leBytes 2 n.cells⟩) ∧
        (j = 10 → shadowAnswer g command d = ⟨.ok, false, leBytes 2 n.designCapacity⟩)))

/-- Sequences (R146, R153 to R155).  PT_SEQ_OPEN with none standing is granted at once, answered OK with the idle timer
running, on an IDLE segment without class-3 records other than members; else it waits as PENDING; SEG_FAULT and
SEG_RESET answer it in FAULT and HELD, BUSY while a sequence stands.  PT_SEQ_CLOSE ends an OPEN one, its members
ordinary records in their order, among which the arbiter of an IDLE segment then takes the first; it is answered BUSY
while one is PENDING, and OK with none.  The idle timer ends an OPEN one in the same way, with SEGMENT_EVENT naming the
segment and the kind SEQ_TIMEOUT (R160).  When a transaction ends, whoever asked for it, a member's completion starts
the idle timer of an OPEN sequence anew, any other leaves it running; where the segment then comes IDLE, a PENDING
sequence is granted unless a class-3 record that is no member remains: it is OPEN with 50 ms and its request is answered
OK, and the arbiter takes the first record that it may take under the sequence record that stands.  (The end of a
recovery grants it in RecoveryEndsInIdleOrFault, RELEASE in SegmentResetHoldsAndReleases.)  In SLEEP, where a pack that
is lost may end the link, this is stated for the hub's transactions and where no sequence stands.  That a member in
flight loses its member flag with the waiting ones at a close is the model's choice (log entry 49). -/
def Obligations.SequencesOpenAndClose : Prop :=
  ∀ (g : Seg) (s : State),
    let ch := match g with | .seg0 => 4 | .seg1 => 5
    let sg := s.dev.seg g
    let mask := s.dev.tst.settings.noticeMask
    let freed := sg.queue.map fun u => { u with member := false }
    let closes (d : Dev) : Prop := (d.seg g).sequence = .noSeq ∧
      (sg.state ≠ .idle → d.seg g = { sg with sequence := .noSeq, queue := freed }) ∧
      (sg.state = .idle → (d.seg g).queue.map Txn.order = sg.queue.map Txn.order ∧
        (∀ u ∈ (d.seg g).queue, u.member = false) ∧ (Wait sg.queue → (d.seg g).TookFirst freed))
    (∀ i tag, s.dev.TakesInto i →
      (sg.sequence ≠ .noSeq →
        Ends (.ptSeqOpen g tag []) s (s.dev.answered i ch 2 tag Status.busy.alone)) ∧
      (sg.sequence = .noSeq → sg.state = .fault →
        Ends (.ptSeqOpen g tag []) s (s.dev.answered i ch 2 tag Status.segFault.alone)) ∧
      (sg.sequence = .noSeq → sg.state = .held →
        Ends (.ptSeqOpen g tag []) s (s.dev.answered i ch 2 tag Status.segReset.alone)) ∧
      (sg.sequence = .noSeq → sg.state = .idle → (∀ t ∈ sg.queue, t.cls = 3 → t.member = true) →
        ∃ d, Ends (.ptSeqOpen g tag []) s d ∧
          (d.seg g).sequence = .opened (Timer.ofMs 50) ∧
          d = { s.dev.answered i ch 2 tag Status.ok.alone with
            segs := s.dev.segs.set g.ix (d.seg g) }) ∧
      (sg.sequence = .noSeq → sg.state = .busy ∨ sg.state = .recovering →
        Ends (.ptSeqOpen g tag []) s { s.dev.waiting i ch 2 tag with
          segs := s.dev.segs.set g.ix { sg with sequence := .pending i } }) ∧
      (∀ t, sg.sequence = .opened t →
        ∃ d, Ends (.ptSeqClose g tag []) s d ∧ closes d ∧
          d = { s.dev.answered i ch 3 tag Status.ok.alone with
            segs := s.dev.segs.set g.ix (d.seg g) }) ∧
      (∀ j, sg.sequence = .pending j →
        Ends (.ptSeqClose g tag []) s (s.dev.answered i ch 3 tag Status.busy.alone)) ∧
      (sg.sequence = .noSeq →
        Ends (.ptSeqClose g tag []) s (s.dev.answered i ch 3 tag Status.ok.alone)) ∧
      (∀ p : List Byte, p ≠ [] → p.length ≤ 60 →
        Ends (.ptSeqOpen g tag p) s (s.dev.answered i ch 2 tag Status.badRequest.alone) ∧
        Ends (.ptSeqClose g tag p) s (s.dev.answered i ch 3 tag Status.badRequest.alone))) ∧
    (∀ t, sg.sequence = .opened t →
      ∃ d, Ends (.sequenceIdleExpiry g) s d ∧ closes d ∧ d.Raised 14 ∧
        (mask.getLsbD 14 = true → Notice.segmentEvent g .seqTimeout ∈ d.nsu.queue) ∧
        d = { s.dev with
          segs := s.dev.segs.set g.ix (d.seg g)
          nsu := s.dev.nsu.raise mask (.segmentEvent g .seqTimeout) }) ∧
    (∀ t e c, sg.current = some t → t.EndsBy g e c →
      s.dev.ppu.power ≠ .sleep ∨ t.requester = .hub ∨ sg.sequence = .noSeq →
      let left := sg.queue.filter fun u => !u.inFlight
      let sequence := sg.sequence.completed (t.requester == .hub && t.member)
      ∃ d, Ends c s d ∧ s.dev.TellsOpen d g ∧
        (e = .timeout → (d.seg g).state = .recovering ∧ (d.seg g).sequence = sequence) ∧
        (e ≠ .timeout → (d.seg g).sequence = sequence.arbitrated left ∧
          (((d.seg g).queue.map Txn.order).Nodup →
            (d.seg g).TookFirst ((d.seg g).queue.map fun u => { u with inFlight := false }))))

/-- SEGMENT_RESET (R156, R157).  HOLD is refused BUSY while the segment's pack has a commanded current, is
answered OK without effect in HELD, and else leaves the segment HELD with its queue empty and no sequence, the
pass-through requests that waited or were in flight and a PENDING PT_SEQ_OPEN answered SEG_RESET, each DRAIN whose set
the queue's writes make up answered OK (R158), an allocation run, and the HOLD answered OK; the part's own requesters
pause or fail (R57, R64, R79, R92); it comes with the link UP, so not in SLEEP.  RELEASE takes HELD to IDLE, where the
arbiter acts (R146), granting a PENDING sequence (R153): from an empty queue the segment stays IDLE exactly when the
allocation issued no charger write.  It takes FAULT to RECOVERING, and changes nothing in the other states.  Neither
raises SEGMENT_EVENT (R160). -/
def Obligations.SegmentResetHoldsAndReleases : Prop :=
  ∀ (g : Seg) (s : State) (i : Nat) (tag n : Byte), s.dev.TakesInto i →
    n = (match g with | .seg0 => 0 | .seg1 => 1) →
    let sg := s.dev.seg g
    let pack := match g with | .seg0 => Pack.a | .seg1 => .b
    ((s.dev.chp pack).current ≠ 0 →
      Ends (.segmentResetHold tag n) s (s.dev.answered i 0 13 tag Status.busy.alone)) ∧
    ((s.dev.chp pack).current = 0 → sg.state = .held →
      Ends (.segmentResetHold tag n) s (s.dev.answered i 0 13 tag Status.ok.alone)) ∧
    ((s.dev.chp pack).current = 0 → sg.state ≠ .held →
      ∃ d, Ends (.segmentResetHold tag n) s d ∧ (d.seg g).state = .held ∧ (d.seg g).queue = [] ∧
        (d.seg g).sequence = .noSeq ∧ d.tst = s.dev.tst ∧ d.chg.headroom = d.headroom ∧
        (d.Raised 14 → s.dev.Raised 14) ∧ (s.dev.ppu.power ≠ .sleep → s.dev.HoldsRequesters d g) ∧
        ((∀ x ∈ sg.drains, sg.Drains x) → (d.seg g).drains = []) ∧
        (∀ x ∈ sg.drains, sg.Drains x → s.dev.ppu.power = .on → s.dev.SlotClear x.slot →
          (∀ t ∈ sg.queue, t.slot ≠ some x.slot) →
          ∀ c m u, s.dev.pli.slots[x.slot]? = some ⟨.waiting, c, m, u, none⟩ →
            d.Answers x.slot c m u Status.ok.alone) ∧
        (sg.queue = [] → s.dev.SlotClear i → d.Answers i 0 13 tag Status.ok.alone ∧
          d = { s.dev with chg := d.chg, segs := d.segs, pli := d.pli, nsu := d.nsu }) ∧
        (s.dev.ppu.power = .on → s.dev.SlotClear i → (∀ e ∈ sg.drains, e.slot ≠ i) →
          (∀ t ∈ sg.queue, t.slot ≠ some i) → d.Answers i 0 13 tag Status.ok.alone) ∧
        (∀ j c m u, s.dev.ppu.power = .on → s.dev.pli.slots[j]? = some ⟨.waiting, c, m, u, none⟩ →
          (∀ e ∈ sg.drains, e.slot ≠ j) →
          (∀ t ∈ sg.queue, t.slot = some j → t.requester = .hub → s.dev.SlotClear j →
            d.Answers j c m u Status.segReset.alone) ∧
          (sg.sequence = .pending j → (∀ h, h ≠ g → (s.dev.seg h).sequence ≠ .pending j) →
            (∀ t ∈ sg.queue, t.slot ≠ some j) → d.Answers j c m u Status.segReset.alone))) ∧
    (sg.state = .held → s.dev.SlotClear i →
      ∃ d, Ends (.segmentResetRelease tag n) s d ∧
        ((d.seg g).state = .idle ∨ (d.seg g).state = .busy) ∧
        (sg.queue = [] → ((d.seg g).state = .idle ↔ (d.seg g).queue = [])) ∧
        (d.seg g).sequence = sg.sequence.arbitrated sg.queue ∧ s.dev.TellsOpen d g ∧
        d.chg.headroom = d.headroom ∧ d.Answers i 0 13 tag Status.ok.alone ∧
        (d.Raised 14 → s.dev.Raised 14) ∧
        d = { s.dev with chg := d.chg, segs := d.segs, pli := d.pli, nsu := d.nsu }) ∧
    (sg.state = .fault →
      Ends (.segmentResetRelease tag n) s { s.dev.answered i 0 13 tag Status.ok.alone with
        segs := s.dev.segs.set g.ix { sg with state := .recovering, fromFault := true } }) ∧
    (sg.state = .idle ∨ sg.state = .busy ∨ sg.state = .recovering →
      Ends (.segmentResetRelease tag n) s (s.dev.answered i 0 13 tag Status.ok.alone)) ∧
    (∀ m : Byte, 2 ≤ m.toNat →
      Ends (.segmentResetHold tag m) s (s.dev.answered i 0 13 tag Status.badRequest.alone) ∧
      Ends (.segmentResetRelease tag m) s (s.dev.answered i 0 13 tag Status.badRequest.alone))

/-- DRAIN (R158): with no pass-through write queued it is answered at once, SEG_FAULT in FAULT and OK
otherwise; else it waits for exactly the class-3 writes then in the queue.  A completed write, whatever its status,
leaves the set of every drain entry that holds it; each entry whose set is empty then leaves the list and its
DRAIN is answered OK. -/
def Obligations.DrainWaitsForWrites : Prop :=
  ∀ (g : Seg) (s : State) (i : Nat) (tag n : Byte), s.dev.TakesInto i →
    n = (match g with | .seg0 => 0 | .seg1 => 1) →
    let sg := s.dev.seg g
    ((∀ t ∈ sg.queue, t.cls = 3 → t.write = false) →
      Ends (.drain tag [n]) s (s.dev.answered i 0 14 tag
        (if sg.state = .fault then Status.segFault.alone else Status.ok.alone))) ∧
    ((∃ t ∈ sg.queue, t.cls = 3 ∧ t.write = true) →
      ∃ orders, Ends (.drain tag [n]) s { s.dev.waiting i 0 14 tag with
          segs := s.dev.segs.set g.ix { sg with drains := sg.drains ++ [⟨i, orders⟩] } } ∧
        ∀ o, o ∈ orders ↔ ∃ t ∈ sg.queue, t.cls = 3 ∧ t.write = true ∧ t.order = o) ∧
    (∀ p : List Byte, p.length ≤ 60 → (∀ m, p = [m] → 2 ≤ m.toNat) →
      Ends (.drain tag p) s (s.dev.answered i 0 14 tag Status.badRequest.alone)) ∧
    (∀ (u : State) (t : Txn) (c : Instr), (u.dev.seg g).current = some t → t.requester = .hub →
      t.write = true →
      c = .transactionComplete g (.ok []) ∨ c = .transactionComplete g .addrNack ∨
        c = .transactionComplete g .dataNack ∨ c = .stretchTimeout g →
      let drains := (u.dev.seg g).drains
      ∃ d, Ends c u d ∧
        (d.seg g).drains = (drains.map fun e =>
          { e with writes := e.writes.filter fun o => o ≠ t.order }).filter
            (fun e => e.writes ≠ []) ∧
        ∀ e ∈ drains, (∀ o ∈ e.writes, o = t.order) → t.slot ≠ some e.slot →
          ∀ ch k tag', u.dev.pli.slots[e.slot]? = some ⟨.waiting, ch, k, tag', none⟩ →
            d.Answers e.slot ch k tag' Status.ok.alone)

/-! ## Chapter 9: tables -/

/-- TABLE_READ (R162, R163, R195): answered OK with the table's flags, locked in bit 0 and reserved as the read leaves
it in bit 1, and the entries as stored, whose bytes ReadEntriesWriteBack states; the option reserve sets the
reservation and nothing else changes.  A malformed one is answered BAD_REQUEST and changes nothing. -/
def Obligations.TableReadAnswersEntries : Prop :=
  ∀ (s : State) (i : Nat) (tag : Byte), s.dev.TakesInto i →
    (∀ (t : TableId) (lo hi n opt : Byte), s.dev.tst.Sound →
      lo.toNat + 256 * hi.toNat + n.toNat ≤ t.entries → n.toNat * t.entrySize ≤ 56 →
      opt = 0 ∨ opt = 1 →
      Ends (.tableRead tag [BitVec.ofNat 8 t.id, lo, hi, n, opt]) s
        { s.dev.answered i 0 1 tag ⟨.ok, false,
            BitVec.ofNat 8 ((if s.dev.tst.isLocked t then 1 else 0) +
              (if opt = 1 ∨ s.dev.tst.isReserved t then 2 else 0)) ::
            ((List.range n.toNat).map fun j =>
              readEntry t (lo.toNat + 256 * hi.toNat + j) s.dev.tst).flatten⟩ with
          tst := if opt = 1 then
            { s.dev.tst with reserved := s.dev.tst.reserved.set (t.id - 1) true }
            else s.dev.tst }) ∧
    (∀ p : List Byte, p.length ≤ 60 →
      p.length ≠ 5 ∨ 1 < byteAt p 4 ∨ byteAt p 0 = 0 ∨ 11 < byteAt p 0 ∨
        (∃ t : TableId, t.id = byteAt p 0 ∧
          (t.entries < u16At p 1 + byteAt p 3 ∨ 56 < byteAt p 3 * t.entrySize)) →
      Ends (.tableRead tag p) s (s.dev.answered i 0 1 tag Status.badRequest.alone))

/-- TABLE_WRITE and TABLE_WRITE_COND (R162, R164 to R168, R172).  A well-formed TABLE_WRITE of an unlocked table, and
a TABLE_WRITE_COND that finds the reservation set too, stores its entries in one event, clears the reservation,
changes no other entry, and is answered OK with CLAMPED when a stored entry was adjusted (ReadEntriesWriteBack states
what is stored for which bytes); on a locked table it is answered LOCKED; a TABLE_WRITE_COND without the reservation
is answered STALE, and one that names a table clears its reservation whatever the answer.  The change is handed to the
owners: SCAN and WAKE restart a scan timer that runs with another period; PROFILE, POWER and ADAPTER run an
allocation, and POWER restarts the timers whose interval changed; FANCURVE raises a duty below the minimum start duty
and leaves all else to the next fan update; THERMAL moves the FAIL_SAFE sources, the zone and the critical mark;
SETTINGS recomputes the layer when fn_lock changed and runs an allocation when the ceiling did; KEYMAP, ITEMMAP and
FILTER hand on nothing. -/
def Obligations.TableWritesStoreEntries : Prop :=
  (∀ (s : State) (i : Nat) (tag : Byte) (p : List Byte), s.dev.TakesInto i → p.length ≤ 60 →
    byteAt p 0 = 0 ∨ 11 < byteAt p 0 →
    Ends (.tableWrite tag p) s (s.dev.answered i 0 2 tag Status.badRequest.alone) ∧
    Ends (.tableWriteCond tag p) s (s.dev.answered i 0 3 tag Status.badRequest.alone)) ∧
  ∀ (s : State) (i : Nat) (tag : Byte) (t : TableId) (p : List Byte), s.dev.TakesInto i →
    s.dev.SlotClear i → s.dev.ppu.power = .on → s.dev.tst.Sound → p.length ≤ 60 →
    byteAt p 0 = t.id →
    let first := u16At p 1
    let n := byteAt p 3
    let good := p.length = 4 + n * t.entrySize ∧ n ≠ 0 ∧ first + n ≤ t.entries ∧
      n * t.entrySize ≤ 56
    let released := { s.dev.tst with reserved := s.dev.tst.reserved.set (t.id - 1) false }
    (¬ good →
      Ends (.tableWrite tag p) s (s.dev.answered i 0 2 tag Status.badRequest.alone) ∧
      Ends (.tableWriteCond tag p) s
        { s.dev.answered i 0 3 tag Status.badRequest.alone with tst := released }) ∧
    (good → s.dev.tst.isLocked t = true →
      Ends (.tableWrite tag p) s (s.dev.answered i 0 2 tag Status.locked.alone) ∧
      Ends (.tableWriteCond tag p) s
        { s.dev.answered i 0 3 tag Status.locked.alone with tst := released }) ∧
    (good → s.dev.tst.isLocked t = false → s.dev.tst.isReserved t = false →
      Ends (.tableWriteCond tag p) s
        { s.dev.answered i 0 3 tag Status.stale.alone with tst := released }) ∧
    (good → s.dev.tst.isLocked t = false → ∀ c kind,
      (c = .tableWrite tag p ∧ kind = 2) ∨
        (c = .tableWriteCond tag p ∧ kind = 3 ∧ s.dev.tst.isReserved t = true) →
      ∃ d clamped, Ends c s d ∧ d.Answers i 0 kind tag ⟨.ok, clamped, []⟩ ∧
        d.tst.locked = s.dev.tst.locked ∧
        d.tst.reserved = s.dev.tst.reserved.set (t.id - 1) false ∧
        (∀ u j, j < u.entries → u ≠ t ∨ j < first ∨ first + n ≤ j →
          readEntry u j d.tst = readEntry u j s.dev.tst) ∧
        (∀ j < n, readEntry t (first + j) d.tst = readEntry t (first + j)
          (storeEntry t (first + j) ((p.drop (4 + j * t.entrySize)).take t.entrySize) s.dev.tst).1) ∧
        (clamped = true ↔ ∃ j < n, (storeEntry t (first + j)
          ((p.drop (4 + j * t.entrySize)).take t.entrySize) s.dev.tst).2 = true) ∧
        (let stored : Dev := { s.dev.answered i 0 kind tag ⟨.ok, clamped, []⟩ with tst := d.tst }
         let ms (x : Nat) (y : Option Timer) : Option Timer :=
          y.map fun z => if z.period = x * 1000 then z else ⟨x * 1000, x * 1000⟩
         (t = .keymap ∨ t = .itemmap ∨ t = .filter → d = stored) ∧
         (t = .scan ∨ t = .wake →
          let us := 500 * 2 ^ d.tst.scan.onPeriod
          d = { stored with mse := if ∃ z, s.dev.mse.scanTimer = some z ∧ z.period = us then s.dev.mse
            else { s.dev.mse with scanTimer := some ⟨us, us⟩ } }) ∧
         (t = .profile ∨ t = .power ∨ t = .adapter → d.chg.headroom = d.headroom ∧
          d = { s.dev with
            tst := d.tst, chg := d.chg, pkm := d.pkm, segs := d.segs, pli := d.pli, nsu := d.nsu }) ∧
         (t = .profile → ∀ k, (d.chp k).stage = .fast ∨ (d.chp k).stage = .topoff →
          (d.chp k).elapsedUs < d.fastChargeLimit k) ∧
         (t = .profile ∨ t = .adapter → d.pkm = s.dev.pkm ∧
          d.chg.allocTimer = s.dev.chg.allocTimer ∧ d.chg.refreshTimer = s.dev.chg.refreshTimer) ∧
         (t = .power → d.chg.allocTimer = ms d.tst.power.allocOn s.dev.chg.allocTimer ∧
          d.chg.refreshTimer = ms d.tst.power.refresh s.dev.chg.refreshTimer ∧
          ∀ k, (d.mon k).pollTimer = ms d.tst.power.pollOn (s.dev.mon k).pollTimer) ∧
         (t = .fancurve → d = { stored with tfu := { s.dev.tfu with fans := d.tfu.fans } } ∧
          ∀ f, d.fan f = (if first ≤ (if f.ix then 1 else 0) ∧ (if f.ix then 1 else 0) < first + n ∧
              s.dev.fanFitted f = true then
            let x := s.dev.fan f
            let duty := if 0 < x.duty ∧ x.duty < (d.curve f).minStart then (d.curve f).minStart else x.duty
            { x with duty := duty }
            else s.dev.fan f)) ∧
         (t = .thermal →
          let follow (x : Source) : Source :=
            if x.cond = .failSafe then ⟨d.tst.thermal.failSafe, .failSafe⟩ else x
          d.tfu.die = s.dev.tfu.die.map follow ∧ d.tfu.skin = follow s.dev.tfu.skin ∧
          d.tfu.zone = nextZone d.tst.thermal d.tfu.skin s.dev.tfu.zone ∧
          (d.tfu.zone ≠ s.dev.tfu.zone → d.Raised 11 ∧ d.chg.headroom = d.headroom ∧
            (d.tfu.zone = 3 → (d.chp .a).current = 0 ∧ (d.chp .b).current = 0)) ∧
          s.dev.MarkActs d ∧
          d = { stored with
            tfu := { s.dev.tfu with
              die := d.tfu.die, skin := d.tfu.skin, zone := d.tfu.zone
              critical := d.tfu.critical, graceTimer := d.tfu.graceTimer }
            chg := d.chg, segs := d.segs, pli := d.pli, nsu := d.nsu } ∧
          (d.tfu.zone = s.dev.tfu.zone → d.chg = s.dev.chg ∧ d.segs = s.dev.segs ∧
            d.pli = stored.pli)) ∧
         (t = .settings →
          let old := s.dev.tst.settings
          let new := d.tst.settings
          d.ktu = (if old.fnLock = new.fnLock then s.dev.ktu
            else { s.dev.ktu with layer := layerOf s.dev.ktu.recs new.fnLock }) ∧
          (if old.ceilingEnable = new.ceilingEnable ∧ old.ceiling = new.ceiling then
            d = { stored with ktu := d.ktu }
          else d.chg.headroom = d.headroom ∧ d = { s.dev with
            tst := d.tst, ktu := d.ktu, chg := d.chg, segs := d.segs, pli := d.pli
            nsu := d.nsu }))) ∧
        d.profile = s.dev.profile ∧ d.pins = s.dev.pins ∧ d.ppu = s.dev.ppu ∧ d.wku = s.dev.wku)

/-- TABLE_LOCK (R169, R195): bit n − 1 of the two bytes locks table id n, a locked table stays locked, and
nothing else changes; a set beyond id 11, or another length, is answered BAD_REQUEST and locks nothing. -/
def Obligations.TableLockLocks : Prop :=
  ∀ (s : State) (i : Nat) (tag : Byte), s.dev.TakesInto i →
    (∀ lo hi : Byte, hi.toNat < 8 → s.dev.tst.locked.length = 11 →
      ∃ d, Ends (.tableLock tag [lo, hi]) s d ∧
        d = { s.dev.answered i 0 4 tag Status.ok.alone with
          tst := { s.dev.tst with locked := d.tst.locked } } ∧
        d.tst.locked.length = 11 ∧
        ∀ t : TableId, d.tst.isLocked t = (s.dev.tst.isLocked t ||
          (if t.id ≤ 8 then lo.getLsbD (t.id - 1) else hi.getLsbD (t.id - 9)))) ∧
    (∀ p : List Byte, p.length ≤ 60 → p.length ≠ 2 ∨ 8 ≤ byteAt p 1 →
      Ends (.tableLock tag p) s (s.dev.answered i 0 4 tag Status.badRequest.alone))

/-- The bytes of a table entry (R163 to R165, R197).  Read from sound tables, an entry has its table's entry size and
carries each field where R197 places it, with every other bit 0.  Written, each field is taken from that place: a number
takes the nearest end of its range, a code that is undefined its default, sleep_period a multiple of 8 ms below it, and
a band's high, the step, slew and shutdown SoC of POWER, the thresholds and fail-safe of THERMAL, a FILTER entry's
command last and the enable-in-OFF of POWER_BUTTON what R84, R85, R107, R152 and R130 say; nothing else changes, and
the write counts as adjusted exactly when the bytes written do not carry the fields stored, or a slew written above
4000 mA was taken to the end of its range and the minimum charge current brought it back (R85).  What is read and written
back is stored as it is.  That sleep_period stands in one byte in ms is the model's choice (log entry 44); that a
KEYMAP entry of an undefined kind keeps the wake mark written (log entry 43) and that a slew so brought back counts as
adjusted (log entry 47) are DEDUCED. -/
def Obligations.ReadEntriesWriteBack : Prop :=
  (∀ (t : TableId) (j : Nat) (a b : Tst), a.Sound → b.Sound → j < t.entries →
    (readEntry t j a).length = t.entrySize ∧
    Carries (readEntry t j a) (a.layout t j) ∧
    (∀ n, (∀ x ∈ a.layout t j, n < x.1 ∨ x.1 + x.2.1 ≤ n) → bitsAt (readEntry t j a) n 1 = 0) ∧
    (storeEntry t j (readEntry t j a) b).2 = false ∧
    readEntry t j (storeEntry t j (readEntry t j a) b).1 = readEntry t j a ∧
    (∀ u l, l < u.entries → u ≠ t ∨ l ≠ j →
      readEntry u l (storeEntry t j (readEntry t j a) b).1 = readEntry u l b) ∧
    ∀ bs, (storeEntry t j bs b).2 = true ↔
      ¬ Carries bs ((storeEntry t j bs b).1.layout t j) ∨ (t = .power ∧ 4000 < bitsAt bs 64 16)) ∧
  ∀ (s : Tst) (j : Nat) (bs : List Byte),
    let u (first size : Nat) : Nat := bitsAt bs (8 * first) (8 * size)
    let z (first size : Nat) : Int :=
      if 2 * u first size < 2 ^ (8 * size) then u first size else (u first size : Int) - 2 ^ (8 * size)
    let nat (lo hi x : Nat) : Nat := max lo (min hi x)
    let int (lo hi x : Int) : Int := max lo (min hi x)
    (storeEntry .scan j bs s).1 = { s with scan := {
      driveLines := nat 1 18 (u 0 1), senseLines := nat 1 8 (u 1 1)
      onPeriod := if u 2 1 < 5 then u 2 1 else 1, sleepPeriod := nat 8 64 (u 3 1) / 8 * 8
      pressCount := nat 1 15 (u 4 1), releaseCount := nat 1 15 (u 5 1)
      diodeMatrix := decide (u 6 1 = 1) } } ∧
    (storeEntry .keymap j bs s).1 = { s with keymap := s.keymap.set j {
      kind := match bitsAt bs 0 3 with
        | 0 => .noKey
        | 1 => .code (u 1 2)
        | 2 => .fn
        | 3 => if 1 ≤ u 1 1 ∧ u 1 1 ≤ 5 then .action (u 1 1) else .noKey
        | 4 => .transparent
        | _ => if j < 148 then .code (j + 1) else .transparent
      wakeMark := decide (bitsAt bs 7 1 = 1) } } ∧
    (let low (n : Nat) : Int := int (-20) 80 (z (16 + 5 * n) 1)
     (storeEntry .profile j bs s).1 = { s with profile := s.profile.set j {
      prechargeThreshold := nat 2000 3500 (u 0 2), prechargeCurrent := min 2000 (u 2 2)
      fastCurrent := min 8000 (u 4 2), chargeVoltage := nat 3000 4600 (u 6 2)
      terminationCurrent := min 1000 (u 8 2), topoffWindow := min 200 (u 10 1)
      rechargeSoc := nat 50 100 (u 11 1), ceilingHysteresis := nat 2 20 (u 12 1)
      fastChargeTime := nat 10 1440 (u 13 2), bandCount := nat 1 4 (u 15 1)
      bands := [0, 1, 2, 3].map fun n =>
        ⟨low n, max (low n) (int (-20) 80 (z (17 + 5 * n) 1)), min 100 (u (18 + 5 * n) 1),
          min 500 (u (19 + 5 * n) 2)⟩ } }) ∧
    (let least := nat 8 4000 (u 4 2)
     let step := nat 8 256 (u 6 2) / 8 * 8
     let slew := nat 8 4000 (u 8 2) / step * step
     let critical := min 50 (u 13 1)
     (storeEntry .power j bs s).1 = { s with power := {
      derate := nat 50 100 (u 0 1), guard := min 20000 (u 1 2), efficiency := nat 70 98 (u 3 1)
      minCurrent := least, step := step
      slew := if slew < least then (least + step - 1) / step * step else slew
      zone1Factor := min 100 (u 10 1), zone2Factor := min 100 (u 11 1), fanFaultFactor := min 100 (u 12 1)
      criticalSoc := critical, shutdownSoc := min critical (min 50 (u 14 1))
      batteryGrace := nat 10000 300000 (u 15 4), allocOn := nat 100 5000 (u 19 2)
      allocOther := nat 500 10000 (u 21 2), refresh := nat 1000 14000 (u 23 2)
      chargerAddress := ⟨min 127 (u 25 1), min 127 (u 26 1)⟩, cmdCurrent := u 27 1, cmdVoltage := u 28 1
      cmdInputVoltage := u 29 1, cmdSystemCurrent := u 30 1
      packAddress := ⟨min 127 (u 31 1), min 127 (u 32 1)⟩, pollOn := nat 100 5000 (u 33 2)
      pollOther := nat 1000 60000 (u 35 2), skinAddress := min 127 (u 37 1)
      powerUpTimeout := nat 100 10000 (u 38 2), powerDownTimeout := nat 100 10000 (u 40 2)
      restartOffTime := nat 100 10000 (u 42 2), overrideHold := nat 2000 10000 (u 44 2)
      buttonDebounce := nat 10 100 (u 46 1), lidFoldDebounce := nat 10 500 (u 47 2)
      adapterDebounce := nat 50 1000 (u 49 2) } }) ∧
    (storeEntry .adapter j bs s).1 = { s with adapter := s.adapter.set j (min 200000 (u 0 4)) } ∧
    (storeEntry .itemmap j bs s).1 = { s with itemmap := s.itemmap.set j (u 0 1) } ∧
    (storeEntry .fancurve j bs s).1 = { s with fancurve := s.fancurve.set (j == 1) {
      points := [0, 1, 2, 3, 4, 5, 6, 7].map fun n =>
        ⟨int (-40) 150 (z (3 * n) 2), min 100 (u (3 * n + 2) 1)⟩
      sources := bitsAt bs 192 7
      offsets := [0, 1, 2, 3, 4, 5, 6].map fun n => int (-30) 30 (z (25 + n) 1)
      hysteresis := min 20 (u 32 1), boostFloor := min 100 (u 33 1), closedCap := min 100 (u 34 1)
      heatAddition := min 50 (u 35 1), heatThreshold := min 8000 (u 36 2), minStart := nat 1 50 (u 38 1)
      decreaseStep := nat 1 100 (u 39 1), stallCheckDuty := nat 1 100 (u 40 1)
      stallSpeed := nat 100 10000 (u 42 2) } } ∧
    (let zone1 := nat 20 100 (u 0 1)
     let zone2 := max zone1 (nat 20 100 (u 1 1))
     let die := nat 60 150 (u 7 1)
     (storeEntry .thermal j bs s).1 = { s with thermal := {
      zone1 := zone1, zone2 := zone2, zone3 := max zone2 (nat 20 100 (u 2 1))
      zoneHysteresis := nat 1 10 (u 3 1), hostTimeout := nat 500 30000 (u 4 2)
      failSafe := min (die - 1) (nat 40 149 (u 6 1)), dieCritical := die
      skinCritical := nat 30 100 (u 8 1), criticalHysteresis := nat 1 20 (u 9 1)
      criticalGrace := nat 1000 60000 (u 10 2), skinCommand := u 12 1 } }) ∧
    (storeEntry .filter j bs s).1 = { s with filter := s.filter.set j {
      valid := decide (bitsAt bs 0 1 = 1), seg := if bitsAt bs 1 1 = 1 then .seg1 else .seg0
      access := match bitsAt bs 2 2 with | 1 => .write | 2 => .both | _ => .read
      action := match bitsAt bs 4 2 with | 0 => .pass | 2 => .shadow | _ => .deny
      address := min 127 (u 1 1), first := u 2 1, last := max (u 2 1) (u 3 1) } } ∧
    (storeEntry .wake j bs s).1 = { s with wake := s.wake.set j {
      inSleep := decide (bitsAt bs 0 1 = 1), inOff := decide (bitsAt bs 1 1 = 1 ∨ j = 0)
      deliver := decide (bitsAt bs 2 1 = 1) } } ∧
    (storeEntry .settings j bs s).1 = { s with settings := {
      ceilingEnable := decide (u 0 1 = 1), ceiling := nat 50 100 (u 1 1), boost := decide (u 2 1 = 1)
      fnLock := decide (u 3 1 = 1), noticeMask := BitVec.ofNat 16 (u 4 2)
      prioResponse := min 3 (u 6 1), prioKey := min 3 (u 7 1), prioNotice := min 3 (u 8 1)
      prioBattery := min 3 (u 9 1), prioThermal := min 3 (u 10 1) } }

/-! ## Chapter 10: the Platform Link -/

/-- A received frame is checked (R175, R176): with the right length and CRC, as TransmitterPicksHighestPriority states
it, it joins the tail of a receive queue that holds fewer than 6, else LINK_ERROR tells LENGTH, CRC or OVERFLOW and
the frame is gone; with the link DOWN nothing is taken.  The take of the head (R177, R178): with the link DOWN, the
queue empty, or no slot FREE for a frame that needs one, nothing happens; a frame on a channel the part does not
receive on, or of a kind not listed, takes a FREE slot and is answered UNSUPPORTED.  A listed request that may be
taken acts as its command acts on an empty receive queue, and the frames behind it then stand in the queue as they
did, the link being still UP.  That the slot is the lowest FREE one (log entry 9), and that a request command is the
arrival of its frame with that take when the queue was empty while FRAME_RECEIVED only appends (log entry 29), are the
model's choices. -/
def Obligations.FramesAreCheckedAndTaken : Prop :=
  ∀ s : State,
    let fails (c : LinkCause) : Dev :=
      { s.dev with nsu := s.dev.nsu.raise s.dev.tst.settings.noticeMask (.linkError c) }
    (s.dev.pli.linkUp = false → ∀ bytes, Ends (.frameReceived bytes) s s.dev) ∧
    (s.dev.pli.linkUp = true →
      (∀ bytes : List Byte, bytes.length < 4 ∨ 64 < bytes.length ∨ 60 < byteAt bytes 2 ∨
          bytes.length ≠ byteAt bytes 2 + 4 →
        Ends (.frameReceived bytes) s (fails .length)) ∧
      (∀ (b tag crc : Byte) (p : List Byte), p.length ≤ 60 →
        let body := b :: tag :: BitVec.ofNat 8 p.length :: p
        (crc ≠ crc8 body → Ends (.frameReceived (body ++ [crc])) s (fails .crc)) ∧
        (crc = crc8 body → s.dev.pli.rx.length < 6 →
          Ends (.frameReceived (body ++ [crc])) s { s.dev with pli := { s.dev.pli with
            rx := s.dev.pli.rx ++ [⟨b.toNat % 8, b.toNat / 8 % 16, tag, p⟩] } }) ∧
        (crc = crc8 body → 6 ≤ s.dev.pli.rx.length →
          Ends (.frameReceived (body ++ [crc])) s (fails .overflow)))) ∧
    (s.dev.pli.linkUp = false ∨ s.dev.pli.rx = [] → Ends .requestTake s s.dev) ∧
    (∀ f rest, s.dev.pli.linkUp = true → s.dev.pli.rx = f :: rest →
      ¬ (f.channel = 3 ∧ f.kind = 0) →
      ((∀ x ∈ s.dev.pli.slots, x.state ≠ .free) → Ends .requestTake s s.dev) ∧
      (∀ i, (∃ x, s.dev.pli.slots[i]? = some x ∧ x.state = .free) →
        (∀ j < i, ∀ x, s.dev.pli.slots[j]? = some x → x.state ≠ .free) →
        (f.channel ≠ 0 ∧ f.channel ≠ 4 ∧ f.channel ≠ 5) ∨ (f.channel = 0 ∧ 15 < f.kind) ∨
          ((f.channel = 4 ∨ f.channel = 5) ∧ 3 < f.kind) →
        Ends .requestTake s { s.dev with pli := { s.dev.pli with
          rx := rest
          slots := s.dev.pli.slots.set i
            ⟨.ready, f.channel, f.kind, f.tag, some Status.unsupported.alone⟩
          readyOrder := s.dev.pli.readyOrder ++ [i] } })) ∧
    (∀ (c : Instr) (f : Frame), frameOf c = some f → f.payload.length ≤ 60 →
      s.dev.pli.linkUp = true →
      (s.dev.pli.rx = [] → exec c s =
        exec .requestTake { s with dev := { s.dev with pli := { s.dev.pli with rx := [f] } } }) ∧
      (s.dev.pli.rx ≠ [] → s.dev.pli.rx.length < 6 → Ends c s { s.dev with
        pli := { s.dev.pli with rx := s.dev.pli.rx ++ [f] } }) ∧
      (∀ rest, s.dev.pli.rx = f :: rest → s.dev.HeadTakable →
        ∃ d : Dev, Ends c { s with dev := { s.dev with pli := { s.dev.pli with rx := [] } } } d ∧
          Ends .requestTake s (if d.pli.linkUp = true ∧ rest ≠ [] then
            { d with pli := { d.pli with rx := rest } } else d)))

/-- IDENTIFY and STATUS_READ (R21, R43, R87, R109, R181, R182, R191, R195, R196) are answered OK in the take event
with their items, and change nothing but for the pending summary, which the SUMMARY read empties.  BATTERY is 57
bytes, THERMAL 31, KEYBOARD 8, and each field of the records stands in the bits that R196 gives it.  That the critical
grace remaining is floored to whole ms is the model's choice (log entry 23), and so is that an unfitted fan 2 is sent
with the fields that it holds (log entry 31). -/
def Obligations.StatusIsRead : Prop :=
  (∀ (s : State) (i : Nat) (tag : Byte), s.dev.TakesInto i →
    Ends (.identify tag []) s (s.dev.answered i 0 0 tag ⟨.ok, false,
      [0xB4, 0x0A, 1,
        BitVec.ofNat 8 ((if s.dev.profile.twoPacks then 1 else 0) +
          (if s.dev.profile.twoFans then 2 else 0) + (if s.dev.profile.sideButtons then 4 else 0)),
        60, 6, 8, if s.dev.pli.powerOn then 1 else 0]⟩) ∧
    (∀ p : List Byte, p ≠ [] → p.length ≤ 60 →
      Ends (.identify tag p) s (s.dev.answered i 0 0 tag Status.badRequest.alone)) ∧
    Ends (.statusReadBattery tag) s (s.dev.answered i 0 12 tag ⟨.ok, false, batteryRecord s.dev⟩) ∧
    Ends (.statusReadThermal tag) s (s.dev.answered i 0 12 tag ⟨.ok, false, thermalRecord s.dev⟩) ∧
    Ends (.statusReadKeyboard tag) s (s.dev.answered i 0 12 tag ⟨.ok, false, keyboardRecord s.dev⟩) ∧
    Ends (.summaryRead tag) s { s.dev.answered i 0 12 tag ⟨.ok, false,
        [s.dev.nsu.summary.setWidth 8, (s.dev.nsu.summary >>> 8).setWidth 8]⟩ with
      nsu := { s.dev.nsu with summary := 0 } }) ∧
  ∀ d : Dev,
    let bit (b : Bool) : Nat := if b then 1 else 0
    let holds (bs : List Byte) (fields : List (Nat × Nat × Nat)) : Prop :=
      ∀ x ∈ fields, bitsAt bs x.1 x.2.1 = x.2.2 % 2 ^ x.2.1
    let word (x : Int) : Nat := (x % 65536).toNat
    (batteryRecord d).length = 57 ∧ (thermalRecord d).length = 31 ∧ (keyboardRecord d).length = 8 ∧
    holds ((batteryRecord d).take 11)
      [(0, 1, bit d.chg.adapter.isSome), (1, 1, bit (d.chg.vIn.isSome && d.chg.iSys.isSome)),
        (2, 1, bit (d.chg.inputFailures == 3 || d.chg.vIn.isNone || d.chg.iSys.isNone)),
        (3, 4, d.chg.adapter.getD 0), (7, 7, d.chg.systemSoc.getD 127),
        (14, 18, match d.chg.adapter with | none => 0 | some c => d.tst.adapter.getD c 0),
        (32, 18, d.chg.headroom), (50, 15, d.chg.vIn.getD 0), (65, 14, d.chg.iSys.getD 0), (79, 9, 0)] ∧
    (∀ k,
      let bs := ((batteryRecord d).drop (match k with | .a => 11 | .b => 34)).take 23
      let r := (d.mon k).record
      let c := d.chp k
      let stage := match c.stage with
        | .none => 0 | .precharge => 1 | .fast => 2 | .topoff => 3 | .full => 4 | .hold => 5
        | .inhibit => 6 | .fault => 7
      let state := match r.state with
        | .absent => 0 | .identifying => 1 | .ready => 2 | .commLost => 3 | .unsupported => 4
      holds bs [(0, 3, state), (3, 3, stage), (6, 2, r.failures), (8, 1, bit r.identity.isSome),
        (9, 1, bit r.telemetry.isSome), (12, 1, bit r.stale), (103, 16, r.age),
        (148, 10, c.current / 8), (158, 15, c.voltage), (173, 11, c.elapsedUs / 60000000)] ∧
      (∀ n, r.identity = some n → 1 ≤ n.cells →
        holds bs [(13, 2, n.cells - 1), (15, 2, n.chemistry), (22, 16, n.designCapacity)]) ∧
      (r.identity = none → holds bs [(13, 2, 0), (15, 2, 0), (22, 16, 0)]) ∧
      (∀ t, r.telemetry = some t →
        holds bs [(10, 1, bit t.reqCurrent.isSome), (11, 1, bit t.reqVoltage.isSome),
          (17, 1, bit t.status.empty), (18, 1, bit t.status.full), (19, 1, bit t.status.terminate),
          (20, 1, bit t.status.overTemp), (21, 1, bit t.status.overCharge), (38, 16, t.fullCapacity),
          (54, 15, t.voltage), (69, 15, word t.current), (84, 12, word t.temperature), (96, 7, t.soc),
          (119, 14, t.reqCurrent.getD 0), (133, 15, t.reqVoltage.getD 0)]) ∧
      (r.telemetry = none →
        holds bs [(10, 1, 0), (11, 1, 0), (17, 5, 0), (38, 16, 0), (54, 15, 0), (69, 15, 0), (84, 12, 0),
          (96, 7, 0), (119, 14, 0), (133, 15, 0)])) ∧
    (let r := thermalRecord d
     let t := d.tfu
     let cond (x : Source) : Nat := match x.cond with | .absent => 0 | .real => 1 | .failSafe => 2
     (∀ j x, j < 4 → t.die[j]? = some x →
        u16At r (2 * j) = word x.value ∧ bitsAt r (112 + 2 * j) 2 = cond x) ∧
     u16At r 8 = word t.skin.value ∧
     (∀ b, u16At r (if b then 12 else 10) = match t.pack.get b with
       | none => 0 | some x => word (max (-40) (min 150 x))) ∧
     holds r [(120, 2, cond t.skin), (122, 1, bit t.pack.one.isSome), (123, 1, bit t.pack.two.isSome),
       (124, 2, match t.hostTimer with | .stopped => 0 | .running _ => 1 | .expired => 2),
       (126, 1, bit t.critical), (128, 2, t.skinFailures), (130, 2, t.zone)] ∧
     u16At r 17 = (match t.graceTimer with | none => 65535 | some x => x.left / 1000 % 65536) ∧
     ∀ f,
      let o := if f.ix then 25 else 19
      let x := d.fan f
      byteAt r o = bit (d.fanFitted f) + 2 * bit x.fault ∧ u16At r (o + 1) = word x.eval ∧
        byteAt r (o + 3) = x.duty % 256 ∧ u16At r (o + 4) = x.lastRpm % 65536) ∧
    holds (keyboardRecord d)
      [(0, 2, match d.mse.scanState with | .gated => 0 | .baseline => 1 | .active => 2),
        (2, 1, bit d.mse.overrun), (3, 1, bit d.ktu.rollover), (4, 1, bit (d.ktu.restate != .idle)),
        (5, 2, match d.ktu.wakeKey with | none => 0 | some w => if w.release.isSome then 2 else 1), (7, 1, 0),
        (8, 8, d.mse.raw.length), (16, 8, (d.mse.recs.filter fun r => r.down).length),
        (24, 8, (d.mse.recs.filter fun r => r.suspect).length),
        (32, 8, (d.mse.recs.filter fun r => r.masked).length), (40, 8, d.ktu.layer),
        (48, 8, d.ktu.held.length), (56, 8, d.ktu.queue.length)]

/-- The transmit arbiter (R186, R187): with the link UP, the transmitter IDLE and TX_PERMIT asserted it picks,
of the sources that are not empty, the one with the highest priority, the first in the fixed order of equals,
takes its content and begins its frame; an unsolicited frame carries its source's sequence number, which rises
by one from 255 to 0; a response carries its request's channel and tag.  Otherwise only the line changes.  The bytes of
what is sent (R175, R195, R196): a frame is channel and kind, tag, payload length, payload and the CRC-8 of all these,
which takes each byte from its most significant bit, from 0 on, with x⁸ + x² + x + 1; a response is its status code with
CLAMPED in bit 7, and its data where it is OK; a key report, a notice and a status frame have the codes and fields of
R196, little-endian, a signed temperature in two's complement. -/
def Obligations.TransmitterPicksHighestPriority : Prop :=
  (∀ (channel kind : Nat) (tag : Byte) (p : List Byte), channel < 8 → kind < 16 →
    let body := BitVec.ofNat 8 (channel + 8 * kind) :: tag :: BitVec.ofNat 8 p.length :: p
    frameBytes channel kind tag p = body ++ [crc8 body]) ∧
  (crc8 [] = 0 ∧ ∀ (bs : List Byte) (b : Byte), crc8 (bs ++ [b]) =
    [7, 6, 5, 4, 3, 2, 1, 0].foldl (fun (c : Byte) n =>
      if c.getLsbD 7 = b.getLsbD n then c <<< 1 else (c <<< 1) ^^^ 0b00000111) (crc8 bs)) ∧
  (let bit (b : Bool) : Nat := if b then 1 else 0
   let half (x : Int) : List Nat := [(x % 256).toNat, (x / 256 % 256).toNat]
   let stage (x : Stage) : Nat :=
    [Stage.none, .precharge, .fast, .topoff, .full, .hold, .inhibit, .fault].idxOf x
   let pack (k : Pack) : Nat := [Pack.a, .b].idxOf k
   let posture (x : Posture) : Nat := [Posture.unknown, .opened, .tablet, .closed].idxOf x
   (∀ r : Response, r.bytes.map BitVec.toNat =
      ([Status.ok, .busy, .locked, .stale, .badRequest, .unsupported, .denied, .absent, .addrNack, .dataNack,
        .timeout, .segReset, .segFault].idxOf r.status + 128 * bit r.clamped) ::
      (if r.status = .ok then r.data.map BitVec.toNat else [])) ∧
   (∀ r : KeyReport, r.bytes = [r.code, r.code / 256,
      bit r.release + 2 * bit r.synthesized + 4 * bit r.rollover].map (BitVec.ofNat 8)) ∧
   (∀ f : StatusFrame, f.bytes = [f.remaining, f.remaining / 256,
      bit f.skipped + 2 * bit f.half + 4 * bit f.complete].map (BitVec.ofNat 8) ++ f.record) ∧
   ∀ n : Notice, n.bytes = (match n with
      | .linkUp w c p => [0,
        match w with
          | none => 255
          | some x => [WakeSource.powerButton, .lidOpen, .key, .sideButton, .adapterChange, .batteryCritical,
            .wakeLine].idxOf x,
        [Cause.none, .hostRequest, .buttonOverride, .thermal, .battery].idxOf c, bit p]
      | .linkError c => [1, [LinkCause.length, .crc, .overflow].idxOf c]
      | .keyOverrun => [2]
      | .actionLocked a => [3, a]
      | .button sleep => [4, bit sleep]
      | .posture old new => [5, posture old, posture new]
      | .packChange k x => [6, pack k,
        [PackState.absent, .identifying, .ready, .commLost, .unsupported].idxOf x]
      | .chargeStage k old new => [7, pack k, stage old, stage new]
      | .adapterChange present cls w => [8, bit present, cls, w, w / 256, w / 65536, w / 16777216]
      | .batteryCritical soc => [9, soc]
      | .fanFault f fault => [10, [Fan.fan1, .fan2].idxOf f, bit fault]
      | .thermalZone old new x => [11, old, new] ++ half x
      | .thermalCritical source x => [12, source] ++ half x
      | .thermalInputLost skin => [13, bit skin]
      | .segmentEvent g x => [14, [Seg.seg0, .seg1].idxOf g, [SegEvent.fault, .recovered, .seqTimeout].idxOf x]
      | .settingsChanged field v => [15, field, bit v]).map (BitVec.ofNat 8)) ∧
  ∀ (s : State) (permit : Bool),
    let pins := { s.dev.pins with txPermit := permit }
    let level := s.dev.tst.settings.level
    ((∀ j, level (.response j) = s.dev.tst.settings.prioResponse) ∧
      level .key = s.dev.tst.settings.prioKey ∧ level .notice = s.dev.tst.settings.prioNotice ∧
      level .battery = s.dev.tst.settings.prioBattery ∧ level .thermal = s.dev.tst.settings.prioThermal) ∧
    (s.dev.offers = s.dev.pli.readyOrder.head?.toList.map TxSource.response ++
      ([(TxSource.key, decide (s.dev.ktu.queue ≠ [])), (.notice, decide (s.dev.nsu.queue ≠ [])),
        (.battery, (s.dev.stream .battery).slot.isSome), (.thermal, (s.dev.stream .thermal).slot.isSome)].filter
        fun x => x.2).map Prod.fst) ∧
    (s.dev.pli.linkUp = false ∨ s.dev.pli.tx ≠ none ∨ permit = false ∨ s.dev.offers = [] →
      Ends (.transmitChoice permit) s { s.dev with pins := pins }) ∧
    (s.dev.pli.linkUp = true → s.dev.pli.tx = none → permit = true → s.dev.offers ≠ [] →
      ∃ d x before after, Ends (.transmitChoice permit) s d ∧
        s.dev.offers = before ++ x :: after ∧
        (∀ y ∈ before, s.dev.tst.settings.level y < s.dev.tst.settings.level x) ∧
        (∀ y ∈ after, s.dev.tst.settings.level y ≤ s.dev.tst.settings.level x) ∧
        (∀ j c n tag r, x = .response j →
          s.dev.pli.slots[j]? = some ⟨.ready, c, n, tag, some r⟩ →
          d = { s.dev with
            pins := pins
            pli := { s.dev.pli with
              slots := s.dev.pli.slots.set j ⟨.sending, c, n, tag, some r⟩
              readyOrder := s.dev.pli.readyOrder.tail
              tx := some ⟨.response j, frameBytes c 0 tag r.bytes⟩ } }) ∧
        (x = .key → d = { s.dev with
          pins := pins, ktu := { s.dev.ktu with queue := s.dev.ktu.queue.drop 8 }
          pli := { s.dev.pli with
            seqKey := (s.dev.pli.seqKey + 1) % 256
            tx := some ⟨.key, frameBytes 1 1 (BitVec.ofNat 8 s.dev.pli.seqKey)
              ((s.dev.ktu.queue.take 8).map KeyReport.bytes).flatten⟩ } }) ∧
        (∀ n rest, x = .notice → s.dev.nsu.queue = n :: rest → d = { s.dev with
          pins := pins, nsu := { s.dev.nsu with queue := rest }
          pli := { s.dev.pli with
            seqNotice := (s.dev.pli.seqNotice + 1) % 256
            tx := some ⟨.notice, frameBytes 6 4 (BitVec.ofNat 8 s.dev.pli.seqNotice)
              n.bytes⟩ } }) ∧
        (∀ f, x = .battery → (s.dev.stream .battery).slot = some f → d = { s.dev with
          pins := pins
          nsu := { s.dev.nsu with streams :=
            { s.dev.nsu.streams with one := { s.dev.stream .battery with slot := none } } }
          pli := { s.dev.pli with
            seqBattery := (s.dev.pli.seqBattery + 1) % 256
            tx := some ⟨.battery, frameBytes 2 2 (BitVec.ofNat 8 s.dev.pli.seqBattery)
              f.bytes⟩ } }) ∧
        (∀ f, x = .thermal → (s.dev.stream .thermal).slot = some f → d = { s.dev with
          pins := pins
          nsu := { s.dev.nsu with streams :=
            { s.dev.nsu.streams with two := { s.dev.stream .thermal with slot := none } } }
          pli := { s.dev.pli with
            seqThermal := (s.dev.pli.seqThermal + 1) % 256
            tx := some ⟨.thermal, frameBytes 3 3 (BitVec.ofNat 8 s.dev.pli.seqThermal)
              f.bytes⟩ } }))

/-- The end of a sent frame (R121 to R123, R180, R182): the transmitter is IDLE and a response's slot FREE.  The
send of the OK to an accepted POWER_REQUEST carries it out: SLEEP enters SLEEP_ENTRY with no cause recorded, OFF
and RESTART power down with HOST_REQUEST, RESTART with a restart pending; every block takes the change of power state
(R116) and the link goes DOWN (R183).  Before it does, requests that wait and may be taken, the first into the freed
slot, may have been taken or not: either may be first, which a free value decides (log entry 37), so that none, some or
all of those that may be taken have acted on the part that goes down, their answers discarded.  The send of an IDENTIFY
answer that carried the power-on flag clears it. -/
def Obligations.SentResponseIsActedOn : Prop :=
  ∀ (s : State) (bytes : List Byte),
    (∀ x, x = .key ∨ x = .notice ∨ x = .battery ∨ x = .thermal → s.dev.pli.tx = some ⟨x, bytes⟩ →
      Ends .frameSent s { s.dev with pli := { s.dev.pli with tx := none } }) ∧
    (∀ j c n tag r, s.dev.pli.tx = some ⟨.response j, bytes⟩ →
      s.dev.pli.slots[j]? = some ⟨.sending, c, n, tag, some r⟩ →
      let freed : Pli := { s.dev.pli with
        tx := none, slots := s.dev.pli.slots.set j ⟨.free, 0, 0, 0, none⟩ }
      (c ≠ 0 ∨ r.status ≠ .ok ∨ (n ≠ 0 ∧ n ≠ 8) →
        Ends .frameSent s { s.dev with pli := freed }) ∧
      (c = 0 → n = 0 → r.status = .ok → Ends .frameSent s { s.dev with pli := { freed with
        powerOn := if r.data.getD 7 0 = 1 then false else freed.powerOn } }) ∧
      (c = 0 → n = 8 → r.status = .ok → s.dev.ppu.request = none →
        Ends .frameSent s { s.dev with pli := freed }) ∧
      (c = 0 → n = 8 → r.status = .ok → s.dev.ppu.request ≠ none → s.dev.pins.powerGood = true →
        ∃ m d : Dev, Dev.TakesTo 6 { s.dev with pli := freed } m ∧ Ends .frameSent s d ∧
          m.pins = s.dev.pins ∧ (s.dev.ppu.power = .on → m.ppu = s.dev.ppu) ∧
          (m.ppu.request = none → d = m) ∧
          ∀ v u, m.ppu.request = some (v, u) →
            let next : PowerState := if v = .sleep then .sleepEntry else .poweringDown
            d.ppu.request = none ∧ d.pli.linkUp = false ∧
            d.mainRail = false ∧ d.tst = m.tst ∧ d.pins = m.pins ∧ d.ppu.power = next ∧
            d.ppu.transition = some (Timer.ofMs m.tst.power.powerDownTimeout) ∧
            (v = .sleep → d.sleepRail = true ∧ d.wku = m.wku) ∧
            (v ≠ .sleep → d.sleepRail = false ∧
              d.ppu.cause = .hostRequest ∧ d.wku = { m.wku with lastCause := .hostRequest }) ∧
            d.ppu.restartPending = (v == .restart || m.ppu.restartPending) ∧
            m.Entered d next ∧ m.mse.Retimed d.mse (m.scanCalled next) ∧
            (m.pli.linkUp = true → m.LinkFell d)))

/-! ## Chapter 11: streams -/

/-- The status streams (R192, R193).  STREAM_START of a STOPPED stream sets period and count, each taken into
its range with CLAMPED, and the remaining count, and starts the timer; of a RUNNING one it is answered BUSY.
STREAM_STOP stops it and keeps a built frame.  Each expiry builds a frame with the remaining count after its
fall, HALF, COMPLETE, and SKIPPED when it replaces one; at 0 a ONCE stream stops and a CIRCULAR one reloads. -/
def Obligations.StreamsRun : Prop :=
  ∀ (x : StreamId) (s : State) (n : Byte), n = (match x with | .battery => 0 | .thermal => 1) →
    let put (y : Stream) : Nsu := { s.dev.nsu with streams := s.dev.nsu.streams.set x.ix y }
    let z := s.dev.stream x
    (∀ i tag, s.dev.TakesInto i →
      (∀ p0 p1 c0 c1 mode : Byte, mode = 0 ∨ mode = 1 →
        let period := p0.toNat + 256 * p1.toNat
        let count := c0.toNat + 256 * c1.toNat
        let ms := max 100 (min 60000 period)
        (z.running = true → Ends (.streamStart tag [n, p0, p1, c0, c1, mode]) s
          (s.dev.answered i 0 10 tag Status.busy.alone)) ∧
        (z.running = false → Ends (.streamStart tag [n, p0, p1, c0, c1, mode]) s
          { s.dev.answered i 0 10 tag
              ⟨.ok, decide (period < 100 ∨ 60000 < period ∨ count = 0), []⟩ with
            nsu := put { z with
              running := true, periodMs := ms, count := max 1 count, circular := decide (mode = 1)
              remaining := max 1 count, timer := some (Timer.ofMs ms) } })) ∧
      Ends (.streamStop tag [n]) s { s.dev.answered i 0 11 tag Status.ok.alone with
        nsu := put { z with running := false, timer := none } } ∧
      (∀ p : List Byte, p.length ≤ 60 → p.length ≠ 6 ∨ 1 < byteAt p 0 ∨ 1 < byteAt p 5 →
        Ends (.streamStart tag p) s (s.dev.answered i 0 10 tag Status.badRequest.alone)) ∧
      (∀ p : List Byte, p.length ≤ 60 → p.length ≠ 1 ∨ 1 < byteAt p 0 →
        Ends (.streamStop tag p) s (s.dev.answered i 0 11 tag Status.badRequest.alone))) ∧
    (z.running = true → 1 ≤ z.remaining →
      let left := z.remaining - 1
      let frame : StatusFrame := ⟨left, z.slot.isSome, decide (2 ≤ z.count ∧ left = z.count / 2),
        decide (left = 0),
        match x with | .battery => batteryRecord s.dev | .thermal => thermalRecord s.dev⟩
      Ends (.streamPeriodExpiry x) s { s.dev with
        nsu := put (if left = 0 ∧ z.circular = false then
          { z with slot := some frame, remaining := 0, running := false, timer := none }
        else { z with
          slot := some frame, remaining := if left = 0 then z.count else left
          timer := some (Timer.ofMs z.periodMs) }) })

/-! ## The whole machine -/

/-- The link is UP exactly while the state is ON and the platform reset released, and the queues of the link
keep to their places (R176, R179, R183): every step keeps it. -/
def Obligations.StepKeepsLink : Prop :=
  ∀ s t : State, s.dev.LinkInv → s.dev.PliInv → step s = .next t → t.dev.LinkInv ∧ t.dev.PliInv

/-- The notice queue holds one notice of each class at most, and the queues of the keyboard keep to their places
(R10, R12, R26, R34, R189): every step keeps it.  A block raises a notice under SETTINGS.notice_mask as it stands
(R189): the class joins the pending summary whatever the mask; a disabled class leaves the queue as it is; of an enabled
class a standing notice takes the new payload in its place, and otherwise the notice goes to the tail.  Nothing else
changes. -/
def Obligations.StepKeepsQueues : Prop :=
  (∀ s t : State, s.dev.LinkInv → s.dev.NoticeInv → s.dev.KeysInv → step s = .next t →
    t.dev.NoticeInv ∧ t.dev.KeysInv) ∧
  (∀ (n : Notice) (d : Dev),
    raise n d = { d with nsu := d.nsu.raise d.tst.settings.noticeMask n }) ∧
  ∀ (mask : BitVec 16) (n : Notice) (u : Nsu),
    let v := u.raise mask n
    v = { u with summary := v.summary, queue := v.queue } ∧
    (∀ j < 16, v.summary.getLsbD j = (u.summary.getLsbD j || decide (j = n.cls))) ∧
    (mask.getLsbD n.cls = false → v.queue = u.queue) ∧
    (mask.getLsbD n.cls = true →
      ((∀ m ∈ u.queue, m.cls ≠ n.cls) → v.queue = u.queue ++ [n]) ∧
      ∀ before m after, u.queue = before ++ m :: after → m.cls = n.cls →
        (∀ x ∈ before ++ after, x.cls ≠ n.cls) → v.queue = before ++ n :: after)

/-- The tables stay within the ranges of their chapters, whatever the hub writes (R165): every step keeps it. -/
def Obligations.StepKeepsTablesSound : Prop :=
  ∀ s t : State, s.dev.tst.Sound → step s = .next t → t.dev.tst.Sound

/-- No pack has a commanded current outside PRECHARGE, FAST and TOPOFF or in skin zone 3, nor a commanded
voltage without a current (R65, R68, R77): every step keeps it. -/
def Obligations.StepKeepsChargeSafe : Prop :=
  ∀ s t : State, s.dev.ChargeInv → step s = .next t → t.dev.ChargeInv

/-- A locked table keeps its content and its lock, and with the link DOWN no table changes, through every step
but a power-on reset; a platform reset alone unlocks (R169, R170, R173, R174). -/
def Obligations.LockedTablesKeepContent : Prop :=
  ∀ (s t : State) (u : TableId), (∀ straps rest, s.pending ≠ .powerOnReset straps :: rest) →
    step s = .next t → s.dev.tst.isLocked u = true ∨ s.dev.pli.linkUp = false →
    tableBytes u t.dev.tst = tableBytes u s.dev.tst ∧
      ((∀ rest, s.pending ≠ .platformResetAssert :: rest) → s.dev.tst.isLocked u = true →
        t.dev.tst.isLocked u = true)

/-- The state after reset meets what every step keeps. -/
def Obligations.ResetMeetsInvariants : Prop :=
  State.reset.dev.LinkInv ∧ State.reset.dev.PliInv ∧ State.reset.dev.NoticeInv ∧
    State.reset.dev.KeysInv ∧ State.reset.dev.tst.Sound ∧ State.reset.dev.ChargeInv
end

