-- ==== Sys2Proof/Laws/State.lean ====
section
/-!
SUPPORT. The small lemmas of the state: one per field per update, all by `rfl`, so that no later proof
unfolds a record update; and reading a member of a pair after replacing one.
-/

namespace Sys2Proof

/-! ## Pairs -/

@[simp] theorem Pair.get_set_self {α : Type} (p : Pair α) (i : Bool) (x : α) :
    (p.set i x).get i = x := by cases i <;> rfl

theorem Pair.get_set_other {α : Type} (p : Pair α) {i j : Bool} (x : α) (h : i ≠ j) :
    (p.set i x).get j = p.get j := by cases i <;> cases j <;> first | rfl | exact absurd rfl h

theorem Pair.get_set {α : Type} (p : Pair α) (i j : Bool) (x : α) :
    (p.set i x).get j = if i = j then x else p.get j := by cases i <;> cases j <;> rfl

@[simp] theorem Pair.set_set {α : Type} (p : Pair α) (i : Bool) (x y : α) :
    (p.set i x).set i y = p.set i y := by cases i <;> rfl

@[simp] theorem Pair.set_get {α : Type} (p : Pair α) (i : Bool) : p.set i (p.get i) = p := by
  cases i <;> rfl

@[simp] theorem Pack.ix_inj (j k : Pack) : j.ix = k.ix ↔ j = k := by cases j <;> cases k <;> decide

@[simp] theorem Seg.ix_inj (j k : Seg) : j.ix = k.ix ↔ j = k := by cases j <;> cases k <;> decide

@[simp] theorem Fan.ix_inj (j k : Fan) : j.ix = k.ix ↔ j = k := by cases j <;> cases k <;> decide

@[simp] theorem StreamId.ix_inj (j k : StreamId) : j.ix = k.ix ↔ j = k := by
  cases j <;> cases k <;> decide

end Sys2Proof

namespace Sys2Proof.Machine

/-! ## One block replaced -/

section SetPins
variable (d : Dev) (x y : Pins)

@[simp] theorem setPins_profile : (d.setPins x).profile = d.profile := rfl
@[simp] theorem setPins_draws : (d.setPins x).draws = d.draws := rfl
@[simp] theorem setPins_pins : (d.setPins x).pins = x := rfl
@[simp] theorem setPins_mse : (d.setPins x).mse = d.mse := rfl
@[simp] theorem setPins_ktu : (d.setPins x).ktu = d.ktu := rfl
@[simp] theorem setPins_pkm : (d.setPins x).pkm = d.pkm := rfl
@[simp] theorem setPins_chg : (d.setPins x).chg = d.chg := rfl
@[simp] theorem setPins_tfu : (d.setPins x).tfu = d.tfu := rfl
@[simp] theorem setPins_ppu : (d.setPins x).ppu = d.ppu := rfl
@[simp] theorem setPins_wku : (d.setPins x).wku = d.wku := rfl
@[simp] theorem setPins_segs : (d.setPins x).segs = d.segs := rfl
@[simp] theorem setPins_tst : (d.setPins x).tst = d.tst := rfl
@[simp] theorem setPins_pli : (d.setPins x).pli = d.pli := rfl
@[simp] theorem setPins_nsu : (d.setPins x).nsu = d.nsu := rfl
@[simp] theorem setPins_setPins : (d.setPins x).setPins y = d.setPins y := rfl
@[simp] theorem setPins_self : d.setPins d.pins = d := rfl

end SetPins

section SetMse
variable (d : Dev) (x y : Mse)

@[simp] theorem setMse_profile : (d.setMse x).profile = d.profile := rfl
@[simp] theorem setMse_draws : (d.setMse x).draws = d.draws := rfl
@[simp] theorem setMse_pins : (d.setMse x).pins = d.pins := rfl
@[simp] theorem setMse_mse : (d.setMse x).mse = x := rfl
@[simp] theorem setMse_ktu : (d.setMse x).ktu = d.ktu := rfl
@[simp] theorem setMse_pkm : (d.setMse x).pkm = d.pkm := rfl
@[simp] theorem setMse_chg : (d.setMse x).chg = d.chg := rfl
@[simp] theorem setMse_tfu : (d.setMse x).tfu = d.tfu := rfl
@[simp] theorem setMse_ppu : (d.setMse x).ppu = d.ppu := rfl
@[simp] theorem setMse_wku : (d.setMse x).wku = d.wku := rfl
@[simp] theorem setMse_segs : (d.setMse x).segs = d.segs := rfl
@[simp] theorem setMse_tst : (d.setMse x).tst = d.tst := rfl
@[simp] theorem setMse_pli : (d.setMse x).pli = d.pli := rfl
@[simp] theorem setMse_nsu : (d.setMse x).nsu = d.nsu := rfl
@[simp] theorem setMse_setMse : (d.setMse x).setMse y = d.setMse y := rfl
@[simp] theorem setMse_self : d.setMse d.mse = d := rfl

end SetMse

section SetKtu
variable (d : Dev) (x y : Ktu)

@[simp] theorem setKtu_profile : (d.setKtu x).profile = d.profile := rfl
@[simp] theorem setKtu_draws : (d.setKtu x).draws = d.draws := rfl
@[simp] theorem setKtu_pins : (d.setKtu x).pins = d.pins := rfl
@[simp] theorem setKtu_mse : (d.setKtu x).mse = d.mse := rfl
@[simp] theorem setKtu_ktu : (d.setKtu x).ktu = x := rfl
@[simp] theorem setKtu_pkm : (d.setKtu x).pkm = d.pkm := rfl
@[simp] theorem setKtu_chg : (d.setKtu x).chg = d.chg := rfl
@[simp] theorem setKtu_tfu : (d.setKtu x).tfu = d.tfu := rfl
@[simp] theorem setKtu_ppu : (d.setKtu x).ppu = d.ppu := rfl
@[simp] theorem setKtu_wku : (d.setKtu x).wku = d.wku := rfl
@[simp] theorem setKtu_segs : (d.setKtu x).segs = d.segs := rfl
@[simp] theorem setKtu_tst : (d.setKtu x).tst = d.tst := rfl
@[simp] theorem setKtu_pli : (d.setKtu x).pli = d.pli := rfl
@[simp] theorem setKtu_nsu : (d.setKtu x).nsu = d.nsu := rfl
@[simp] theorem setKtu_setKtu : (d.setKtu x).setKtu y = d.setKtu y := rfl
@[simp] theorem setKtu_self : d.setKtu d.ktu = d := rfl

end SetKtu

section SetPkm
variable (d : Dev) (x y : Pair PackMonitor)

@[simp] theorem setPkm_profile : (d.setPkm x).profile = d.profile := rfl
@[simp] theorem setPkm_draws : (d.setPkm x).draws = d.draws := rfl
@[simp] theorem setPkm_pins : (d.setPkm x).pins = d.pins := rfl
@[simp] theorem setPkm_mse : (d.setPkm x).mse = d.mse := rfl
@[simp] theorem setPkm_ktu : (d.setPkm x).ktu = d.ktu := rfl
@[simp] theorem setPkm_pkm : (d.setPkm x).pkm = x := rfl
@[simp] theorem setPkm_chg : (d.setPkm x).chg = d.chg := rfl
@[simp] theorem setPkm_tfu : (d.setPkm x).tfu = d.tfu := rfl
@[simp] theorem setPkm_ppu : (d.setPkm x).ppu = d.ppu := rfl
@[simp] theorem setPkm_wku : (d.setPkm x).wku = d.wku := rfl
@[simp] theorem setPkm_segs : (d.setPkm x).segs = d.segs := rfl
@[simp] theorem setPkm_tst : (d.setPkm x).tst = d.tst := rfl
@[simp] theorem setPkm_pli : (d.setPkm x).pli = d.pli := rfl
@[simp] theorem setPkm_nsu : (d.setPkm x).nsu = d.nsu := rfl
@[simp] theorem setPkm_setPkm : (d.setPkm x).setPkm y = d.setPkm y := rfl
@[simp] theorem setPkm_self : d.setPkm d.pkm = d := rfl

end SetPkm

section SetChg
variable (d : Dev) (x y : Chg)

@[simp] theorem setChg_profile : (d.setChg x).profile = d.profile := rfl
@[simp] theorem setChg_draws : (d.setChg x).draws = d.draws := rfl
@[simp] theorem setChg_pins : (d.setChg x).pins = d.pins := rfl
@[simp] theorem setChg_mse : (d.setChg x).mse = d.mse := rfl
@[simp] theorem setChg_ktu : (d.setChg x).ktu = d.ktu := rfl
@[simp] theorem setChg_pkm : (d.setChg x).pkm = d.pkm := rfl
@[simp] theorem setChg_chg : (d.setChg x).chg = x := rfl
@[simp] theorem setChg_tfu : (d.setChg x).tfu = d.tfu := rfl
@[simp] theorem setChg_ppu : (d.setChg x).ppu = d.ppu := rfl
@[simp] theorem setChg_wku : (d.setChg x).wku = d.wku := rfl
@[simp] theorem setChg_segs : (d.setChg x).segs = d.segs := rfl
@[simp] theorem setChg_tst : (d.setChg x).tst = d.tst := rfl
@[simp] theorem setChg_pli : (d.setChg x).pli = d.pli := rfl
@[simp] theorem setChg_nsu : (d.setChg x).nsu = d.nsu := rfl
@[simp] theorem setChg_setChg : (d.setChg x).setChg y = d.setChg y := rfl
@[simp] theorem setChg_self : d.setChg d.chg = d := rfl

end SetChg

section SetTfu
variable (d : Dev) (x y : Tfu)

@[simp] theorem setTfu_profile : (d.setTfu x).profile = d.profile := rfl
@[simp] theorem setTfu_draws : (d.setTfu x).draws = d.draws := rfl
@[simp] theorem setTfu_pins : (d.setTfu x).pins = d.pins := rfl
@[simp] theorem setTfu_mse : (d.setTfu x).mse = d.mse := rfl
@[simp] theorem setTfu_ktu : (d.setTfu x).ktu = d.ktu := rfl
@[simp] theorem setTfu_pkm : (d.setTfu x).pkm = d.pkm := rfl
@[simp] theorem setTfu_chg : (d.setTfu x).chg = d.chg := rfl
@[simp] theorem setTfu_tfu : (d.setTfu x).tfu = x := rfl
@[simp] theorem setTfu_ppu : (d.setTfu x).ppu = d.ppu := rfl
@[simp] theorem setTfu_wku : (d.setTfu x).wku = d.wku := rfl
@[simp] theorem setTfu_segs : (d.setTfu x).segs = d.segs := rfl
@[simp] theorem setTfu_tst : (d.setTfu x).tst = d.tst := rfl
@[simp] theorem setTfu_pli : (d.setTfu x).pli = d.pli := rfl
@[simp] theorem setTfu_nsu : (d.setTfu x).nsu = d.nsu := rfl
@[simp] theorem setTfu_setTfu : (d.setTfu x).setTfu y = d.setTfu y := rfl
@[simp] theorem setTfu_self : d.setTfu d.tfu = d := rfl

end SetTfu

section SetPpu
variable (d : Dev) (x y : Ppu)

@[simp] theorem setPpu_profile : (d.setPpu x).profile = d.profile := rfl
@[simp] theorem setPpu_draws : (d.setPpu x).draws = d.draws := rfl
@[simp] theorem setPpu_pins : (d.setPpu x).pins = d.pins := rfl
@[simp] theorem setPpu_mse : (d.setPpu x).mse = d.mse := rfl
@[simp] theorem setPpu_ktu : (d.setPpu x).ktu = d.ktu := rfl
@[simp] theorem setPpu_pkm : (d.setPpu x).pkm = d.pkm := rfl
@[simp] theorem setPpu_chg : (d.setPpu x).chg = d.chg := rfl
@[simp] theorem setPpu_tfu : (d.setPpu x).tfu = d.tfu := rfl
@[simp] theorem setPpu_ppu : (d.setPpu x).ppu = x := rfl
@[simp] theorem setPpu_wku : (d.setPpu x).wku = d.wku := rfl
@[simp] theorem setPpu_segs : (d.setPpu x).segs = d.segs := rfl
@[simp] theorem setPpu_tst : (d.setPpu x).tst = d.tst := rfl
@[simp] theorem setPpu_pli : (d.setPpu x).pli = d.pli := rfl
@[simp] theorem setPpu_nsu : (d.setPpu x).nsu = d.nsu := rfl
@[simp] theorem setPpu_setPpu : (d.setPpu x).setPpu y = d.setPpu y := rfl
@[simp] theorem setPpu_self : d.setPpu d.ppu = d := rfl

end SetPpu

section SetWku
variable (d : Dev) (x y : Wku)

@[simp] theorem setWku_profile : (d.setWku x).profile = d.profile := rfl
@[simp] theorem setWku_draws : (d.setWku x).draws = d.draws := rfl
@[simp] theorem setWku_pins : (d.setWku x).pins = d.pins := rfl
@[simp] theorem setWku_mse : (d.setWku x).mse = d.mse := rfl
@[simp] theorem setWku_ktu : (d.setWku x).ktu = d.ktu := rfl
@[simp] theorem setWku_pkm : (d.setWku x).pkm = d.pkm := rfl
@[simp] theorem setWku_chg : (d.setWku x).chg = d.chg := rfl
@[simp] theorem setWku_tfu : (d.setWku x).tfu = d.tfu := rfl
@[simp] theorem setWku_ppu : (d.setWku x).ppu = d.ppu := rfl
@[simp] theorem setWku_wku : (d.setWku x).wku = x := rfl
@[simp] theorem setWku_segs : (d.setWku x).segs = d.segs := rfl
@[simp] theorem setWku_tst : (d.setWku x).tst = d.tst := rfl
@[simp] theorem setWku_pli : (d.setWku x).pli = d.pli := rfl
@[simp] theorem setWku_nsu : (d.setWku x).nsu = d.nsu := rfl
@[simp] theorem setWku_setWku : (d.setWku x).setWku y = d.setWku y := rfl
@[simp] theorem setWku_self : d.setWku d.wku = d := rfl

end SetWku

section SetSegs
variable (d : Dev) (x y : Pair Segment)

@[simp] theorem setSegs_profile : (d.setSegs x).profile = d.profile := rfl
@[simp] theorem setSegs_draws : (d.setSegs x).draws = d.draws := rfl
@[simp] theorem setSegs_pins : (d.setSegs x).pins = d.pins := rfl
@[simp] theorem setSegs_mse : (d.setSegs x).mse = d.mse := rfl
@[simp] theorem setSegs_ktu : (d.setSegs x).ktu = d.ktu := rfl
@[simp] theorem setSegs_pkm : (d.setSegs x).pkm = d.pkm := rfl
@[simp] theorem setSegs_chg : (d.setSegs x).chg = d.chg := rfl
@[simp] theorem setSegs_tfu : (d.setSegs x).tfu = d.tfu := rfl
@[simp] theorem setSegs_ppu : (d.setSegs x).ppu = d.ppu := rfl
@[simp] theorem setSegs_wku : (d.setSegs x).wku = d.wku := rfl
@[simp] theorem setSegs_segs : (d.setSegs x).segs = x := rfl
@[simp] theorem setSegs_tst : (d.setSegs x).tst = d.tst := rfl
@[simp] theorem setSegs_pli : (d.setSegs x).pli = d.pli := rfl
@[simp] theorem setSegs_nsu : (d.setSegs x).nsu = d.nsu := rfl
@[simp] theorem setSegs_setSegs : (d.setSegs x).setSegs y = d.setSegs y := rfl
@[simp] theorem setSegs_self : d.setSegs d.segs = d := rfl

end SetSegs

section SetTst
variable (d : Dev) (x y : Tst)

@[simp] theorem setTst_profile : (d.setTst x).profile = d.profile := rfl
@[simp] theorem setTst_draws : (d.setTst x).draws = d.draws := rfl
@[simp] theorem setTst_pins : (d.setTst x).pins = d.pins := rfl
@[simp] theorem setTst_mse : (d.setTst x).mse = d.mse := rfl
@[simp] theorem setTst_ktu : (d.setTst x).ktu = d.ktu := rfl
@[simp] theorem setTst_pkm : (d.setTst x).pkm = d.pkm := rfl
@[simp] theorem setTst_chg : (d.setTst x).chg = d.chg := rfl
@[simp] theorem setTst_tfu : (d.setTst x).tfu = d.tfu := rfl
@[simp] theorem setTst_ppu : (d.setTst x).ppu = d.ppu := rfl
@[simp] theorem setTst_wku : (d.setTst x).wku = d.wku := rfl
@[simp] theorem setTst_segs : (d.setTst x).segs = d.segs := rfl
@[simp] theorem setTst_tst : (d.setTst x).tst = x := rfl
@[simp] theorem setTst_pli : (d.setTst x).pli = d.pli := rfl
@[simp] theorem setTst_nsu : (d.setTst x).nsu = d.nsu := rfl
@[simp] theorem setTst_setTst : (d.setTst x).setTst y = d.setTst y := rfl
@[simp] theorem setTst_self : d.setTst d.tst = d := rfl

end SetTst

section SetPli
variable (d : Dev) (x y : Pli)

@[simp] theorem setPli_profile : (d.setPli x).profile = d.profile := rfl
@[simp] theorem setPli_draws : (d.setPli x).draws = d.draws := rfl
@[simp] theorem setPli_pins : (d.setPli x).pins = d.pins := rfl
@[simp] theorem setPli_mse : (d.setPli x).mse = d.mse := rfl
@[simp] theorem setPli_ktu : (d.setPli x).ktu = d.ktu := rfl
@[simp] theorem setPli_pkm : (d.setPli x).pkm = d.pkm := rfl
@[simp] theorem setPli_chg : (d.setPli x).chg = d.chg := rfl
@[simp] theorem setPli_tfu : (d.setPli x).tfu = d.tfu := rfl
@[simp] theorem setPli_ppu : (d.setPli x).ppu = d.ppu := rfl
@[simp] theorem setPli_wku : (d.setPli x).wku = d.wku := rfl
@[simp] theorem setPli_segs : (d.setPli x).segs = d.segs := rfl
@[simp] theorem setPli_tst : (d.setPli x).tst = d.tst := rfl
@[simp] theorem setPli_pli : (d.setPli x).pli = x := rfl
@[simp] theorem setPli_nsu : (d.setPli x).nsu = d.nsu := rfl
@[simp] theorem setPli_setPli : (d.setPli x).setPli y = d.setPli y := rfl
@[simp] theorem setPli_self : d.setPli d.pli = d := rfl

end SetPli

section SetNsu
variable (d : Dev) (x y : Nsu)

@[simp] theorem setNsu_profile : (d.setNsu x).profile = d.profile := rfl
@[simp] theorem setNsu_draws : (d.setNsu x).draws = d.draws := rfl
@[simp] theorem setNsu_pins : (d.setNsu x).pins = d.pins := rfl
@[simp] theorem setNsu_mse : (d.setNsu x).mse = d.mse := rfl
@[simp] theorem setNsu_ktu : (d.setNsu x).ktu = d.ktu := rfl
@[simp] theorem setNsu_pkm : (d.setNsu x).pkm = d.pkm := rfl
@[simp] theorem setNsu_chg : (d.setNsu x).chg = d.chg := rfl
@[simp] theorem setNsu_tfu : (d.setNsu x).tfu = d.tfu := rfl
@[simp] theorem setNsu_ppu : (d.setNsu x).ppu = d.ppu := rfl
@[simp] theorem setNsu_wku : (d.setNsu x).wku = d.wku := rfl
@[simp] theorem setNsu_segs : (d.setNsu x).segs = d.segs := rfl
@[simp] theorem setNsu_tst : (d.setNsu x).tst = d.tst := rfl
@[simp] theorem setNsu_pli : (d.setNsu x).pli = d.pli := rfl
@[simp] theorem setNsu_nsu : (d.setNsu x).nsu = x := rfl
@[simp] theorem setNsu_setNsu : (d.setNsu x).setNsu y = d.setNsu y := rfl
@[simp] theorem setNsu_self : d.setNsu d.nsu = d := rfl

end SetNsu

/-! ## One member of a pair replaced -/

section SetMon
variable (d : Dev) (k j : Pack) (x y : PackMonitor)

@[simp] theorem setMon_profile : (d.setMon k x).profile = d.profile := rfl
@[simp] theorem setMon_draws : (d.setMon k x).draws = d.draws := rfl
@[simp] theorem setMon_pins : (d.setMon k x).pins = d.pins := rfl
@[simp] theorem setMon_mse : (d.setMon k x).mse = d.mse := rfl
@[simp] theorem setMon_ktu : (d.setMon k x).ktu = d.ktu := rfl
@[simp] theorem setMon_chg : (d.setMon k x).chg = d.chg := rfl
@[simp] theorem setMon_tfu : (d.setMon k x).tfu = d.tfu := rfl
@[simp] theorem setMon_ppu : (d.setMon k x).ppu = d.ppu := rfl
@[simp] theorem setMon_wku : (d.setMon k x).wku = d.wku := rfl
@[simp] theorem setMon_segs : (d.setMon k x).segs = d.segs := rfl
@[simp] theorem setMon_tst : (d.setMon k x).tst = d.tst := rfl
@[simp] theorem setMon_pli : (d.setMon k x).pli = d.pli := rfl
@[simp] theorem setMon_nsu : (d.setMon k x).nsu = d.nsu := rfl
@[simp] theorem mon_setMon : (d.setMon k x).mon k = x := by simp [Dev.mon, Dev.setMon]
theorem mon_setMon_if : (d.setMon k x).mon j = if k = j then x else d.mon j := by
  simp [Dev.mon, Dev.setMon, Pair.get_set]
@[simp] theorem setMon_setMon : (d.setMon k x).setMon k y = d.setMon k y := by
  simp [Dev.setMon]
@[simp] theorem setMon_pkm :
    (d.setMon k x).pkm = d.pkm.set k.ix x := rfl
@[simp] theorem setMon_self : d.setMon k (d.mon k) = d := by cases k <;> rfl

end SetMon

section SetChp
variable (d : Dev) (k j : Pack) (x y : ChargePack)

@[simp] theorem setChp_profile : (d.setChp k x).profile = d.profile := rfl
@[simp] theorem setChp_draws : (d.setChp k x).draws = d.draws := rfl
@[simp] theorem setChp_pins : (d.setChp k x).pins = d.pins := rfl
@[simp] theorem setChp_mse : (d.setChp k x).mse = d.mse := rfl
@[simp] theorem setChp_ktu : (d.setChp k x).ktu = d.ktu := rfl
@[simp] theorem setChp_pkm : (d.setChp k x).pkm = d.pkm := rfl
@[simp] theorem setChp_tfu : (d.setChp k x).tfu = d.tfu := rfl
@[simp] theorem setChp_ppu : (d.setChp k x).ppu = d.ppu := rfl
@[simp] theorem setChp_wku : (d.setChp k x).wku = d.wku := rfl
@[simp] theorem setChp_segs : (d.setChp k x).segs = d.segs := rfl
@[simp] theorem setChp_tst : (d.setChp k x).tst = d.tst := rfl
@[simp] theorem setChp_pli : (d.setChp k x).pli = d.pli := rfl
@[simp] theorem setChp_nsu : (d.setChp k x).nsu = d.nsu := rfl
@[simp] theorem chp_setChp : (d.setChp k x).chp k = x := by simp [Dev.chp, Dev.setChp]
theorem chp_setChp_if : (d.setChp k x).chp j = if k = j then x else d.chp j := by
  simp [Dev.chp, Dev.setChp, Pair.get_set]
@[simp] theorem setChp_setChp : (d.setChp k x).setChp k y = d.setChp k y := by
  simp [Dev.setChp]
@[simp] theorem setChp_chg :
    (d.setChp k x).chg = { d.chg with packs := d.chg.packs.set k.ix x } := rfl
@[simp] theorem setChp_self : d.setChp k (d.chp k) = d := by cases k <;> rfl

end SetChp

section SetSeg
variable (d : Dev) (k j : Seg) (x y : Segment)

@[simp] theorem setSeg_profile : (d.setSeg k x).profile = d.profile := rfl
@[simp] theorem setSeg_draws : (d.setSeg k x).draws = d.draws := rfl
@[simp] theorem setSeg_pins : (d.setSeg k x).pins = d.pins := rfl
@[simp] theorem setSeg_mse : (d.setSeg k x).mse = d.mse := rfl
@[simp] theorem setSeg_ktu : (d.setSeg k x).ktu = d.ktu := rfl
@[simp] theorem setSeg_pkm : (d.setSeg k x).pkm = d.pkm := rfl
@[simp] theorem setSeg_chg : (d.setSeg k x).chg = d.chg := rfl
@[simp] theorem setSeg_tfu : (d.setSeg k x).tfu = d.tfu := rfl
@[simp] theorem setSeg_ppu : (d.setSeg k x).ppu = d.ppu := rfl
@[simp] theorem setSeg_wku : (d.setSeg k x).wku = d.wku := rfl
@[simp] theorem setSeg_tst : (d.setSeg k x).tst = d.tst := rfl
@[simp] theorem setSeg_pli : (d.setSeg k x).pli = d.pli := rfl
@[simp] theorem setSeg_nsu : (d.setSeg k x).nsu = d.nsu := rfl
@[simp] theorem seg_setSeg : (d.setSeg k x).seg k = x := by simp [Dev.seg, Dev.setSeg]
theorem seg_setSeg_if : (d.setSeg k x).seg j = if k = j then x else d.seg j := by
  simp [Dev.seg, Dev.setSeg, Pair.get_set]
@[simp] theorem setSeg_setSeg : (d.setSeg k x).setSeg k y = d.setSeg k y := by
  simp [Dev.setSeg]
@[simp] theorem setSeg_segs :
    (d.setSeg k x).segs = d.segs.set k.ix x := rfl
@[simp] theorem setSeg_self : d.setSeg k (d.seg k) = d := by cases k <;> rfl

end SetSeg

section SetFan
variable (d : Dev) (k j : Fan) (x y : FanState)

@[simp] theorem setFan_profile : (d.setFan k x).profile = d.profile := rfl
@[simp] theorem setFan_draws : (d.setFan k x).draws = d.draws := rfl
@[simp] theorem setFan_pins : (d.setFan k x).pins = d.pins := rfl
@[simp] theorem setFan_mse : (d.setFan k x).mse = d.mse := rfl
@[simp] theorem setFan_ktu : (d.setFan k x).ktu = d.ktu := rfl
@[simp] theorem setFan_pkm : (d.setFan k x).pkm = d.pkm := rfl
@[simp] theorem setFan_chg : (d.setFan k x).chg = d.chg := rfl
@[simp] theorem setFan_ppu : (d.setFan k x).ppu = d.ppu := rfl
@[simp] theorem setFan_wku : (d.setFan k x).wku = d.wku := rfl
@[simp] theorem setFan_segs : (d.setFan k x).segs = d.segs := rfl
@[simp] theorem setFan_tst : (d.setFan k x).tst = d.tst := rfl
@[simp] theorem setFan_pli : (d.setFan k x).pli = d.pli := rfl
@[simp] theorem setFan_nsu : (d.setFan k x).nsu = d.nsu := rfl
@[simp] theorem fan_setFan : (d.setFan k x).fan k = x := by simp [Dev.fan, Dev.setFan]
theorem fan_setFan_if : (d.setFan k x).fan j = if k = j then x else d.fan j := by
  simp [Dev.fan, Dev.setFan, Pair.get_set]
@[simp] theorem setFan_setFan : (d.setFan k x).setFan k y = d.setFan k y := by
  simp [Dev.setFan]
@[simp] theorem setFan_tfu :
    (d.setFan k x).tfu = { d.tfu with fans := d.tfu.fans.set k.ix x } := rfl
@[simp] theorem setFan_self : d.setFan k (d.fan k) = d := by cases k <;> rfl

end SetFan

section SetStream
variable (d : Dev) (k j : StreamId) (x y : Stream)

@[simp] theorem setStream_profile : (d.setStream k x).profile = d.profile := rfl
@[simp] theorem setStream_draws : (d.setStream k x).draws = d.draws := rfl
@[simp] theorem setStream_pins : (d.setStream k x).pins = d.pins := rfl
@[simp] theorem setStream_mse : (d.setStream k x).mse = d.mse := rfl
@[simp] theorem setStream_ktu : (d.setStream k x).ktu = d.ktu := rfl
@[simp] theorem setStream_pkm : (d.setStream k x).pkm = d.pkm := rfl
@[simp] theorem setStream_chg : (d.setStream k x).chg = d.chg := rfl
@[simp] theorem setStream_tfu : (d.setStream k x).tfu = d.tfu := rfl
@[simp] theorem setStream_ppu : (d.setStream k x).ppu = d.ppu := rfl
@[simp] theorem setStream_wku : (d.setStream k x).wku = d.wku := rfl
@[simp] theorem setStream_segs : (d.setStream k x).segs = d.segs := rfl
@[simp] theorem setStream_tst : (d.setStream k x).tst = d.tst := rfl
@[simp] theorem setStream_pli : (d.setStream k x).pli = d.pli := rfl
@[simp] theorem stream_setStream :
    (d.setStream k x).stream k = x := by simp [Dev.stream, Dev.setStream]
theorem stream_setStream_if : (d.setStream k x).stream j = if k = j then x else d.stream j := by
  simp [Dev.stream, Dev.setStream, Pair.get_set]
@[simp] theorem setStream_setStream : (d.setStream k x).setStream k y = d.setStream k y := by
  simp [Dev.setStream]
@[simp] theorem setStream_nsu :
    (d.setStream k x).nsu = { d.nsu with streams := d.nsu.streams.set k.ix x } := rfl
@[simp] theorem setStream_self : d.setStream k (d.stream k) = d := by cases k <;> rfl

end SetStream

/-! ## A member read after another block was replaced -/

@[simp] theorem mon_setPins (d : Dev) (k : Pack) (x : Pins) : (d.setPins x).mon k = d.mon k := rfl
@[simp] theorem mon_setMse (d : Dev) (k : Pack) (x : Mse) : (d.setMse x).mon k = d.mon k := rfl
@[simp] theorem mon_setKtu (d : Dev) (k : Pack) (x : Ktu) : (d.setKtu x).mon k = d.mon k := rfl
@[simp] theorem mon_setChg (d : Dev) (k : Pack) (x : Chg) : (d.setChg x).mon k = d.mon k := rfl
@[simp] theorem mon_setTfu (d : Dev) (k : Pack) (x : Tfu) : (d.setTfu x).mon k = d.mon k := rfl
@[simp] theorem mon_setPpu (d : Dev) (k : Pack) (x : Ppu) : (d.setPpu x).mon k = d.mon k := rfl
@[simp] theorem mon_setWku (d : Dev) (k : Pack) (x : Wku) : (d.setWku x).mon k = d.mon k := rfl
@[simp] theorem mon_setSegs (d : Dev) (k : Pack) (x : Pair Segment) :
    (d.setSegs x).mon k = d.mon k := rfl
@[simp] theorem mon_setTst (d : Dev) (k : Pack) (x : Tst) : (d.setTst x).mon k = d.mon k := rfl
@[simp] theorem mon_setPli (d : Dev) (k : Pack) (x : Pli) : (d.setPli x).mon k = d.mon k := rfl
@[simp] theorem mon_setNsu (d : Dev) (k : Pack) (x : Nsu) : (d.setNsu x).mon k = d.mon k := rfl
@[simp] theorem mon_setChp (d : Dev) (k : Pack) (j : Pack) (x : ChargePack) :
    (d.setChp j x).mon k = d.mon k := rfl
@[simp] theorem mon_setSeg (d : Dev) (k : Pack) (j : Seg) (x : Segment) :
    (d.setSeg j x).mon k = d.mon k := rfl
@[simp] theorem mon_setFan (d : Dev) (k : Pack) (j : Fan) (x : FanState) :
    (d.setFan j x).mon k = d.mon k := rfl
@[simp] theorem mon_setStream (d : Dev) (k : Pack) (j : StreamId) (x : Stream) :
    (d.setStream j x).mon k = d.mon k := rfl
@[simp] theorem chp_setPins (d : Dev) (k : Pack) (x : Pins) : (d.setPins x).chp k = d.chp k := rfl
@[simp] theorem chp_setMse (d : Dev) (k : Pack) (x : Mse) : (d.setMse x).chp k = d.chp k := rfl
@[simp] theorem chp_setKtu (d : Dev) (k : Pack) (x : Ktu) : (d.setKtu x).chp k = d.chp k := rfl
@[simp] theorem chp_setPkm (d : Dev) (k : Pack) (x : Pair PackMonitor) :
    (d.setPkm x).chp k = d.chp k := rfl
@[simp] theorem chp_setTfu (d : Dev) (k : Pack) (x : Tfu) : (d.setTfu x).chp k = d.chp k := rfl
@[simp] theorem chp_setPpu (d : Dev) (k : Pack) (x : Ppu) : (d.setPpu x).chp k = d.chp k := rfl
@[simp] theorem chp_setWku (d : Dev) (k : Pack) (x : Wku) : (d.setWku x).chp k = d.chp k := rfl
@[simp] theorem chp_setSegs (d : Dev) (k : Pack) (x : Pair Segment) :
    (d.setSegs x).chp k = d.chp k := rfl
@[simp] theorem chp_setTst (d : Dev) (k : Pack) (x : Tst) : (d.setTst x).chp k = d.chp k := rfl
@[simp] theorem chp_setPli (d : Dev) (k : Pack) (x : Pli) : (d.setPli x).chp k = d.chp k := rfl
@[simp] theorem chp_setNsu (d : Dev) (k : Pack) (x : Nsu) : (d.setNsu x).chp k = d.chp k := rfl
@[simp] theorem chp_setMon (d : Dev) (k : Pack) (j : Pack) (x : PackMonitor) :
    (d.setMon j x).chp k = d.chp k := rfl
@[simp] theorem chp_setSeg (d : Dev) (k : Pack) (j : Seg) (x : Segment) :
    (d.setSeg j x).chp k = d.chp k := rfl
@[simp] theorem chp_setFan (d : Dev) (k : Pack) (j : Fan) (x : FanState) :
    (d.setFan j x).chp k = d.chp k := rfl
@[simp] theorem chp_setStream (d : Dev) (k : Pack) (j : StreamId) (x : Stream) :
    (d.setStream j x).chp k = d.chp k := rfl
@[simp] theorem seg_setPins (d : Dev) (k : Seg) (x : Pins) : (d.setPins x).seg k = d.seg k := rfl
@[simp] theorem seg_setMse (d : Dev) (k : Seg) (x : Mse) : (d.setMse x).seg k = d.seg k := rfl
@[simp] theorem seg_setKtu (d : Dev) (k : Seg) (x : Ktu) : (d.setKtu x).seg k = d.seg k := rfl
@[simp] theorem seg_setPkm (d : Dev) (k : Seg) (x : Pair PackMonitor) :
    (d.setPkm x).seg k = d.seg k := rfl
@[simp] theorem seg_setChg (d : Dev) (k : Seg) (x : Chg) : (d.setChg x).seg k = d.seg k := rfl
@[simp] theorem seg_setTfu (d : Dev) (k : Seg) (x : Tfu) : (d.setTfu x).seg k = d.seg k := rfl
@[simp] theorem seg_setPpu (d : Dev) (k : Seg) (x : Ppu) : (d.setPpu x).seg k = d.seg k := rfl
@[simp] theorem seg_setWku (d : Dev) (k : Seg) (x : Wku) : (d.setWku x).seg k = d.seg k := rfl
@[simp] theorem seg_setTst (d : Dev) (k : Seg) (x : Tst) : (d.setTst x).seg k = d.seg k := rfl
@[simp] theorem seg_setPli (d : Dev) (k : Seg) (x : Pli) : (d.setPli x).seg k = d.seg k := rfl
@[simp] theorem seg_setNsu (d : Dev) (k : Seg) (x : Nsu) : (d.setNsu x).seg k = d.seg k := rfl
@[simp] theorem seg_setMon (d : Dev) (k : Seg) (j : Pack) (x : PackMonitor) :
    (d.setMon j x).seg k = d.seg k := rfl
@[simp] theorem seg_setChp (d : Dev) (k : Seg) (j : Pack) (x : ChargePack) :
    (d.setChp j x).seg k = d.seg k := rfl
@[simp] theorem seg_setFan (d : Dev) (k : Seg) (j : Fan) (x : FanState) :
    (d.setFan j x).seg k = d.seg k := rfl
@[simp] theorem seg_setStream (d : Dev) (k : Seg) (j : StreamId) (x : Stream) :
    (d.setStream j x).seg k = d.seg k := rfl
@[simp] theorem fan_setPins (d : Dev) (k : Fan) (x : Pins) : (d.setPins x).fan k = d.fan k := rfl
@[simp] theorem fan_setMse (d : Dev) (k : Fan) (x : Mse) : (d.setMse x).fan k = d.fan k := rfl
@[simp] theorem fan_setKtu (d : Dev) (k : Fan) (x : Ktu) : (d.setKtu x).fan k = d.fan k := rfl
@[simp] theorem fan_setPkm (d : Dev) (k : Fan) (x : Pair PackMonitor) :
    (d.setPkm x).fan k = d.fan k := rfl
@[simp] theorem fan_setChg (d : Dev) (k : Fan) (x : Chg) : (d.setChg x).fan k = d.fan k := rfl
@[simp] theorem fan_setPpu (d : Dev) (k : Fan) (x : Ppu) : (d.setPpu x).fan k = d.fan k := rfl
@[simp] theorem fan_setWku (d : Dev) (k : Fan) (x : Wku) : (d.setWku x).fan k = d.fan k := rfl
@[simp] theorem fan_setSegs (d : Dev) (k : Fan) (x : Pair Segment) :
    (d.setSegs x).fan k = d.fan k := rfl
@[simp] theorem fan_setTst (d : Dev) (k : Fan) (x : Tst) : (d.setTst x).fan k = d.fan k := rfl
@[simp] theorem fan_setPli (d : Dev) (k : Fan) (x : Pli) : (d.setPli x).fan k = d.fan k := rfl
@[simp] theorem fan_setNsu (d : Dev) (k : Fan) (x : Nsu) : (d.setNsu x).fan k = d.fan k := rfl
@[simp] theorem fan_setMon (d : Dev) (k : Fan) (j : Pack) (x : PackMonitor) :
    (d.setMon j x).fan k = d.fan k := rfl
@[simp] theorem fan_setChp (d : Dev) (k : Fan) (j : Pack) (x : ChargePack) :
    (d.setChp j x).fan k = d.fan k := rfl
@[simp] theorem fan_setSeg (d : Dev) (k : Fan) (j : Seg) (x : Segment) :
    (d.setSeg j x).fan k = d.fan k := rfl
@[simp] theorem fan_setStream (d : Dev) (k : Fan) (j : StreamId) (x : Stream) :
    (d.setStream j x).fan k = d.fan k := rfl
@[simp] theorem stream_setPins (d : Dev) (k : StreamId) (x : Pins) :
    (d.setPins x).stream k = d.stream k := rfl
@[simp] theorem stream_setMse (d : Dev) (k : StreamId) (x : Mse) :
    (d.setMse x).stream k = d.stream k := rfl
@[simp] theorem stream_setKtu (d : Dev) (k : StreamId) (x : Ktu) :
    (d.setKtu x).stream k = d.stream k := rfl
@[simp] theorem stream_setPkm (d : Dev) (k : StreamId) (x : Pair PackMonitor) :
    (d.setPkm x).stream k = d.stream k := rfl
@[simp] theorem stream_setChg (d : Dev) (k : StreamId) (x : Chg) :
    (d.setChg x).stream k = d.stream k := rfl
@[simp] theorem stream_setTfu (d : Dev) (k : StreamId) (x : Tfu) :
    (d.setTfu x).stream k = d.stream k := rfl
@[simp] theorem stream_setPpu (d : Dev) (k : StreamId) (x : Ppu) :
    (d.setPpu x).stream k = d.stream k := rfl
@[simp] theorem stream_setWku (d : Dev) (k : StreamId) (x : Wku) :
    (d.setWku x).stream k = d.stream k := rfl
@[simp] theorem stream_setSegs (d : Dev) (k : StreamId) (x : Pair Segment) :
    (d.setSegs x).stream k = d.stream k := rfl
@[simp] theorem stream_setTst (d : Dev) (k : StreamId) (x : Tst) :
    (d.setTst x).stream k = d.stream k := rfl
@[simp] theorem stream_setPli (d : Dev) (k : StreamId) (x : Pli) :
    (d.setPli x).stream k = d.stream k := rfl
@[simp] theorem stream_setMon (d : Dev) (k : StreamId) (j : Pack) (x : PackMonitor) :
    (d.setMon j x).stream k = d.stream k := rfl
@[simp] theorem stream_setChp (d : Dev) (k : StreamId) (j : Pack) (x : ChargePack) :
    (d.setChp j x).stream k = d.stream k := rfl
@[simp] theorem stream_setSeg (d : Dev) (k : StreamId) (j : Seg) (x : Segment) :
    (d.setSeg j x).stream k = d.stream k := rfl
@[simp] theorem stream_setFan (d : Dev) (k : StreamId) (j : Fan) (x : FanState) :
    (d.setFan j x).stream k = d.stream k := rfl

/-! ## Commands -/

@[simp] theorem run_eq (s : State) (f : Dev → Dev) : s.run f = .next { s with dev := f s.dev } := rfl

end Sys2Proof.Machine
end

