-- ==== Sys2Proof/Laws/Frames.lean ====
section
/-!
SUPPORT. What the operations of the blocks leave unchanged, from the scan engine and the segments up to
the changes of power state: one lemma per operation, its unchanged blocks in one conjunction.
-/

namespace Sys2Proof.Machine

/-- A fold keeps what each of its steps keeps. -/
theorem foldl_frame {α β γ : Type} (p : β → γ) (f : β → α → β) (h : ∀ b a, p (f b a) = p b)
    (l : List α) (b : β) {c : γ} (hb : p b = c) : p (l.foldl f b) = c := by
  induction l generalizing b with
  | nil => exact hb
  | cons x xs ih => exact ih (f b x) ((h b x).trans hb)

/-- A built response leaves the link state as it is. -/
@[simp] theorem respond_linkUp (i : Nat) (r : Response) (p : Pli) :
    (p.respond i r).linkUp = p.linkUp := by
  simp only [Pli.respond]; split <;> rfl

@[simp] theorem raise_frame (n : Notice) (d : Dev) :
    (raise n d).draws = d.draws ∧ (raise n d).profile = d.profile ∧ (raise n d).pins = d.pins ∧ (raise n d).mse = d.mse ∧
    (raise n d).ktu = d.ktu ∧ (raise n d).pkm = d.pkm ∧ (raise n d).chg = d.chg ∧
    (raise n d).tfu = d.tfu ∧ (raise n d).ppu = d.ppu ∧ (raise n d).wku = d.wku ∧
    (raise n d).segs = d.segs ∧ (raise n d).tst = d.tst ∧ (raise n d).pli = d.pli := by
  unfold raise
  refine ⟨?_, ?_, ?_, ?_, ?_, ?_, ?_, ?_, ?_, ?_, ?_, ?_, ?_⟩ <;>
    rfl

@[simp] theorem answerWith_frame (i : Nat) (r : Response) (d : Dev) :
    (answerWith i r d).draws = d.draws ∧ (answerWith i r d).profile = d.profile ∧ (answerWith i r d).pins = d.pins ∧
    (answerWith i r d).mse = d.mse ∧ (answerWith i r d).ktu = d.ktu ∧
    (answerWith i r d).pkm = d.pkm ∧ (answerWith i r d).chg = d.chg ∧
    (answerWith i r d).tfu = d.tfu ∧ (answerWith i r d).ppu = d.ppu ∧
    (answerWith i r d).wku = d.wku ∧ (answerWith i r d).segs = d.segs ∧
    (answerWith i r d).tst = d.tst ∧ (answerWith i r d).nsu = d.nsu ∧
    (answerWith i r d).pli.linkUp = d.pli.linkUp := by
  simp [answerWith]

@[simp] theorem answer_frame (i : Nat) (st : Status) (d : Dev) :
    (answer i st d).draws = d.draws ∧ (answer i st d).profile = d.profile ∧ (answer i st d).pins = d.pins ∧
    (answer i st d).mse = d.mse ∧ (answer i st d).ktu = d.ktu ∧ (answer i st d).pkm = d.pkm ∧
    (answer i st d).chg = d.chg ∧ (answer i st d).tfu = d.tfu ∧ (answer i st d).ppu = d.ppu ∧
    (answer i st d).wku = d.wku ∧ (answer i st d).segs = d.segs ∧ (answer i st d).tst = d.tst ∧
    (answer i st d).nsu = d.nsu ∧ (answer i st d).pli.linkUp = d.pli.linkUp := by
  simp [answer]

@[simp] theorem answerData_frame (i : Nat) (data : List Byte) (d : Dev) :
    (answerData i data d).draws = d.draws ∧ (answerData i data d).profile = d.profile ∧ (answerData i data d).pins = d.pins ∧
    (answerData i data d).mse = d.mse ∧ (answerData i data d).ktu = d.ktu ∧
    (answerData i data d).pkm = d.pkm ∧ (answerData i data d).chg = d.chg ∧
    (answerData i data d).tfu = d.tfu ∧ (answerData i data d).ppu = d.ppu ∧
    (answerData i data d).wku = d.wku ∧ (answerData i data d).segs = d.segs ∧
    (answerData i data d).tst = d.tst ∧ (answerData i data d).nsu = d.nsu ∧
    (answerData i data d).pli.linkUp = d.pli.linkUp := by
  simp [answerData]

@[simp] theorem mseRetime_frame (d : Dev) :
    (mseRetime d).draws = d.draws ∧ (mseRetime d).profile = d.profile ∧ (mseRetime d).pins = d.pins ∧ (mseRetime d).ktu = d.ktu ∧
    (mseRetime d).pkm = d.pkm ∧ (mseRetime d).chg = d.chg ∧ (mseRetime d).tfu = d.tfu ∧
    (mseRetime d).ppu = d.ppu ∧ (mseRetime d).wku = d.wku ∧ (mseRetime d).segs = d.segs ∧
    (mseRetime d).tst = d.tst ∧ (mseRetime d).pli = d.pli ∧ (mseRetime d).nsu = d.nsu := by
  unfold mseRetime
  refine ⟨?_, ?_, ?_, ?_, ?_, ?_, ?_, ?_, ?_, ?_, ?_, ?_, ?_⟩ <;>
    rfl

@[simp] theorem removeRaw_frame (d : Dev) :
    (removeRaw d).draws = d.draws ∧ (removeRaw d).profile = d.profile ∧ (removeRaw d).pins = d.pins ∧ (removeRaw d).ktu = d.ktu ∧
    (removeRaw d).pkm = d.pkm ∧ (removeRaw d).chg = d.chg ∧ (removeRaw d).tfu = d.tfu ∧
    (removeRaw d).ppu = d.ppu ∧ (removeRaw d).wku = d.wku ∧ (removeRaw d).segs = d.segs ∧
    (removeRaw d).tst = d.tst ∧ (removeRaw d).pli = d.pli := by
  unfold removeRaw
  repeat' split
  all_goals simp

@[simp] theorem scanEvent_frame (raw : BitVec 148) (d : Dev) :
    (scanEvent raw d).draws = d.draws ∧ (scanEvent raw d).profile = d.profile ∧ (scanEvent raw d).ktu = d.ktu ∧
    (scanEvent raw d).pkm = d.pkm ∧ (scanEvent raw d).chg = d.chg ∧ (scanEvent raw d).tfu = d.tfu ∧
    (scanEvent raw d).ppu = d.ppu ∧ (scanEvent raw d).wku = d.wku ∧
    (scanEvent raw d).segs = d.segs ∧ (scanEvent raw d).tst = d.tst ∧
    (scanEvent raw d).pli = d.pli ∧ (scanEvent raw d).nsu = d.nsu := by
  unfold scanEvent
  repeat' split
  all_goals simp

@[simp] theorem grantSequence_frame (g : Seg) (d : Dev) :
    (grantSequence g d).draws = d.draws ∧ (grantSequence g d).profile = d.profile ∧ (grantSequence g d).pins = d.pins ∧
    (grantSequence g d).mse = d.mse ∧ (grantSequence g d).ktu = d.ktu ∧
    (grantSequence g d).pkm = d.pkm ∧ (grantSequence g d).chg = d.chg ∧
    (grantSequence g d).tfu = d.tfu ∧ (grantSequence g d).ppu = d.ppu ∧
    (grantSequence g d).wku = d.wku ∧ (grantSequence g d).tst = d.tst ∧
    (grantSequence g d).nsu = d.nsu ∧ (grantSequence g d).pli.linkUp = d.pli.linkUp := by
  unfold grantSequence
  repeat' split
  all_goals simp

@[simp] theorem takeTransaction_frame (g : Seg) (d : Dev) :
    (takeTransaction g d).draws = d.draws ∧ (takeTransaction g d).profile = d.profile ∧ (takeTransaction g d).pins = d.pins ∧
    (takeTransaction g d).mse = d.mse ∧ (takeTransaction g d).ktu = d.ktu ∧
    (takeTransaction g d).pkm = d.pkm ∧ (takeTransaction g d).chg = d.chg ∧
    (takeTransaction g d).tfu = d.tfu ∧ (takeTransaction g d).ppu = d.ppu ∧
    (takeTransaction g d).wku = d.wku ∧ (takeTransaction g d).tst = d.tst ∧
    (takeTransaction g d).pli = d.pli ∧ (takeTransaction g d).nsu = d.nsu := by
  unfold takeTransaction
  dsimp only
  refine ⟨?_, ?_, ?_, ?_, ?_, ?_, ?_, ?_, ?_, ?_, ?_, ?_, ?_⟩ <;>
    (repeat' split) <;> simp

@[simp] theorem arbitrate_frame (g : Seg) (d : Dev) :
    (arbitrate g d).draws = d.draws ∧ (arbitrate g d).profile = d.profile ∧ (arbitrate g d).pins = d.pins ∧
    (arbitrate g d).mse = d.mse ∧ (arbitrate g d).ktu = d.ktu ∧ (arbitrate g d).pkm = d.pkm ∧
    (arbitrate g d).chg = d.chg ∧ (arbitrate g d).tfu = d.tfu ∧ (arbitrate g d).ppu = d.ppu ∧
    (arbitrate g d).wku = d.wku ∧ (arbitrate g d).tst = d.tst ∧ (arbitrate g d).nsu = d.nsu ∧
    (arbitrate g d).pli.linkUp = d.pli.linkUp := by
  unfold arbitrate
  repeat' split
  all_goals simp

@[simp] theorem submit_frame (g : Seg) (t : Txn) (d : Dev) :
    (submit g t d).1.draws = d.draws ∧ (submit g t d).1.profile = d.profile ∧ (submit g t d).1.pins = d.pins ∧
    (submit g t d).1.mse = d.mse ∧ (submit g t d).1.ktu = d.ktu ∧ (submit g t d).1.pkm = d.pkm ∧
    (submit g t d).1.chg = d.chg ∧ (submit g t d).1.tfu = d.tfu ∧ (submit g t d).1.ppu = d.ppu ∧
    (submit g t d).1.wku = d.wku ∧ (submit g t d).1.tst = d.tst ∧ (submit g t d).1.nsu = d.nsu ∧
    (submit g t d).1.pli.linkUp = d.pli.linkUp := by
  unfold submit
  dsimp only
  refine ⟨?_, ?_, ?_, ?_, ?_, ?_, ?_, ?_, ?_, ?_, ?_, ?_, ?_⟩ <;>
    (repeat' split) <;> simp

@[simp] theorem endSequence_frame (g : Seg) (d : Dev) :
    (endSequence g d).draws = d.draws ∧ (endSequence g d).profile = d.profile ∧ (endSequence g d).pins = d.pins ∧
    (endSequence g d).mse = d.mse ∧ (endSequence g d).ktu = d.ktu ∧ (endSequence g d).pkm = d.pkm ∧
    (endSequence g d).chg = d.chg ∧ (endSequence g d).tfu = d.tfu ∧ (endSequence g d).ppu = d.ppu ∧
    (endSequence g d).wku = d.wku ∧ (endSequence g d).tst = d.tst ∧ (endSequence g d).pli = d.pli ∧
    (endSequence g d).nsu = d.nsu := by
  unfold endSequence
  refine ⟨?_, ?_, ?_, ?_, ?_, ?_, ?_, ?_, ?_, ?_, ?_, ?_, ?_⟩ <;>
    rfl

@[simp] theorem stopSequence_frame (g : Seg) (st : Status) (d : Dev) :
    (stopSequence g st d).draws = d.draws ∧ (stopSequence g st d).profile = d.profile ∧ (stopSequence g st d).pins = d.pins ∧
    (stopSequence g st d).mse = d.mse ∧ (stopSequence g st d).ktu = d.ktu ∧
    (stopSequence g st d).pkm = d.pkm ∧ (stopSequence g st d).chg = d.chg ∧
    (stopSequence g st d).tfu = d.tfu ∧ (stopSequence g st d).ppu = d.ppu ∧
    (stopSequence g st d).wku = d.wku ∧ (stopSequence g st d).tst = d.tst ∧
    (stopSequence g st d).nsu = d.nsu ∧ (stopSequence g st d).pli.linkUp = d.pli.linkUp := by
  unfold stopSequence
  repeat' split
  all_goals simp

@[simp] theorem answerDrains_frame (g : Seg) (d : Dev) :
    (answerDrains g d).draws = d.draws ∧ (answerDrains g d).profile = d.profile ∧ (answerDrains g d).pins = d.pins ∧
    (answerDrains g d).mse = d.mse ∧ (answerDrains g d).ktu = d.ktu ∧
    (answerDrains g d).pkm = d.pkm ∧ (answerDrains g d).chg = d.chg ∧
    (answerDrains g d).tfu = d.tfu ∧ (answerDrains g d).ppu = d.ppu ∧
    (answerDrains g d).wku = d.wku ∧ (answerDrains g d).tst = d.tst ∧
    (answerDrains g d).nsu = d.nsu ∧ (answerDrains g d).pli.linkUp = d.pli.linkUp := by
  unfold answerDrains
  refine ⟨?_, ?_, ?_, ?_, ?_, ?_, ?_, ?_, ?_, ?_, ?_, ?_, ?_⟩
  · exact foldl_frame (fun d : Dev => d.draws) _ (by intros; simp) _ _ rfl
  · exact foldl_frame (fun d : Dev => d.profile) _ (by intros; simp) _ _ rfl
  · exact foldl_frame (fun d : Dev => d.pins) _ (by intros; simp) _ _ rfl
  · exact foldl_frame (fun d : Dev => d.mse) _ (by intros; simp) _ _ rfl
  · exact foldl_frame (fun d : Dev => d.ktu) _ (by intros; simp) _ _ rfl
  · exact foldl_frame (fun d : Dev => d.pkm) _ (by intros; simp) _ _ rfl
  · exact foldl_frame (fun d : Dev => d.chg) _ (by intros; simp) _ _ rfl
  · exact foldl_frame (fun d : Dev => d.tfu) _ (by intros; simp) _ _ rfl
  · exact foldl_frame (fun d : Dev => d.ppu) _ (by intros; simp) _ _ rfl
  · exact foldl_frame (fun d : Dev => d.wku) _ (by intros; simp) _ _ rfl
  · exact foldl_frame (fun d : Dev => d.tst) _ (by intros; simp) _ _ rfl
  · exact foldl_frame (fun d : Dev => d.nsu) _ (by intros; simp) _ _ rfl
  · exact foldl_frame (fun d : Dev => d.pli.linkUp) _ (by intros; simp) _ _ rfl

@[simp] theorem drainCompleted_frame (g : Seg) (o : Nat) (d : Dev) :
    (drainCompleted g o d).draws = d.draws ∧ (drainCompleted g o d).profile = d.profile ∧ (drainCompleted g o d).pins = d.pins ∧
    (drainCompleted g o d).mse = d.mse ∧ (drainCompleted g o d).ktu = d.ktu ∧
    (drainCompleted g o d).pkm = d.pkm ∧ (drainCompleted g o d).chg = d.chg ∧
    (drainCompleted g o d).tfu = d.tfu ∧ (drainCompleted g o d).ppu = d.ppu ∧
    (drainCompleted g o d).wku = d.wku ∧ (drainCompleted g o d).tst = d.tst ∧
    (drainCompleted g o d).nsu = d.nsu ∧ (drainCompleted g o d).pli.linkUp = d.pli.linkUp := by
  simp [drainCompleted]

@[simp] theorem segLinkDown_frame (g : Seg) (d : Dev) :
    (segLinkDown g d).draws = d.draws ∧ (segLinkDown g d).profile = d.profile ∧ (segLinkDown g d).pins = d.pins ∧
    (segLinkDown g d).mse = d.mse ∧ (segLinkDown g d).ktu = d.ktu ∧ (segLinkDown g d).pkm = d.pkm ∧
    (segLinkDown g d).chg = d.chg ∧ (segLinkDown g d).tfu = d.tfu ∧ (segLinkDown g d).ppu = d.ppu ∧
    (segLinkDown g d).wku = d.wku ∧ (segLinkDown g d).tst = d.tst ∧ (segLinkDown g d).nsu = d.nsu ∧
    (segLinkDown g d).pli.linkUp = d.pli.linkUp := by
  simp [segLinkDown]

@[simp] theorem allocate_frame (d : Dev) :
    (allocate d).draws = d.draws ∧ (allocate d).profile = d.profile ∧ (allocate d).pins = d.pins ∧ (allocate d).mse = d.mse ∧
    (allocate d).ktu = d.ktu ∧ (allocate d).pkm = d.pkm ∧ (allocate d).tfu = d.tfu ∧
    (allocate d).ppu = d.ppu ∧ (allocate d).wku = d.wku ∧ (allocate d).segs = d.segs ∧
    (allocate d).tst = d.tst ∧ (allocate d).pli = d.pli ∧ (allocate d).nsu = d.nsu := by
  unfold allocate
  refine ⟨?_, ?_, ?_, ?_, ?_, ?_, ?_, ?_, ?_, ?_, ?_, ?_, ?_⟩ <;>
    rfl

@[simp] theorem stageChange_frame (k : Pack) (new : Stage) (d : Dev) :
    (stageChange k new d).draws = d.draws ∧ (stageChange k new d).profile = d.profile ∧ (stageChange k new d).pins = d.pins ∧
    (stageChange k new d).mse = d.mse ∧ (stageChange k new d).ktu = d.ktu ∧
    (stageChange k new d).pkm = d.pkm ∧ (stageChange k new d).tfu = d.tfu ∧
    (stageChange k new d).ppu = d.ppu ∧ (stageChange k new d).wku = d.wku ∧
    (stageChange k new d).segs = d.segs ∧ (stageChange k new d).tst = d.tst ∧
    (stageChange k new d).pli = d.pli := by
  unfold stageChange
  refine ⟨?_, ?_, ?_, ?_, ?_, ?_, ?_, ?_, ?_, ?_, ?_, ?_⟩ <;>
    rfl

@[simp] theorem setWriter_frame (k : Pack) (st : WriterState) (retry : Bool) (d : Dev) :
    (setWriter k st retry d).draws = d.draws ∧ (setWriter k st retry d).profile = d.profile ∧ (setWriter k st retry d).pins = d.pins ∧
    (setWriter k st retry d).mse = d.mse ∧ (setWriter k st retry d).ktu = d.ktu ∧
    (setWriter k st retry d).pkm = d.pkm ∧ (setWriter k st retry d).tfu = d.tfu ∧
    (setWriter k st retry d).ppu = d.ppu ∧ (setWriter k st retry d).wku = d.wku ∧
    (setWriter k st retry d).segs = d.segs ∧ (setWriter k st retry d).tst = d.tst ∧
    (setWriter k st retry d).pli = d.pli ∧ (setWriter k st retry d).nsu = d.nsu := by
  unfold setWriter
  refine ⟨?_, ?_, ?_, ?_, ?_, ?_, ?_, ?_, ?_, ?_, ?_, ?_, ?_⟩ <;>
    rfl

@[simp] theorem setAgain_frame (k : Pack) (b : Bool) (d : Dev) :
    (setAgain k b d).draws = d.draws ∧ (setAgain k b d).profile = d.profile ∧ (setAgain k b d).pins = d.pins ∧
    (setAgain k b d).mse = d.mse ∧ (setAgain k b d).ktu = d.ktu ∧ (setAgain k b d).pkm = d.pkm ∧
    (setAgain k b d).tfu = d.tfu ∧ (setAgain k b d).ppu = d.ppu ∧ (setAgain k b d).wku = d.wku ∧
    (setAgain k b d).segs = d.segs ∧ (setAgain k b d).tst = d.tst ∧ (setAgain k b d).pli = d.pli ∧
    (setAgain k b d).nsu = d.nsu := by
  unfold setAgain
  refine ⟨?_, ?_, ?_, ?_, ?_, ?_, ?_, ?_, ?_, ?_, ?_, ?_, ?_⟩ <;>
    rfl

@[simp] theorem passDead_frame (k : Pack) (d : Dev) :
    (passDead k d).1.draws = d.draws ∧ (passDead k d).1.profile = d.profile ∧ (passDead k d).1.pins = d.pins ∧
    (passDead k d).1.mse = d.mse ∧ (passDead k d).1.ktu = d.ktu ∧ (passDead k d).1.pkm = d.pkm ∧
    (passDead k d).1.tfu = d.tfu ∧ (passDead k d).1.ppu = d.ppu ∧ (passDead k d).1.wku = d.wku ∧
    (passDead k d).1.segs = d.segs ∧ (passDead k d).1.tst = d.tst ∧ (passDead k d).1.pli = d.pli ∧
    (passDead k d).1.nsu = d.nsu := by
  unfold passDead
  refine ⟨?_, ?_, ?_, ?_, ?_, ?_, ?_, ?_, ?_, ?_, ?_, ?_, ?_⟩ <;>
    rfl

@[simp] theorem issueWrite_frame (k : Pack) (volt : Bool) (retry : Bool) (d : Dev) :
    (issueWrite k volt retry d).1.draws = d.draws ∧ (issueWrite k volt retry d).1.profile = d.profile ∧
    (issueWrite k volt retry d).1.pins = d.pins ∧ (issueWrite k volt retry d).1.mse = d.mse ∧
    (issueWrite k volt retry d).1.ktu = d.ktu ∧ (issueWrite k volt retry d).1.pkm = d.pkm ∧
    (issueWrite k volt retry d).1.tfu = d.tfu ∧ (issueWrite k volt retry d).1.ppu = d.ppu ∧
    (issueWrite k volt retry d).1.wku = d.wku ∧ (issueWrite k volt retry d).1.tst = d.tst ∧
    (issueWrite k volt retry d).1.nsu = d.nsu ∧
    (issueWrite k volt retry d).1.pli.linkUp = d.pli.linkUp := by
  unfold issueWrite
  dsimp only
  refine ⟨?_, ?_, ?_, ?_, ?_, ?_, ?_, ?_, ?_, ?_, ?_, ?_⟩ <;>
    (repeat' split) <;> simp

@[simp] theorem startPass_frame (k : Pack) (d : Dev) :
    (startPass k d).1.draws = d.draws ∧ (startPass k d).1.profile = d.profile ∧ (startPass k d).1.pins = d.pins ∧
    (startPass k d).1.mse = d.mse ∧ (startPass k d).1.ktu = d.ktu ∧ (startPass k d).1.pkm = d.pkm ∧
    (startPass k d).1.tfu = d.tfu ∧ (startPass k d).1.ppu = d.ppu ∧ (startPass k d).1.wku = d.wku ∧
    (startPass k d).1.tst = d.tst ∧ (startPass k d).1.nsu = d.nsu ∧
    (startPass k d).1.pli.linkUp = d.pli.linkUp := by
  unfold startPass
  repeat' split
  all_goals simp

@[simp] theorem endPass_frame (k : Pack) (d : Dev) :
    (endPass k d).1.draws = d.draws ∧ (endPass k d).1.profile = d.profile ∧ (endPass k d).1.pins = d.pins ∧
    (endPass k d).1.mse = d.mse ∧ (endPass k d).1.ktu = d.ktu ∧ (endPass k d).1.pkm = d.pkm ∧
    (endPass k d).1.tfu = d.tfu ∧ (endPass k d).1.ppu = d.ppu ∧ (endPass k d).1.wku = d.wku ∧
    (endPass k d).1.tst = d.tst ∧ (endPass k d).1.nsu = d.nsu ∧
    (endPass k d).1.pli.linkUp = d.pli.linkUp := by
  unfold endPass
  dsimp only
  refine ⟨?_, ?_, ?_, ?_, ?_, ?_, ?_, ?_, ?_, ?_, ?_, ?_⟩ <;>
    (repeat' split) <;> simp

@[simp] theorem faultPack_frame (k : Pack) (d : Dev) :
    (faultPack k d).1.draws = d.draws ∧ (faultPack k d).1.profile = d.profile ∧ (faultPack k d).1.pins = d.pins ∧
    (faultPack k d).1.mse = d.mse ∧ (faultPack k d).1.ktu = d.ktu ∧ (faultPack k d).1.pkm = d.pkm ∧
    (faultPack k d).1.tfu = d.tfu ∧ (faultPack k d).1.ppu = d.ppu ∧ (faultPack k d).1.wku = d.wku ∧
    (faultPack k d).1.segs = d.segs ∧ (faultPack k d).1.tst = d.tst ∧
    (faultPack k d).1.pli = d.pli := by
  unfold faultPack
  refine ⟨?_, ?_, ?_, ?_, ?_, ?_, ?_, ?_, ?_, ?_, ?_, ?_⟩ <;>
    rfl

@[simp] theorem startPasses_frame (n : Nat) (ks : List Pack) (d : Dev) :
    (startPasses n ks d).draws = d.draws ∧ (startPasses n ks d).profile = d.profile ∧ (startPasses n ks d).pins = d.pins ∧
    (startPasses n ks d).mse = d.mse ∧ (startPasses n ks d).ktu = d.ktu ∧
    (startPasses n ks d).pkm = d.pkm ∧ (startPasses n ks d).tfu = d.tfu ∧
    (startPasses n ks d).ppu = d.ppu ∧ (startPasses n ks d).wku = d.wku ∧
    (startPasses n ks d).tst = d.tst ∧ (startPasses n ks d).pli.linkUp = d.pli.linkUp := by
  induction n generalizing ks d with
  | zero => cases ks <;> simp [startPasses]
  | succ n ih =>
    cases ks with
    | nil => simp [startPasses]
    | cons k ks => simp only [startPasses]; split <;> simp [ih]

@[simp] theorem writeChanged_frame (before : Dev) (after : Dev) :
    (writeChanged before after).draws = after.draws ∧
    (writeChanged before after).profile = after.profile ∧
    (writeChanged before after).pins = after.pins ∧ (writeChanged before after).mse = after.mse ∧
    (writeChanged before after).ktu = after.ktu ∧ (writeChanged before after).pkm = after.pkm ∧
    (writeChanged before after).tfu = after.tfu ∧ (writeChanged before after).ppu = after.ppu ∧
    (writeChanged before after).wku = after.wku ∧ (writeChanged before after).tst = after.tst ∧
    (writeChanged before after).pli.linkUp = after.pli.linkUp := by
  simp [writeChanged]

@[simp] theorem allocateAndWrite_frame (d : Dev) :
    (allocateAndWrite d).draws = d.draws ∧ (allocateAndWrite d).profile = d.profile ∧ (allocateAndWrite d).pins = d.pins ∧
    (allocateAndWrite d).mse = d.mse ∧ (allocateAndWrite d).ktu = d.ktu ∧
    (allocateAndWrite d).pkm = d.pkm ∧ (allocateAndWrite d).tfu = d.tfu ∧
    (allocateAndWrite d).ppu = d.ppu ∧ (allocateAndWrite d).wku = d.wku ∧
    (allocateAndWrite d).tst = d.tst ∧ (allocateAndWrite d).pli.linkUp = d.pli.linkUp := by
  simp [allocateAndWrite]

@[simp] theorem changeStage_frame (k : Pack) (new : Stage) (d : Dev) :
    (changeStage k new d).draws = d.draws ∧ (changeStage k new d).profile = d.profile ∧ (changeStage k new d).pins = d.pins ∧
    (changeStage k new d).mse = d.mse ∧ (changeStage k new d).ktu = d.ktu ∧
    (changeStage k new d).pkm = d.pkm ∧ (changeStage k new d).tfu = d.tfu ∧
    (changeStage k new d).ppu = d.ppu ∧ (changeStage k new d).wku = d.wku ∧
    (changeStage k new d).tst = d.tst ∧ (changeStage k new d).pli.linkUp = d.pli.linkUp := by
  simp [changeStage]

@[simp] theorem chargerCompleted_frame (k : Pack) (c : Completion) (d : Dev) :
    (chargerCompleted k c d).draws = d.draws ∧ (chargerCompleted k c d).profile = d.profile ∧ (chargerCompleted k c d).pins = d.pins ∧
    (chargerCompleted k c d).mse = d.mse ∧ (chargerCompleted k c d).ktu = d.ktu ∧
    (chargerCompleted k c d).pkm = d.pkm ∧ (chargerCompleted k c d).tfu = d.tfu ∧
    (chargerCompleted k c d).ppu = d.ppu ∧ (chargerCompleted k c d).wku = d.wku ∧
    (chargerCompleted k c d).tst = d.tst ∧ (chargerCompleted k c d).pli.linkUp = d.pli.linkUp := by
  unfold chargerCompleted settlePass
  dsimp only
  refine ⟨?_, ?_, ?_, ?_, ?_, ?_, ?_, ?_, ?_, ?_, ?_⟩ <;>
    ((repeat' split) <;> simp)

@[simp] theorem inputFailed_frame (d : Dev) :
    (inputFailed d).draws = d.draws ∧ (inputFailed d).profile = d.profile ∧ (inputFailed d).pins = d.pins ∧
    (inputFailed d).mse = d.mse ∧ (inputFailed d).ktu = d.ktu ∧ (inputFailed d).pkm = d.pkm ∧
    (inputFailed d).tfu = d.tfu ∧ (inputFailed d).ppu = d.ppu ∧ (inputFailed d).wku = d.wku ∧
    (inputFailed d).tst = d.tst ∧ (inputFailed d).pli.linkUp = d.pli.linkUp := by
  simp [inputFailed]

@[simp] theorem issueInput_frame (command : Nat) (st : InputReader) (d : Dev) :
    (issueInput command st d).draws = d.draws ∧ (issueInput command st d).profile = d.profile ∧ (issueInput command st d).pins = d.pins ∧
    (issueInput command st d).mse = d.mse ∧ (issueInput command st d).ktu = d.ktu ∧
    (issueInput command st d).pkm = d.pkm ∧ (issueInput command st d).tfu = d.tfu ∧
    (issueInput command st d).ppu = d.ppu ∧ (issueInput command st d).wku = d.wku ∧
    (issueInput command st d).tst = d.tst ∧
    (issueInput command st d).pli.linkUp = d.pli.linkUp := by
  unfold issueInput
  dsimp only
  refine ⟨?_, ?_, ?_, ?_, ?_, ?_, ?_, ?_, ?_, ?_, ?_⟩ <;>
    (repeat' split) <;> simp

@[simp] theorem inputCompleted_frame (c : Completion) (d : Dev) :
    (inputCompleted c d).draws = d.draws ∧ (inputCompleted c d).profile = d.profile ∧ (inputCompleted c d).pins = d.pins ∧
    (inputCompleted c d).mse = d.mse ∧ (inputCompleted c d).ktu = d.ktu ∧
    (inputCompleted c d).pkm = d.pkm ∧ (inputCompleted c d).tfu = d.tfu ∧
    (inputCompleted c d).ppu = d.ppu ∧ (inputCompleted c d).wku = d.wku ∧
    (inputCompleted c d).tst = d.tst ∧ (inputCompleted c d).pli.linkUp = d.pli.linkUp := by
  unfold inputCompleted
  repeat' split
  all_goals simp

@[simp] theorem sampleComplete_frame (k : Pack) (d : Dev) :
    (sampleComplete k d).draws = d.draws ∧ (sampleComplete k d).profile = d.profile ∧ (sampleComplete k d).pins = d.pins ∧
    (sampleComplete k d).mse = d.mse ∧ (sampleComplete k d).ktu = d.ktu ∧
    (sampleComplete k d).pkm = d.pkm ∧ (sampleComplete k d).tfu = d.tfu ∧
    (sampleComplete k d).ppu = d.ppu ∧ (sampleComplete k d).wku = d.wku ∧
    (sampleComplete k d).tst = d.tst ∧ (sampleComplete k d).pli.linkUp = d.pli.linkUp := by
  unfold sampleComplete
  dsimp only
  refine ⟨?_, ?_, ?_, ?_, ?_, ?_, ?_, ?_, ?_, ?_, ?_⟩ <;>
    (repeat' split) <;> simp

@[simp] theorem packGone_frame (k : Pack) (removal : Bool) (d : Dev) :
    (packGone k removal d).draws = d.draws ∧ (packGone k removal d).profile = d.profile ∧ (packGone k removal d).pins = d.pins ∧
    (packGone k removal d).mse = d.mse ∧ (packGone k removal d).ktu = d.ktu ∧
    (packGone k removal d).pkm = d.pkm ∧ (packGone k removal d).tfu = d.tfu ∧
    (packGone k removal d).ppu = d.ppu ∧ (packGone k removal d).wku = d.wku ∧
    (packGone k removal d).tst = d.tst ∧ (packGone k removal d).pli.linkUp = d.pli.linkUp := by
  unfold packGone
  dsimp only
  refine ⟨?_, ?_, ?_, ?_, ?_, ?_, ?_, ?_, ?_, ?_, ?_⟩ <;>
    (repeat' split) <;> simp

@[simp] theorem checkFastCharge_frame (k : Pack) (d : Dev) :
    (checkFastCharge k d).draws = d.draws ∧ (checkFastCharge k d).profile = d.profile ∧ (checkFastCharge k d).pins = d.pins ∧
    (checkFastCharge k d).mse = d.mse ∧ (checkFastCharge k d).ktu = d.ktu ∧
    (checkFastCharge k d).pkm = d.pkm ∧ (checkFastCharge k d).tfu = d.tfu ∧
    (checkFastCharge k d).ppu = d.ppu ∧ (checkFastCharge k d).wku = d.wku ∧
    (checkFastCharge k d).tst = d.tst ∧ (checkFastCharge k d).pli.linkUp = d.pli.linkUp := by
  unfold checkFastCharge
  repeat' split
  all_goals simp

@[simp] theorem watchCompute_frame (d : Dev) :
    (watchCompute d).draws = d.draws ∧ (watchCompute d).profile = d.profile ∧ (watchCompute d).pins = d.pins ∧
    (watchCompute d).mse = d.mse ∧ (watchCompute d).ktu = d.ktu ∧ (watchCompute d).pkm = d.pkm ∧
    (watchCompute d).tfu = d.tfu ∧ (watchCompute d).ppu = d.ppu ∧ (watchCompute d).wku = d.wku ∧
    (watchCompute d).segs = d.segs ∧ (watchCompute d).tst = d.tst ∧ (watchCompute d).pli = d.pli ∧
    (watchCompute d).nsu = d.nsu := by
  unfold watchCompute
  refine ⟨?_, ?_, ?_, ?_, ?_, ?_, ?_, ?_, ?_, ?_, ?_, ?_, ?_⟩ <;>
    rfl

@[simp] theorem batteryCrossing_frame (d : Dev) :
    (batteryCrossing d).draws = d.draws ∧ (batteryCrossing d).profile = d.profile ∧ (batteryCrossing d).pins = d.pins ∧
    (batteryCrossing d).mse = d.mse ∧ (batteryCrossing d).ktu = d.ktu ∧
    (batteryCrossing d).pkm = d.pkm ∧ (batteryCrossing d).tfu = d.tfu ∧
    (batteryCrossing d).ppu = d.ppu ∧ (batteryCrossing d).wku = d.wku ∧
    (batteryCrossing d).segs = d.segs ∧ (batteryCrossing d).tst = d.tst ∧
    (batteryCrossing d).pli = d.pli := by
  unfold batteryCrossing
  refine ⟨?_, ?_, ?_, ?_, ?_, ?_, ?_, ?_, ?_, ?_, ?_, ?_⟩ <;>
    rfl

@[simp] theorem stopBatteryGrace_frame (d : Dev) :
    (stopBatteryGrace d).draws = d.draws ∧ (stopBatteryGrace d).profile = d.profile ∧ (stopBatteryGrace d).pins = d.pins ∧
    (stopBatteryGrace d).mse = d.mse ∧ (stopBatteryGrace d).ktu = d.ktu ∧
    (stopBatteryGrace d).pkm = d.pkm ∧ (stopBatteryGrace d).tfu = d.tfu ∧
    (stopBatteryGrace d).ppu = d.ppu ∧ (stopBatteryGrace d).wku = d.wku ∧
    (stopBatteryGrace d).segs = d.segs ∧ (stopBatteryGrace d).tst = d.tst ∧
    (stopBatteryGrace d).pli = d.pli ∧ (stopBatteryGrace d).nsu = d.nsu := by
  unfold stopBatteryGrace
  refine ⟨?_, ?_, ?_, ?_, ?_, ?_, ?_, ?_, ?_, ?_, ?_, ?_, ?_⟩ <;>
    rfl

@[simp] theorem retimeAllocation_frame (d : Dev) :
    (retimeAllocation d).draws = d.draws ∧ (retimeAllocation d).profile = d.profile ∧ (retimeAllocation d).pins = d.pins ∧
    (retimeAllocation d).mse = d.mse ∧ (retimeAllocation d).ktu = d.ktu ∧
    (retimeAllocation d).pkm = d.pkm ∧ (retimeAllocation d).tfu = d.tfu ∧
    (retimeAllocation d).ppu = d.ppu ∧ (retimeAllocation d).wku = d.wku ∧
    (retimeAllocation d).segs = d.segs ∧ (retimeAllocation d).tst = d.tst ∧
    (retimeAllocation d).pli = d.pli ∧ (retimeAllocation d).nsu = d.nsu := by
  unfold retimeAllocation
  refine ⟨?_, ?_, ?_, ?_, ?_, ?_, ?_, ?_, ?_, ?_, ?_, ?_, ?_⟩ <;>
    rfl

@[simp] theorem retimeRefresh_frame (d : Dev) :
    (retimeRefresh d).draws = d.draws ∧ (retimeRefresh d).profile = d.profile ∧ (retimeRefresh d).pins = d.pins ∧
    (retimeRefresh d).mse = d.mse ∧ (retimeRefresh d).ktu = d.ktu ∧ (retimeRefresh d).pkm = d.pkm ∧
    (retimeRefresh d).tfu = d.tfu ∧ (retimeRefresh d).ppu = d.ppu ∧ (retimeRefresh d).wku = d.wku ∧
    (retimeRefresh d).segs = d.segs ∧ (retimeRefresh d).tst = d.tst ∧
    (retimeRefresh d).pli = d.pli ∧ (retimeRefresh d).nsu = d.nsu := by
  unfold retimeRefresh
  refine ⟨?_, ?_, ?_, ?_, ?_, ?_, ?_, ?_, ?_, ?_, ?_, ?_, ?_⟩ <;>
    rfl

@[simp] theorem chgPower_frame (d : Dev) :
    (chgPower d).draws = d.draws ∧ (chgPower d).profile = d.profile ∧ (chgPower d).pins = d.pins ∧ (chgPower d).mse = d.mse ∧
    (chgPower d).ktu = d.ktu ∧ (chgPower d).pkm = d.pkm ∧ (chgPower d).tfu = d.tfu ∧
    (chgPower d).ppu = d.ppu ∧ (chgPower d).wku = d.wku ∧ (chgPower d).segs = d.segs ∧
    (chgPower d).tst = d.tst ∧ (chgPower d).pli = d.pli := by
  unfold chgPower
  dsimp only
  refine ⟨?_, ?_, ?_, ?_, ?_, ?_, ?_, ?_, ?_, ?_, ?_, ?_⟩ <;>
    (repeat' split) <;> simp

@[simp] theorem zeroCommands_frame (d : Dev) :
    (zeroCommands d).draws = d.draws ∧ (zeroCommands d).profile = d.profile ∧ (zeroCommands d).pins = d.pins ∧
    (zeroCommands d).mse = d.mse ∧ (zeroCommands d).ktu = d.ktu ∧ (zeroCommands d).pkm = d.pkm ∧
    (zeroCommands d).tfu = d.tfu ∧ (zeroCommands d).ppu = d.ppu ∧ (zeroCommands d).wku = d.wku ∧
    (zeroCommands d).segs = d.segs ∧ (zeroCommands d).tst = d.tst ∧ (zeroCommands d).pli = d.pli ∧
    (zeroCommands d).nsu = d.nsu := by
  unfold zeroCommands
  refine ⟨?_, ?_, ?_, ?_, ?_, ?_, ?_, ?_, ?_, ?_, ?_, ?_, ?_⟩ <;>
    rfl

@[simp] theorem zoneChange_frame (new : Nat) (d : Dev) :
    (zoneChange new d).draws = d.draws ∧ (zoneChange new d).profile = d.profile ∧ (zoneChange new d).pins = d.pins ∧
    (zoneChange new d).mse = d.mse ∧ (zoneChange new d).ktu = d.ktu ∧
    (zoneChange new d).pkm = d.pkm ∧ (zoneChange new d).ppu = d.ppu ∧
    (zoneChange new d).wku = d.wku ∧ (zoneChange new d).tst = d.tst ∧
    (zoneChange new d).pli.linkUp = d.pli.linkUp := by
  unfold zoneChange
  repeat' split
  all_goals simp

@[simp] theorem evalZone_frame (d : Dev) :
    (evalZone d).draws = d.draws ∧ (evalZone d).profile = d.profile ∧ (evalZone d).pins = d.pins ∧ (evalZone d).mse = d.mse ∧
    (evalZone d).ktu = d.ktu ∧ (evalZone d).pkm = d.pkm ∧ (evalZone d).ppu = d.ppu ∧
    (evalZone d).wku = d.wku ∧ (evalZone d).tst = d.tst ∧
    (evalZone d).pli.linkUp = d.pli.linkUp := by
  unfold evalZone
  dsimp only
  refine ⟨?_, ?_, ?_, ?_, ?_, ?_, ?_, ?_, ?_, ?_⟩ <;>
    (repeat' split) <;> simp

@[simp] theorem raiseCritical_frame (d : Dev) :
    (raiseCritical d).draws = d.draws ∧ (raiseCritical d).profile = d.profile ∧ (raiseCritical d).pins = d.pins ∧
    (raiseCritical d).mse = d.mse ∧ (raiseCritical d).ktu = d.ktu ∧ (raiseCritical d).pkm = d.pkm ∧
    (raiseCritical d).chg = d.chg ∧ (raiseCritical d).tfu = d.tfu ∧ (raiseCritical d).ppu = d.ppu ∧
    (raiseCritical d).wku = d.wku ∧ (raiseCritical d).segs = d.segs ∧
    (raiseCritical d).tst = d.tst ∧ (raiseCritical d).pli = d.pli := by
  unfold raiseCritical
  refine ⟨?_, ?_, ?_, ?_, ?_, ?_, ?_, ?_, ?_, ?_, ?_, ?_, ?_⟩ <;>
    rfl

@[simp] theorem criticalCrossing_frame (d : Dev) :
    (criticalCrossing d).draws = d.draws ∧ (criticalCrossing d).profile = d.profile ∧ (criticalCrossing d).pins = d.pins ∧
    (criticalCrossing d).mse = d.mse ∧ (criticalCrossing d).ktu = d.ktu ∧
    (criticalCrossing d).pkm = d.pkm ∧ (criticalCrossing d).chg = d.chg ∧
    (criticalCrossing d).ppu = d.ppu ∧ (criticalCrossing d).wku = d.wku ∧
    (criticalCrossing d).segs = d.segs ∧ (criticalCrossing d).tst = d.tst ∧
    (criticalCrossing d).pli = d.pli ∧ (criticalCrossing d).tfu.zone = d.tfu.zone := by
  unfold criticalCrossing
  refine ⟨?_, ?_, ?_, ?_, ?_, ?_, ?_, ?_, ?_, ?_, ?_, ?_, ?_⟩ <;>
    rfl

@[simp] theorem computeCritical_frame (d : Dev) :
    (computeCritical d).draws = d.draws ∧ (computeCritical d).profile = d.profile ∧ (computeCritical d).pins = d.pins ∧
    (computeCritical d).mse = d.mse ∧ (computeCritical d).ktu = d.ktu ∧
    (computeCritical d).pkm = d.pkm ∧ (computeCritical d).chg = d.chg ∧
    (computeCritical d).ppu = d.ppu ∧ (computeCritical d).wku = d.wku ∧
    (computeCritical d).segs = d.segs ∧ (computeCritical d).tst = d.tst ∧
    (computeCritical d).pli = d.pli ∧ (computeCritical d).nsu = d.nsu ∧
    (computeCritical d).tfu.zone = d.tfu.zone := by
  unfold computeCritical
  refine ⟨?_, ?_, ?_, ?_, ?_, ?_, ?_, ?_, ?_, ?_, ?_, ?_, ?_, ?_⟩ <;>
    rfl

@[simp] theorem markLowDuty_frame (f : Fan) (d : Dev) :
    (markLowDuty f d).draws = d.draws ∧ (markLowDuty f d).profile = d.profile ∧ (markLowDuty f d).pins = d.pins ∧
    (markLowDuty f d).mse = d.mse ∧ (markLowDuty f d).ktu = d.ktu ∧ (markLowDuty f d).pkm = d.pkm ∧
    (markLowDuty f d).chg = d.chg ∧ (markLowDuty f d).ppu = d.ppu ∧ (markLowDuty f d).wku = d.wku ∧
    (markLowDuty f d).segs = d.segs ∧ (markLowDuty f d).tst = d.tst ∧
    (markLowDuty f d).pli = d.pli ∧ (markLowDuty f d).nsu = d.nsu ∧
    (markLowDuty f d).tfu.zone = d.tfu.zone := by
  unfold markLowDuty
  refine ⟨?_, ?_, ?_, ?_, ?_, ?_, ?_, ?_, ?_, ?_, ?_, ?_, ?_, ?_⟩ <;>
    rfl

@[simp] theorem setDuty_frame (f : Fan) (duty : Nat) (d : Dev) :
    (setDuty f duty d).draws = d.draws ∧ (setDuty f duty d).profile = d.profile ∧ (setDuty f duty d).pins = d.pins ∧
    (setDuty f duty d).mse = d.mse ∧ (setDuty f duty d).ktu = d.ktu ∧
    (setDuty f duty d).pkm = d.pkm ∧ (setDuty f duty d).chg = d.chg ∧
    (setDuty f duty d).ppu = d.ppu ∧ (setDuty f duty d).wku = d.wku ∧
    (setDuty f duty d).segs = d.segs ∧ (setDuty f duty d).tst = d.tst ∧
    (setDuty f duty d).pli = d.pli ∧ (setDuty f duty d).nsu = d.nsu ∧
    (setDuty f duty d).tfu.zone = d.tfu.zone := by
  unfold setDuty
  refine ⟨?_, ?_, ?_, ?_, ?_, ?_, ?_, ?_, ?_, ?_, ?_, ?_, ?_, ?_⟩ <;>
    rfl

@[simp] theorem setFittedDuty_frame (f : Fan) (duty : Nat) (d : Dev) :
    (setFittedDuty f duty d).draws = d.draws ∧ (setFittedDuty f duty d).profile = d.profile ∧ (setFittedDuty f duty d).pins = d.pins ∧
    (setFittedDuty f duty d).mse = d.mse ∧ (setFittedDuty f duty d).ktu = d.ktu ∧
    (setFittedDuty f duty d).pkm = d.pkm ∧ (setFittedDuty f duty d).chg = d.chg ∧
    (setFittedDuty f duty d).ppu = d.ppu ∧ (setFittedDuty f duty d).wku = d.wku ∧
    (setFittedDuty f duty d).segs = d.segs ∧ (setFittedDuty f duty d).tst = d.tst ∧
    (setFittedDuty f duty d).pli = d.pli ∧ (setFittedDuty f duty d).nsu = d.nsu ∧
    (setFittedDuty f duty d).tfu.zone = d.tfu.zone := by
  unfold setFittedDuty
  repeat' split
  all_goals simp

@[simp] theorem fanUpdateEvent_frame (f : Fan) (d : Dev) :
    (fanUpdateEvent f d).draws = d.draws ∧ (fanUpdateEvent f d).profile = d.profile ∧ (fanUpdateEvent f d).pins = d.pins ∧
    (fanUpdateEvent f d).mse = d.mse ∧ (fanUpdateEvent f d).ktu = d.ktu ∧
    (fanUpdateEvent f d).pkm = d.pkm ∧ (fanUpdateEvent f d).chg = d.chg ∧
    (fanUpdateEvent f d).ppu = d.ppu ∧ (fanUpdateEvent f d).wku = d.wku ∧
    (fanUpdateEvent f d).segs = d.segs ∧ (fanUpdateEvent f d).tst = d.tst ∧
    (fanUpdateEvent f d).pli = d.pli ∧ (fanUpdateEvent f d).nsu = d.nsu ∧
    (fanUpdateEvent f d).tfu.zone = d.tfu.zone := by
  unfold fanUpdateEvent
  repeat' split
  all_goals simp

@[simp] theorem fanStateChange_frame (f : Fan) (fault : Bool) (d : Dev) :
    (fanStateChange f fault d).draws = d.draws ∧ (fanStateChange f fault d).profile = d.profile ∧ (fanStateChange f fault d).pins = d.pins ∧
    (fanStateChange f fault d).mse = d.mse ∧ (fanStateChange f fault d).ktu = d.ktu ∧
    (fanStateChange f fault d).pkm = d.pkm ∧ (fanStateChange f fault d).ppu = d.ppu ∧
    (fanStateChange f fault d).wku = d.wku ∧ (fanStateChange f fault d).tst = d.tst ∧
    (fanStateChange f fault d).pli.linkUp = d.pli.linkUp ∧
    (fanStateChange f fault d).tfu.zone = d.tfu.zone := by
  simp [fanStateChange]

@[simp] theorem fanFaultEntry_frame (f : Fan) (d : Dev) :
    (fanFaultEntry f d).draws = d.draws ∧ (fanFaultEntry f d).profile = d.profile ∧ (fanFaultEntry f d).pins = d.pins ∧
    (fanFaultEntry f d).mse = d.mse ∧ (fanFaultEntry f d).ktu = d.ktu ∧
    (fanFaultEntry f d).pkm = d.pkm ∧ (fanFaultEntry f d).ppu = d.ppu ∧
    (fanFaultEntry f d).wku = d.wku ∧ (fanFaultEntry f d).tst = d.tst ∧
    (fanFaultEntry f d).pli.linkUp = d.pli.linkUp ∧ (fanFaultEntry f d).tfu.zone = d.tfu.zone := by
  simp [fanFaultEntry]

@[simp] theorem judgeStall_frame (f : Fan) (low : Bool) (rpm : Nat) (d : Dev) :
    (judgeStall f low rpm d).draws = d.draws ∧ (judgeStall f low rpm d).profile = d.profile ∧ (judgeStall f low rpm d).pins = d.pins ∧
    (judgeStall f low rpm d).mse = d.mse ∧ (judgeStall f low rpm d).ktu = d.ktu ∧
    (judgeStall f low rpm d).pkm = d.pkm ∧ (judgeStall f low rpm d).ppu = d.ppu ∧
    (judgeStall f low rpm d).wku = d.wku ∧ (judgeStall f low rpm d).tst = d.tst ∧
    (judgeStall f low rpm d).pli.linkUp = d.pli.linkUp ∧
    (judgeStall f low rpm d).tfu.zone = d.tfu.zone := by
  unfold judgeStall
  dsimp only
  refine ⟨?_, ?_, ?_, ?_, ?_, ?_, ?_, ?_, ?_, ?_, ?_⟩ <;>
    (repeat' split) <;> simp

@[simp] theorem judgeRecovery_frame (f : Fan) (rpm : Nat) (d : Dev) :
    (judgeRecovery f rpm d).draws = d.draws ∧ (judgeRecovery f rpm d).profile = d.profile ∧ (judgeRecovery f rpm d).pins = d.pins ∧
    (judgeRecovery f rpm d).mse = d.mse ∧ (judgeRecovery f rpm d).ktu = d.ktu ∧
    (judgeRecovery f rpm d).pkm = d.pkm ∧ (judgeRecovery f rpm d).ppu = d.ppu ∧
    (judgeRecovery f rpm d).wku = d.wku ∧ (judgeRecovery f rpm d).tst = d.tst ∧
    (judgeRecovery f rpm d).pli.linkUp = d.pli.linkUp ∧
    (judgeRecovery f rpm d).tfu.zone = d.tfu.zone := by
  unfold judgeRecovery
  dsimp only
  refine ⟨?_, ?_, ?_, ?_, ?_, ?_, ?_, ?_, ?_, ?_, ?_⟩ <;>
    (repeat' split) <;> simp

@[simp] theorem startWindow_frame (f : Fan) (d : Dev) :
    (startWindow f d).draws = d.draws ∧ (startWindow f d).profile = d.profile ∧ (startWindow f d).pins = d.pins ∧
    (startWindow f d).mse = d.mse ∧ (startWindow f d).ktu = d.ktu ∧ (startWindow f d).pkm = d.pkm ∧
    (startWindow f d).chg = d.chg ∧ (startWindow f d).ppu = d.ppu ∧ (startWindow f d).wku = d.wku ∧
    (startWindow f d).segs = d.segs ∧ (startWindow f d).tst = d.tst ∧
    (startWindow f d).pli = d.pli ∧ (startWindow f d).nsu = d.nsu ∧
    (startWindow f d).tfu.zone = d.tfu.zone := by
  unfold startWindow
  refine ⟨?_, ?_, ?_, ?_, ?_, ?_, ?_, ?_, ?_, ?_, ?_, ?_, ?_, ?_⟩ <;>
    rfl

@[simp] theorem tachWindowEvent_frame (f : Fan) (d : Dev) :
    (tachWindowEvent f d).draws = d.draws ∧ (tachWindowEvent f d).profile = d.profile ∧ (tachWindowEvent f d).pins = d.pins ∧
    (tachWindowEvent f d).mse = d.mse ∧ (tachWindowEvent f d).ktu = d.ktu ∧
    (tachWindowEvent f d).pkm = d.pkm ∧ (tachWindowEvent f d).ppu = d.ppu ∧
    (tachWindowEvent f d).wku = d.wku ∧ (tachWindowEvent f d).tst = d.tst ∧
    (tachWindowEvent f d).pli.linkUp = d.pli.linkUp ∧
    (tachWindowEvent f d).tfu.zone = d.tfu.zone := by
  unfold tachWindowEvent
  dsimp only
  refine ⟨?_, ?_, ?_, ?_, ?_, ?_, ?_, ?_, ?_, ?_, ?_⟩ <;>
    (repeat' split) <;> simp

@[simp] theorem tachPulseEvent_frame (f : Fan) (d : Dev) :
    (tachPulseEvent f d).draws = d.draws ∧ (tachPulseEvent f d).profile = d.profile ∧ (tachPulseEvent f d).pins = d.pins ∧
    (tachPulseEvent f d).mse = d.mse ∧ (tachPulseEvent f d).ktu = d.ktu ∧
    (tachPulseEvent f d).pkm = d.pkm ∧ (tachPulseEvent f d).chg = d.chg ∧
    (tachPulseEvent f d).ppu = d.ppu ∧ (tachPulseEvent f d).wku = d.wku ∧
    (tachPulseEvent f d).segs = d.segs ∧ (tachPulseEvent f d).tst = d.tst ∧
    (tachPulseEvent f d).pli = d.pli ∧ (tachPulseEvent f d).nsu = d.nsu ∧
    (tachPulseEvent f d).tfu.zone = d.tfu.zone := by
  unfold tachPulseEvent
  repeat' split
  all_goals simp

@[simp] theorem offRecovery_frame (f : Fan) (d : Dev) :
    (offRecovery f d).draws = d.draws ∧ (offRecovery f d).profile = d.profile ∧ (offRecovery f d).pins = d.pins ∧
    (offRecovery f d).mse = d.mse ∧ (offRecovery f d).ktu = d.ktu ∧ (offRecovery f d).pkm = d.pkm ∧
    (offRecovery f d).ppu = d.ppu ∧ (offRecovery f d).wku = d.wku ∧ (offRecovery f d).tst = d.tst ∧
    (offRecovery f d).pli.linkUp = d.pli.linkUp ∧ (offRecovery f d).tfu.zone = d.tfu.zone := by
  unfold offRecovery
  repeat' split
  all_goals simp

@[simp] theorem fansOff_frame (d : Dev) :
    (fansOff d).draws = d.draws ∧ (fansOff d).profile = d.profile ∧ (fansOff d).pins = d.pins ∧ (fansOff d).mse = d.mse ∧
    (fansOff d).ktu = d.ktu ∧ (fansOff d).pkm = d.pkm ∧ (fansOff d).ppu = d.ppu ∧
    (fansOff d).wku = d.wku ∧ (fansOff d).tst = d.tst ∧ (fansOff d).pli.linkUp = d.pli.linkUp ∧
    (fansOff d).tfu.zone = d.tfu.zone := by
  simp [fansOff]

@[simp] theorem fancurveWritten_frame (f : Fan) (d : Dev) :
    (fancurveWritten f d).draws = d.draws ∧ (fancurveWritten f d).profile = d.profile ∧ (fancurveWritten f d).pins = d.pins ∧
    (fancurveWritten f d).mse = d.mse ∧ (fancurveWritten f d).ktu = d.ktu ∧
    (fancurveWritten f d).pkm = d.pkm ∧ (fancurveWritten f d).chg = d.chg ∧
    (fancurveWritten f d).ppu = d.ppu ∧ (fancurveWritten f d).wku = d.wku ∧
    (fancurveWritten f d).segs = d.segs ∧ (fancurveWritten f d).tst = d.tst ∧
    (fancurveWritten f d).pli = d.pli ∧ (fancurveWritten f d).nsu = d.nsu ∧
    (fancurveWritten f d).tfu.zone = d.tfu.zone := by
  unfold fancurveWritten
  repeat' split
  all_goals simp

@[simp] theorem hostPower_frame (d : Dev) :
    (hostPower d).draws = d.draws ∧ (hostPower d).profile = d.profile ∧ (hostPower d).pins = d.pins ∧ (hostPower d).mse = d.mse ∧
    (hostPower d).ktu = d.ktu ∧ (hostPower d).pkm = d.pkm ∧ (hostPower d).chg = d.chg ∧
    (hostPower d).ppu = d.ppu ∧ (hostPower d).wku = d.wku ∧ (hostPower d).segs = d.segs ∧
    (hostPower d).tst = d.tst ∧ (hostPower d).pli = d.pli ∧ (hostPower d).nsu = d.nsu ∧
    (hostPower d).tfu.zone = d.tfu.zone := by
  unfold hostPower
  refine ⟨?_, ?_, ?_, ?_, ?_, ?_, ?_, ?_, ?_, ?_, ?_, ?_, ?_, ?_⟩ <;>
    rfl

@[simp] theorem criticalPower_frame (d : Dev) :
    (criticalPower d).draws = d.draws ∧ (criticalPower d).profile = d.profile ∧ (criticalPower d).pins = d.pins ∧
    (criticalPower d).mse = d.mse ∧ (criticalPower d).ktu = d.ktu ∧ (criticalPower d).pkm = d.pkm ∧
    (criticalPower d).chg = d.chg ∧ (criticalPower d).ppu = d.ppu ∧ (criticalPower d).wku = d.wku ∧
    (criticalPower d).segs = d.segs ∧ (criticalPower d).tst = d.tst ∧
    (criticalPower d).pli = d.pli ∧ (criticalPower d).tfu.zone = d.tfu.zone := by
  unfold criticalPower
  dsimp only
  refine ⟨?_, ?_, ?_, ?_, ?_, ?_, ?_, ?_, ?_, ?_, ?_, ?_, ?_⟩ <;>
    (repeat' split) <;> simp

@[simp] theorem tfuPower_frame (d : Dev) :
    (tfuPower d).draws = d.draws ∧ (tfuPower d).profile = d.profile ∧ (tfuPower d).pins = d.pins ∧ (tfuPower d).mse = d.mse ∧
    (tfuPower d).ktu = d.ktu ∧ (tfuPower d).pkm = d.pkm ∧ (tfuPower d).ppu = d.ppu ∧
    (tfuPower d).wku = d.wku ∧ (tfuPower d).tst = d.tst ∧ (tfuPower d).pli.linkUp = d.pli.linkUp ∧
    (tfuPower d).tfu.zone = d.tfu.zone := by
  unfold tfuPower
  dsimp only
  refine ⟨?_, ?_, ?_, ?_, ?_, ?_, ?_, ?_, ?_, ?_, ?_⟩ <;>
    (repeat' split) <;> simp

@[simp] theorem relayer_frame (d : Dev) :
    (relayer d).draws = d.draws ∧ (relayer d).profile = d.profile ∧ (relayer d).pins = d.pins ∧ (relayer d).mse = d.mse ∧
    (relayer d).pkm = d.pkm ∧ (relayer d).chg = d.chg ∧ (relayer d).tfu = d.tfu ∧
    (relayer d).ppu = d.ppu ∧ (relayer d).wku = d.wku ∧ (relayer d).segs = d.segs ∧
    (relayer d).tst = d.tst ∧ (relayer d).pli = d.pli ∧ (relayer d).nsu = d.nsu := by
  unfold relayer
  refine ⟨?_, ?_, ?_, ?_, ?_, ?_, ?_, ?_, ?_, ?_, ?_, ?_, ?_⟩ <;>
    rfl

@[simp] theorem ktuLinkDown_frame (d : Dev) :
    (ktuLinkDown d).draws = d.draws ∧ (ktuLinkDown d).profile = d.profile ∧ (ktuLinkDown d).pins = d.pins ∧
    (ktuLinkDown d).mse = d.mse ∧ (ktuLinkDown d).pkm = d.pkm ∧ (ktuLinkDown d).chg = d.chg ∧
    (ktuLinkDown d).tfu = d.tfu ∧ (ktuLinkDown d).ppu = d.ppu ∧ (ktuLinkDown d).wku = d.wku ∧
    (ktuLinkDown d).segs = d.segs ∧ (ktuLinkDown d).tst = d.tst ∧ (ktuLinkDown d).pli = d.pli ∧
    (ktuLinkDown d).nsu = d.nsu := by
  unfold ktuLinkDown
  refine ⟨?_, ?_, ?_, ?_, ?_, ?_, ?_, ?_, ?_, ?_, ?_, ?_, ?_⟩ <;>
    rfl

@[simp] theorem ktuPlatformReset_frame (d : Dev) :
    (ktuPlatformReset d).draws = d.draws ∧ (ktuPlatformReset d).profile = d.profile ∧ (ktuPlatformReset d).pins = d.pins ∧
    (ktuPlatformReset d).mse = d.mse ∧ (ktuPlatformReset d).pkm = d.pkm ∧
    (ktuPlatformReset d).chg = d.chg ∧ (ktuPlatformReset d).tfu = d.tfu ∧
    (ktuPlatformReset d).ppu = d.ppu ∧ (ktuPlatformReset d).wku = d.wku ∧
    (ktuPlatformReset d).segs = d.segs ∧ (ktuPlatformReset d).tst = d.tst ∧
    (ktuPlatformReset d).pli = d.pli ∧ (ktuPlatformReset d).nsu = d.nsu := by
  unfold ktuPlatformReset
  refine ⟨?_, ?_, ?_, ?_, ?_, ?_, ?_, ?_, ?_, ?_, ?_, ?_, ?_⟩ <;>
    rfl

@[simp] theorem ktuLinkUp_frame (d : Dev) :
    (ktuLinkUp d).draws = d.draws ∧ (ktuLinkUp d).profile = d.profile ∧ (ktuLinkUp d).pins = d.pins ∧ (ktuLinkUp d).mse = d.mse ∧
    (ktuLinkUp d).pkm = d.pkm ∧ (ktuLinkUp d).chg = d.chg ∧ (ktuLinkUp d).tfu = d.tfu ∧
    (ktuLinkUp d).ppu = d.ppu ∧ (ktuLinkUp d).wku = d.wku ∧ (ktuLinkUp d).segs = d.segs ∧
    (ktuLinkUp d).tst = d.tst ∧ (ktuLinkUp d).pli = d.pli ∧ (ktuLinkUp d).nsu = d.nsu := by
  unfold ktuLinkUp
  repeat' split
  all_goals simp

@[simp] theorem ktuPosture_frame (new : Posture) (d : Dev) :
    (ktuPosture new d).draws = d.draws ∧ (ktuPosture new d).profile = d.profile ∧ (ktuPosture new d).pins = d.pins ∧
    (ktuPosture new d).mse = d.mse ∧ (ktuPosture new d).pkm = d.pkm ∧
    (ktuPosture new d).chg = d.chg ∧ (ktuPosture new d).tfu = d.tfu ∧
    (ktuPosture new d).ppu = d.ppu ∧ (ktuPosture new d).wku = d.wku ∧
    (ktuPosture new d).segs = d.segs ∧ (ktuPosture new d).tst = d.tst ∧
    (ktuPosture new d).pli = d.pli ∧ (ktuPosture new d).nsu = d.nsu := by
  unfold ktuPosture
  repeat' split
  all_goals simp

@[simp] theorem retimePolls_frame (d : Dev) :
    (retimePolls d).draws = d.draws ∧ (retimePolls d).profile = d.profile ∧ (retimePolls d).pins = d.pins ∧
    (retimePolls d).mse = d.mse ∧ (retimePolls d).ktu = d.ktu ∧ (retimePolls d).chg = d.chg ∧
    (retimePolls d).tfu = d.tfu ∧ (retimePolls d).ppu = d.ppu ∧ (retimePolls d).wku = d.wku ∧
    (retimePolls d).segs = d.segs ∧ (retimePolls d).tst = d.tst ∧ (retimePolls d).pli = d.pli ∧
    (retimePolls d).nsu = d.nsu := by
  unfold retimePolls
  refine ⟨?_, ?_, ?_, ?_, ?_, ?_, ?_, ?_, ?_, ?_, ?_, ?_, ?_⟩ <;>
    rfl

@[simp] theorem nsuLinkDown_frame (d : Dev) :
    (nsuLinkDown d).draws = d.draws ∧ (nsuLinkDown d).profile = d.profile ∧ (nsuLinkDown d).pins = d.pins ∧
    (nsuLinkDown d).mse = d.mse ∧ (nsuLinkDown d).ktu = d.ktu ∧ (nsuLinkDown d).pkm = d.pkm ∧
    (nsuLinkDown d).chg = d.chg ∧ (nsuLinkDown d).tfu = d.tfu ∧ (nsuLinkDown d).ppu = d.ppu ∧
    (nsuLinkDown d).wku = d.wku ∧ (nsuLinkDown d).segs = d.segs ∧ (nsuLinkDown d).tst = d.tst ∧
    (nsuLinkDown d).pli = d.pli := by
  unfold nsuLinkDown
  refine ⟨?_, ?_, ?_, ?_, ?_, ?_, ?_, ?_, ?_, ?_, ?_, ?_, ?_⟩ <;>
    rfl

@[simp] theorem linkDownRest_frame (d : Dev) :
    (linkDownRest d).draws = d.draws ∧ (linkDownRest d).profile = d.profile ∧ (linkDownRest d).pins = d.pins ∧
    (linkDownRest d).mse = d.mse ∧ (linkDownRest d).ktu = d.ktu ∧ (linkDownRest d).pkm = d.pkm ∧
    (linkDownRest d).chg = d.chg ∧ (linkDownRest d).tfu = d.tfu ∧ (linkDownRest d).wku = d.wku ∧
    (linkDownRest d).tst = d.tst ∧ (linkDownRest d).ppu.power = d.ppu.power := by
  simp [linkDownRest]

@[simp] theorem linkDown_frame (d : Dev) :
    (linkDown d).draws = d.draws ∧ (linkDown d).profile = d.profile ∧ (linkDown d).pins = d.pins ∧ (linkDown d).mse = d.mse ∧
    (linkDown d).pkm = d.pkm ∧ (linkDown d).chg = d.chg ∧ (linkDown d).tfu = d.tfu ∧
    (linkDown d).wku = d.wku ∧ (linkDown d).tst = d.tst ∧
    (linkDown d).ppu.power = d.ppu.power := by
  simp [linkDown]

@[simp] theorem nsuLinkUp_frame (d : Dev) :
    (nsuLinkUp d).draws = d.draws ∧ (nsuLinkUp d).profile = d.profile ∧ (nsuLinkUp d).pins = d.pins ∧ (nsuLinkUp d).mse = d.mse ∧
    (nsuLinkUp d).ktu = d.ktu ∧ (nsuLinkUp d).pkm = d.pkm ∧ (nsuLinkUp d).chg = d.chg ∧
    (nsuLinkUp d).tfu = d.tfu ∧ (nsuLinkUp d).ppu = d.ppu ∧ (nsuLinkUp d).wku = d.wku ∧
    (nsuLinkUp d).segs = d.segs ∧ (nsuLinkUp d).tst = d.tst ∧ (nsuLinkUp d).pli = d.pli := by
  unfold nsuLinkUp
  refine ⟨?_, ?_, ?_, ?_, ?_, ?_, ?_, ?_, ?_, ?_, ?_, ?_, ?_⟩ <;>
    rfl

@[simp] theorem linkUp_frame (d : Dev) :
    (linkUp d).draws = d.draws ∧ (linkUp d).profile = d.profile ∧ (linkUp d).pins = d.pins ∧ (linkUp d).mse = d.mse ∧
    (linkUp d).pkm = d.pkm ∧ (linkUp d).chg = d.chg ∧ (linkUp d).tfu = d.tfu ∧
    (linkUp d).ppu = d.ppu ∧ (linkUp d).wku = d.wku ∧ (linkUp d).segs = d.segs ∧
    (linkUp d).tst = d.tst := by
  simp [linkUp]

@[simp] theorem relink_frame (d : Dev) :
    (relink d).draws = d.draws ∧ (relink d).profile = d.profile ∧ (relink d).pins = d.pins ∧ (relink d).mse = d.mse ∧
    (relink d).pkm = d.pkm ∧ (relink d).chg = d.chg ∧ (relink d).tfu = d.tfu ∧
    (relink d).wku = d.wku ∧ (relink d).tst = d.tst ∧ (relink d).ppu.power = d.ppu.power := by
  unfold relink
  repeat' split
  all_goals simp

@[simp] theorem powerTo_frame (st : PowerState) (d : Dev) :
    (powerTo st d).draws = d.draws ∧ (powerTo st d).profile = d.profile ∧ (powerTo st d).pins = d.pins ∧
    (powerTo st d).wku = d.wku ∧ (powerTo st d).tst = d.tst ∧
    (powerTo st d).tfu.zone = d.tfu.zone := by
  simp [powerTo]

@[simp] theorem riseUp_frame (d : Dev) :
    (riseUp d).draws = d.draws ∧ (riseUp d).profile = d.profile ∧ (riseUp d).pins = d.pins ∧ (riseUp d).wku = d.wku ∧
    (riseUp d).tst = d.tst ∧ (riseUp d).tfu.zone = d.tfu.zone := by
  unfold riseUp
  dsimp only
  refine ⟨?_, ?_, ?_, ?_, ?_, ?_⟩ <;>
    (repeat' split) <;> simp

@[simp] theorem reachOff_frame (d : Dev) :
    (reachOff d).draws = d.draws ∧ (reachOff d).profile = d.profile ∧ (reachOff d).pins = d.pins ∧ (reachOff d).wku = d.wku ∧
    (reachOff d).tst = d.tst ∧ (reachOff d).tfu.zone = d.tfu.zone := by
  unfold reachOff
  dsimp only
  refine ⟨?_, ?_, ?_, ?_, ?_, ?_⟩ <;>
    (repeat' split) <;> simp

@[simp] theorem handCause_frame (c : Cause) (d : Dev) :
    (handCause c d).draws = d.draws ∧ (handCause c d).profile = d.profile ∧ (handCause c d).pins = d.pins ∧
    (handCause c d).mse = d.mse ∧ (handCause c d).ktu = d.ktu ∧ (handCause c d).pkm = d.pkm ∧
    (handCause c d).chg = d.chg ∧ (handCause c d).tfu = d.tfu ∧ (handCause c d).ppu = d.ppu ∧
    (handCause c d).segs = d.segs ∧ (handCause c d).tst = d.tst ∧ (handCause c d).pli = d.pli ∧
    (handCause c d).nsu = d.nsu := by
  unfold handCause
  refine ⟨?_, ?_, ?_, ?_, ?_, ?_, ?_, ?_, ?_, ?_, ?_, ?_, ?_⟩ <;>
    rfl

@[simp] theorem handFault_frame (d : Dev) :
    (handFault d).draws = d.draws ∧ (handFault d).profile = d.profile ∧ (handFault d).pins = d.pins ∧ (handFault d).mse = d.mse ∧
    (handFault d).ktu = d.ktu ∧ (handFault d).pkm = d.pkm ∧ (handFault d).chg = d.chg ∧
    (handFault d).tfu = d.tfu ∧ (handFault d).ppu = d.ppu ∧ (handFault d).segs = d.segs ∧
    (handFault d).tst = d.tst ∧ (handFault d).pli = d.pli ∧ (handFault d).nsu = d.nsu := by
  unfold handFault
  refine ⟨?_, ?_, ?_, ?_, ?_, ?_, ?_, ?_, ?_, ?_, ?_, ?_, ?_⟩ <;>
    rfl

@[simp] theorem powerDown_frame (c : Cause) (d : Dev) :
    (powerDown c d).draws = d.draws ∧ (powerDown c d).profile = d.profile ∧ (powerDown c d).pins = d.pins ∧
    (powerDown c d).tst = d.tst ∧ (powerDown c d).tfu.zone = d.tfu.zone := by
  unfold powerDown
  dsimp only
  refine ⟨?_, ?_, ?_, ?_, ?_⟩ <;>
    (repeat' split) <;> simp

@[simp] theorem forcedOff_frame (c : Cause) (d : Dev) :
    (forcedOff c d).draws = d.draws ∧ (forcedOff c d).profile = d.profile ∧ (forcedOff c d).pins = d.pins ∧
    (forcedOff c d).tst = d.tst ∧ (forcedOff c d).tfu.zone = d.tfu.zone := by
  unfold forcedOff
  repeat' split
  all_goals simp

@[simp] theorem recordWake_frame (w : WakeSource) (d : Dev) :
    (recordWake w d).draws = d.draws ∧ (recordWake w d).profile = d.profile ∧ (recordWake w d).pins = d.pins ∧
    (recordWake w d).mse = d.mse ∧ (recordWake w d).ktu = d.ktu ∧ (recordWake w d).pkm = d.pkm ∧
    (recordWake w d).chg = d.chg ∧ (recordWake w d).tfu = d.tfu ∧ (recordWake w d).ppu = d.ppu ∧
    (recordWake w d).segs = d.segs ∧ (recordWake w d).tst = d.tst ∧ (recordWake w d).pli = d.pli ∧
    (recordWake w d).nsu = d.nsu := by
  unfold recordWake
  refine ⟨?_, ?_, ?_, ?_, ?_, ?_, ?_, ?_, ?_, ?_, ?_, ?_, ?_⟩ <;>
    rfl

@[simp] theorem takeWake_frame (d : Dev) :
    (takeWake d).draws = d.draws ∧ (takeWake d).profile = d.profile ∧ (takeWake d).pins = d.pins ∧ (takeWake d).wku = d.wku ∧
    (takeWake d).tst = d.tst ∧ (takeWake d).tfu.zone = d.tfu.zone := by
  simp [takeWake]

@[simp] theorem offerWake_frame (w : WakeSource) (d : Dev) :
    (offerWake w d).draws = d.draws ∧ (offerWake w d).profile = d.profile ∧ (offerWake w d).pins = d.pins ∧
    (offerWake w d).tst = d.tst ∧ (offerWake w d).tfu.zone = d.tfu.zone := by
  unfold offerWake
  repeat' split
  all_goals simp

end Sys2Proof.Machine
end

