-- ==== Sys2Proof/Laws/EventFrames.lean ====
section
/-!
SUPPORT. What the events of the blocks and the requests of the link leave unchanged: one lemma per
operation, its unchanged blocks in one conjunction.
-/

namespace Sys2Proof.Machine

@[simp] theorem shutdownCheck_frame (d : Dev) :
    (shutdownCheck d).draws = d.draws ∧ (shutdownCheck d).profile = d.profile ∧ (shutdownCheck d).pins = d.pins ∧
    (shutdownCheck d).tst = d.tst ∧ (shutdownCheck d).tfu.zone = d.tfu.zone := by
  unfold shutdownCheck
  repeat' split
  all_goals simp

@[simp] theorem watchSleep_frame (crossing : Bool) (d : Dev) :
    (watchSleep crossing d).draws = d.draws ∧ (watchSleep crossing d).profile = d.profile ∧ (watchSleep crossing d).pins = d.pins ∧
    (watchSleep crossing d).tst = d.tst ∧ (watchSleep crossing d).tfu.zone = d.tfu.zone := by
  unfold watchSleep
  repeat' split
  all_goals simp

@[simp] theorem batteryWatch_frame (d : Dev) :
    (batteryWatch d).draws = d.draws ∧ (batteryWatch d).profile = d.profile ∧ (batteryWatch d).pins = d.pins ∧
    (batteryWatch d).tst = d.tst ∧ (batteryWatch d).tfu.zone = d.tfu.zone := by
  unfold batteryWatch
  dsimp only
  refine ⟨?_, ?_, ?_, ?_, ?_⟩ <;>
    (repeat' split) <;> simp

@[simp] theorem criticalWatch_frame (d : Dev) :
    (criticalWatch d).draws = d.draws ∧ (criticalWatch d).profile = d.profile ∧ (criticalWatch d).pins = d.pins ∧
    (criticalWatch d).tst = d.tst ∧ (criticalWatch d).tfu.zone = d.tfu.zone := by
  unfold criticalWatch
  dsimp only
  refine ⟨?_, ?_, ?_, ?_, ?_⟩ <;>
    (repeat' split) <;> simp

@[simp] theorem sleepCrossings_frame (d : Dev) :
    (sleepCrossings d).draws = d.draws ∧ (sleepCrossings d).profile = d.profile ∧ (sleepCrossings d).pins = d.pins ∧
    (sleepCrossings d).tst = d.tst ∧ (sleepCrossings d).tfu.zone = d.tfu.zone := by
  unfold sleepCrossings
  dsimp only
  refine ⟨?_, ?_, ?_, ?_, ?_⟩ <;>
    (repeat' split) <;> simp

@[simp] theorem takeLatch_frame (d : Dev) :
    (takeLatch d).draws = d.draws ∧ (takeLatch d).profile = d.profile ∧ (takeLatch d).pins = d.pins ∧ (takeLatch d).wku = d.wku ∧
    (takeLatch d).tst = d.tst ∧ (takeLatch d).tfu.zone = d.tfu.zone := by
  unfold takeLatch
  dsimp only
  refine ⟨?_, ?_, ?_, ?_, ?_, ?_⟩ <;>
    (repeat' split) <;> simp

@[simp] theorem enterSleep_frame (d : Dev) :
    (enterSleep d).draws = d.draws ∧ (enterSleep d).profile = d.profile ∧ (enterSleep d).pins = d.pins ∧
    (enterSleep d).tst = d.tst ∧ (enterSleep d).tfu.zone = d.tfu.zone := by
  simp [enterSleep]

@[simp] theorem enterSleepEntry_frame (d : Dev) :
    (enterSleepEntry d).draws = d.draws ∧ (enterSleepEntry d).profile = d.profile ∧ (enterSleepEntry d).pins = d.pins ∧
    (enterSleepEntry d).tst = d.tst ∧ (enterSleepEntry d).tfu.zone = d.tfu.zone := by
  unfold enterSleepEntry
  dsimp only
  refine ⟨?_, ?_, ?_, ?_, ?_⟩ <;>
    (repeat' split) <;> simp

@[simp] theorem lossOfPower_frame (d : Dev) :
    (lossOfPower d).draws = d.draws ∧ (lossOfPower d).profile = d.profile ∧ (lossOfPower d).pins = d.pins ∧
    (lossOfPower d).tst = d.tst ∧ (lossOfPower d).tfu.zone = d.tfu.zone := by
  simp [lossOfPower]

@[simp] theorem powerGoodEvent_frame (level : Bool) (d : Dev) :
    (powerGoodEvent level d).draws = d.draws ∧ (powerGoodEvent level d).profile = d.profile ∧ (powerGoodEvent level d).tst = d.tst ∧
    (powerGoodEvent level d).tfu.zone = d.tfu.zone := by
  unfold powerGoodEvent
  dsimp only
  refine ⟨?_, ?_, ?_, ?_⟩ <;>
    (repeat' split) <;> simp

@[simp] theorem powerUpTimeoutEvent_frame (d : Dev) :
    (powerUpTimeoutEvent d).draws = d.draws ∧ (powerUpTimeoutEvent d).profile = d.profile ∧ (powerUpTimeoutEvent d).pins = d.pins ∧
    (powerUpTimeoutEvent d).tst = d.tst ∧ (powerUpTimeoutEvent d).tfu.zone = d.tfu.zone := by
  unfold powerUpTimeoutEvent
  repeat' split
  all_goals simp

@[simp] theorem powerDownTimeoutEvent_frame (d : Dev) :
    (powerDownTimeoutEvent d).draws = d.draws ∧ (powerDownTimeoutEvent d).profile = d.profile ∧ (powerDownTimeoutEvent d).pins = d.pins ∧
    (powerDownTimeoutEvent d).tst = d.tst ∧ (powerDownTimeoutEvent d).tfu.zone = d.tfu.zone := by
  unfold powerDownTimeoutEvent
  repeat' split
  all_goals simp

@[simp] theorem restartEvent_frame (d : Dev) :
    (restartEvent d).draws = d.draws ∧ (restartEvent d).profile = d.profile ∧ (restartEvent d).pins = d.pins ∧
    (restartEvent d).wku = d.wku ∧ (restartEvent d).tst = d.tst ∧
    (restartEvent d).tfu.zone = d.tfu.zone := by
  unfold restartEvent
  repeat' split
  all_goals simp

@[simp] theorem postureChange_frame (new : Posture) (d : Dev) :
    (postureChange new d).draws = d.draws ∧ (postureChange new d).profile = d.profile ∧ (postureChange new d).pins = d.pins ∧
    (postureChange new d).tst = d.tst ∧ (postureChange new d).tfu.zone = d.tfu.zone := by
  unfold postureChange
  dsimp only
  refine ⟨?_, ?_, ?_, ?_, ?_⟩ <;>
    (repeat' split) <;> simp

@[simp] theorem derivePosture_frame (d : Dev) :
    (derivePosture d).draws = d.draws ∧ (derivePosture d).profile = d.profile ∧ (derivePosture d).pins = d.pins ∧
    (derivePosture d).tst = d.tst ∧ (derivePosture d).tfu.zone = d.tfu.zone := by
  unfold derivePosture
  dsimp only
  refine ⟨?_, ?_, ?_, ?_, ?_⟩ <;>
    (repeat' split) <;> simp

@[simp] theorem lidFoldEvent_frame (x : LidFold) (d : Dev) :
    (lidFoldEvent x d).draws = d.draws ∧ (lidFoldEvent x d).profile = d.profile ∧ (lidFoldEvent x d).tst = d.tst ∧
    (lidFoldEvent x d).tfu.zone = d.tfu.zone := by
  unfold lidFoldEvent
  repeat' split
  all_goals simp

@[simp] theorem shortPressEvent_frame (d : Dev) :
    (shortPressEvent d).draws = d.draws ∧ (shortPressEvent d).profile = d.profile ∧ (shortPressEvent d).tst = d.tst ∧
    (shortPressEvent d).tfu.zone = d.tfu.zone := by
  unfold shortPressEvent
  dsimp only
  refine ⟨?_, ?_, ?_, ?_⟩ <;>
    (repeat' split) <;> simp

@[simp] theorem buttonReleaseEvent_frame (d : Dev) :
    (buttonReleaseEvent d).draws = d.draws ∧ (buttonReleaseEvent d).profile = d.profile ∧ (buttonReleaseEvent d).mse = d.mse ∧
    (buttonReleaseEvent d).ktu = d.ktu ∧ (buttonReleaseEvent d).pkm = d.pkm ∧
    (buttonReleaseEvent d).chg = d.chg ∧ (buttonReleaseEvent d).tfu = d.tfu ∧
    (buttonReleaseEvent d).wku = d.wku ∧ (buttonReleaseEvent d).segs = d.segs ∧
    (buttonReleaseEvent d).tst = d.tst ∧ (buttonReleaseEvent d).pli = d.pli ∧
    (buttonReleaseEvent d).nsu = d.nsu ∧ (buttonReleaseEvent d).ppu.power = d.ppu.power := by
  unfold buttonReleaseEvent
  repeat' split
  all_goals simp

@[simp] theorem overrideEvent_frame (d : Dev) :
    (overrideEvent d).draws = d.draws ∧ (overrideEvent d).profile = d.profile ∧ (overrideEvent d).pins = d.pins ∧
    (overrideEvent d).tst = d.tst ∧ (overrideEvent d).tfu.zone = d.tfu.zone := by
  unfold overrideEvent
  repeat' split
  all_goals simp

@[simp] theorem wakeLineEvent_frame (d : Dev) :
    (wakeLineEvent d).draws = d.draws ∧ (wakeLineEvent d).profile = d.profile ∧ (wakeLineEvent d).tst = d.tst ∧
    (wakeLineEvent d).tfu.zone = d.tfu.zone := by
  unfold wakeLineEvent
  repeat' split
  all_goals simp

@[simp] theorem wakeLineInactiveEvent_frame (d : Dev) :
    (wakeLineInactiveEvent d).draws = d.draws ∧ (wakeLineInactiveEvent d).profile = d.profile ∧ (wakeLineInactiveEvent d).mse = d.mse ∧
    (wakeLineInactiveEvent d).ktu = d.ktu ∧ (wakeLineInactiveEvent d).pkm = d.pkm ∧
    (wakeLineInactiveEvent d).chg = d.chg ∧ (wakeLineInactiveEvent d).tfu = d.tfu ∧
    (wakeLineInactiveEvent d).ppu = d.ppu ∧ (wakeLineInactiveEvent d).segs = d.segs ∧
    (wakeLineInactiveEvent d).tst = d.tst ∧ (wakeLineInactiveEvent d).pli = d.pli ∧
    (wakeLineInactiveEvent d).nsu = d.nsu := by
  unfold wakeLineInactiveEvent
  repeat' split
  all_goals simp

@[simp] theorem batteryGraceEvent_frame (d : Dev) :
    (batteryGraceEvent d).draws = d.draws ∧ (batteryGraceEvent d).profile = d.profile ∧ (batteryGraceEvent d).pins = d.pins ∧
    (batteryGraceEvent d).tst = d.tst ∧ (batteryGraceEvent d).tfu.zone = d.tfu.zone := by
  unfold batteryGraceEvent
  repeat' split
  all_goals simp

@[simp] theorem criticalGraceEvent_frame (d : Dev) :
    (criticalGraceEvent d).draws = d.draws ∧ (criticalGraceEvent d).profile = d.profile ∧ (criticalGraceEvent d).pins = d.pins ∧
    (criticalGraceEvent d).tst = d.tst ∧ (criticalGraceEvent d).tfu.zone = d.tfu.zone := by
  unfold criticalGraceEvent
  repeat' split
  all_goals simp

@[simp] theorem adapterEvent_frame (present : Bool) (cls : BitVec 4) (d : Dev) :
    (adapterEvent present cls d).draws = d.draws ∧ (adapterEvent present cls d).profile = d.profile ∧ (adapterEvent present cls d).tst = d.tst ∧
    (adapterEvent present cls d).tfu.zone = d.tfu.zone := by
  unfold adapterEvent
  repeat' split
  all_goals simp

@[simp] theorem setPackSource_frame (k : Pack) (v : Option Int) (d : Dev) :
    (setPackSource k v d).draws = d.draws ∧ (setPackSource k v d).profile = d.profile ∧ (setPackSource k v d).pins = d.pins ∧
    (setPackSource k v d).mse = d.mse ∧ (setPackSource k v d).ktu = d.ktu ∧
    (setPackSource k v d).pkm = d.pkm ∧ (setPackSource k v d).chg = d.chg ∧
    (setPackSource k v d).ppu = d.ppu ∧ (setPackSource k v d).wku = d.wku ∧
    (setPackSource k v d).segs = d.segs ∧ (setPackSource k v d).tst = d.tst ∧
    (setPackSource k v d).pli = d.pli ∧ (setPackSource k v d).nsu = d.nsu ∧
    (setPackSource k v d).tfu.zone = d.tfu.zone := by
  unfold setPackSource
  refine ⟨?_, ?_, ?_, ?_, ?_, ?_, ?_, ?_, ?_, ?_, ?_, ?_, ?_, ?_⟩ <;>
    rfl

@[simp] theorem enterCommLost_frame (k : Pack) (d : Dev) :
    (enterCommLost k d).draws = d.draws ∧ (enterCommLost k d).profile = d.profile ∧ (enterCommLost k d).pins = d.pins ∧
    (enterCommLost k d).tst = d.tst ∧ (enterCommLost k d).tfu.zone = d.tfu.zone := by
  simp [enterCommLost]

@[simp] theorem abortCycle_frame (k : Pack) (d : Dev) :
    (abortCycle k d).draws = d.draws ∧ (abortCycle k d).profile = d.profile ∧ (abortCycle k d).pins = d.pins ∧
    (abortCycle k d).tst = d.tst ∧ (abortCycle k d).tfu.zone = d.tfu.zone := by
  unfold abortCycle
  dsimp only
  refine ⟨?_, ?_, ?_, ?_, ?_⟩ <;>
    (repeat' split) <;> simp

@[simp] theorem enterUnsupported_frame (k : Pack) (d : Dev) :
    (enterUnsupported k d).draws = d.draws ∧ (enterUnsupported k d).profile = d.profile ∧ (enterUnsupported k d).pins = d.pins ∧
    (enterUnsupported k d).mse = d.mse ∧ (enterUnsupported k d).ktu = d.ktu ∧
    (enterUnsupported k d).chg = d.chg ∧ (enterUnsupported k d).ppu = d.ppu ∧
    (enterUnsupported k d).wku = d.wku ∧ (enterUnsupported k d).segs = d.segs ∧
    (enterUnsupported k d).tst = d.tst ∧ (enterUnsupported k d).pli = d.pli ∧
    (enterUnsupported k d).tfu.zone = d.tfu.zone := by
  unfold enterUnsupported
  refine ⟨?_, ?_, ?_, ?_, ?_, ?_, ?_, ?_, ?_, ?_, ?_, ?_⟩ <;>
    rfl

@[simp] theorem commitSample_frame (k : Pack) (d : Dev) :
    (commitSample k d).draws = d.draws ∧ (commitSample k d).profile = d.profile ∧ (commitSample k d).pins = d.pins ∧
    (commitSample k d).tst = d.tst ∧ (commitSample k d).tfu.zone = d.tfu.zone := by
  unfold commitSample
  dsimp only
  refine ⟨?_, ?_, ?_, ?_, ?_⟩ <;>
    (repeat' split) <;> simp

@[simp] theorem issueItem_frame (k : Pack) (c : Cycle) (d : Dev) :
    (issueItem k c d).draws = d.draws ∧ (issueItem k c d).profile = d.profile ∧ (issueItem k c d).pins = d.pins ∧
    (issueItem k c d).tst = d.tst ∧ (issueItem k c d).tfu.zone = d.tfu.zone := by
  unfold issueItem
  dsimp only
  refine ⟨?_, ?_, ?_, ?_, ?_⟩ <;>
    (repeat' split) <;> simp

@[simp] theorem beginCycle_frame (k : Pack) (kind : CycleKind) (d : Dev) :
    (beginCycle k kind d).draws = d.draws ∧ (beginCycle k kind d).profile = d.profile ∧ (beginCycle k kind d).pins = d.pins ∧
    (beginCycle k kind d).tst = d.tst ∧ (beginCycle k kind d).tfu.zone = d.tfu.zone := by
  simp [beginCycle]

@[simp] theorem judgeIdentity_frame (k : Pack) (d : Dev) :
    (judgeIdentity k d).draws = d.draws ∧ (judgeIdentity k d).profile = d.profile ∧ (judgeIdentity k d).pins = d.pins ∧
    (judgeIdentity k d).tst = d.tst ∧ (judgeIdentity k d).tfu.zone = d.tfu.zone := by
  unfold judgeIdentity
  dsimp only
  refine ⟨?_, ?_, ?_, ?_, ?_⟩ <;>
    (repeat' split) <;> simp

@[simp] theorem finishCycle_frame (k : Pack) (kind : CycleKind) (d : Dev) :
    (finishCycle k kind d).draws = d.draws ∧ (finishCycle k kind d).profile = d.profile ∧ (finishCycle k kind d).pins = d.pins ∧
    (finishCycle k kind d).tst = d.tst ∧ (finishCycle k kind d).tfu.zone = d.tfu.zone := by
  unfold finishCycle
  repeat' split
  all_goals simp

@[simp] theorem itemRead_frame (k : Pack) (c : Cycle) (data : List Byte) (d : Dev) :
    (itemRead k c data d).draws = d.draws ∧ (itemRead k c data d).profile = d.profile ∧ (itemRead k c data d).pins = d.pins ∧
    (itemRead k c data d).tst = d.tst ∧ (itemRead k c data d).tfu.zone = d.tfu.zone := by
  unfold itemRead
  repeat' split
  all_goals simp

@[simp] theorem orphanCompleted_frame (k : Pack) (d : Dev) :
    (orphanCompleted k d).draws = d.draws ∧ (orphanCompleted k d).profile = d.profile ∧ (orphanCompleted k d).pins = d.pins ∧
    (orphanCompleted k d).tst = d.tst ∧ (orphanCompleted k d).tfu.zone = d.tfu.zone := by
  unfold orphanCompleted
  dsimp only
  refine ⟨?_, ?_, ?_, ?_, ?_⟩ <;>
    (repeat' split) <;> simp

@[simp] theorem packCompleted_frame (k : Pack) (c : Completion) (d : Dev) :
    (packCompleted k c d).draws = d.draws ∧ (packCompleted k c d).profile = d.profile ∧ (packCompleted k c d).pins = d.pins ∧
    (packCompleted k c d).tst = d.tst ∧ (packCompleted k c d).tfu.zone = d.tfu.zone := by
  unfold packCompleted
  dsimp only
  refine ⟨?_, ?_, ?_, ?_, ?_⟩ <;>
    (repeat' split) <;> simp

@[simp] theorem presenceEvent_frame (k : Pack) (d : Dev) :
    (presenceEvent k d).draws = d.draws ∧ (presenceEvent k d).profile = d.profile ∧ (presenceEvent k d).tst = d.tst ∧
    (presenceEvent k d).tfu.zone = d.tfu.zone := by
  unfold presenceEvent
  dsimp only
  refine ⟨?_, ?_, ?_, ?_⟩ <;>
    (repeat' split) <;> simp

@[simp] theorem removalEvent_frame (k : Pack) (d : Dev) :
    (removalEvent k d).draws = d.draws ∧ (removalEvent k d).profile = d.profile ∧ (removalEvent k d).tst = d.tst ∧
    (removalEvent k d).tfu.zone = d.tfu.zone := by
  unfold removalEvent
  repeat' split
  all_goals simp

@[simp] theorem pollEvent_frame (k : Pack) (d : Dev) :
    (pollEvent k d).draws = d.draws ∧ (pollEvent k d).profile = d.profile ∧ (pollEvent k d).pins = d.pins ∧
    (pollEvent k d).tst = d.tst ∧ (pollEvent k d).tfu.zone = d.tfu.zone := by
  unfold pollEvent
  dsimp only
  refine ⟨?_, ?_, ?_, ?_, ?_⟩ <;>
    (repeat' split) <;> simp

@[simp] theorem ageEvent_frame (k : Pack) (d : Dev) :
    (ageEvent k d).draws = d.draws ∧ (ageEvent k d).profile = d.profile ∧ (ageEvent k d).pins = d.pins ∧
    (ageEvent k d).mse = d.mse ∧ (ageEvent k d).ktu = d.ktu ∧ (ageEvent k d).chg = d.chg ∧
    (ageEvent k d).tfu = d.tfu ∧ (ageEvent k d).ppu = d.ppu ∧ (ageEvent k d).wku = d.wku ∧
    (ageEvent k d).segs = d.segs ∧ (ageEvent k d).tst = d.tst ∧ (ageEvent k d).pli = d.pli ∧
    (ageEvent k d).nsu = d.nsu := by
  unfold ageEvent
  repeat' split
  all_goals simp

@[simp] theorem allocationEvent_frame (d : Dev) :
    (allocationEvent d).draws = d.draws ∧ (allocationEvent d).profile = d.profile ∧ (allocationEvent d).pins = d.pins ∧
    (allocationEvent d).mse = d.mse ∧ (allocationEvent d).ktu = d.ktu ∧
    (allocationEvent d).pkm = d.pkm ∧ (allocationEvent d).tfu = d.tfu ∧
    (allocationEvent d).ppu = d.ppu ∧ (allocationEvent d).wku = d.wku ∧
    (allocationEvent d).tst = d.tst ∧ (allocationEvent d).pli.linkUp = d.pli.linkUp := by
  unfold allocationEvent
  dsimp only
  refine ⟨?_, ?_, ?_, ?_, ?_, ?_, ?_, ?_, ?_, ?_, ?_⟩ <;>
    (repeat' split) <;> simp

@[simp] theorem fastChargeEvent_frame (k : Pack) (d : Dev) :
    (fastChargeEvent k d).draws = d.draws ∧ (fastChargeEvent k d).profile = d.profile ∧ (fastChargeEvent k d).pins = d.pins ∧
    (fastChargeEvent k d).mse = d.mse ∧ (fastChargeEvent k d).ktu = d.ktu ∧
    (fastChargeEvent k d).pkm = d.pkm ∧ (fastChargeEvent k d).tfu = d.tfu ∧
    (fastChargeEvent k d).ppu = d.ppu ∧ (fastChargeEvent k d).wku = d.wku ∧
    (fastChargeEvent k d).tst = d.tst ∧ (fastChargeEvent k d).pli.linkUp = d.pli.linkUp := by
  unfold fastChargeEvent
  repeat' split
  all_goals simp

@[simp] theorem refreshEvent_frame (d : Dev) :
    (refreshEvent d).draws = d.draws ∧ (refreshEvent d).profile = d.profile ∧ (refreshEvent d).pins = d.pins ∧
    (refreshEvent d).mse = d.mse ∧ (refreshEvent d).ktu = d.ktu ∧ (refreshEvent d).pkm = d.pkm ∧
    (refreshEvent d).tfu = d.tfu ∧ (refreshEvent d).ppu = d.ppu ∧ (refreshEvent d).wku = d.wku ∧
    (refreshEvent d).tst = d.tst ∧ (refreshEvent d).pli.linkUp = d.pli.linkUp := by
  unfold refreshEvent
  repeat' split
  all_goals simp

@[simp] theorem skinFailed_frame (d : Dev) :
    (skinFailed d).draws = d.draws ∧ (skinFailed d).profile = d.profile ∧ (skinFailed d).pins = d.pins ∧
    (skinFailed d).tst = d.tst := by
  unfold skinFailed
  dsimp only
  refine ⟨?_, ?_, ?_, ?_⟩ <;>
    (repeat' split) <;> simp

@[simp] theorem skinCompleted_frame (c : Completion) (d : Dev) :
    (skinCompleted c d).draws = d.draws ∧ (skinCompleted c d).profile = d.profile ∧ (skinCompleted c d).pins = d.pins ∧
    (skinCompleted c d).tst = d.tst := by
  unfold skinCompleted
  repeat' split
  all_goals simp

@[simp] theorem skinTimerEvent_frame (d : Dev) :
    (skinTimerEvent d).draws = d.draws ∧ (skinTimerEvent d).profile = d.profile ∧ (skinTimerEvent d).pins = d.pins ∧
    (skinTimerEvent d).tst = d.tst := by
  unfold skinTimerEvent
  dsimp only
  refine ⟨?_, ?_, ?_, ?_⟩ <;>
    (repeat' split) <;> simp

@[simp] theorem hostTimeoutEvent_frame (d : Dev) :
    (hostTimeoutEvent d).draws = d.draws ∧ (hostTimeoutEvent d).profile = d.profile ∧ (hostTimeoutEvent d).pins = d.pins ∧
    (hostTimeoutEvent d).tst = d.tst ∧ (hostTimeoutEvent d).tfu.zone = d.tfu.zone := by
  unfold hostTimeoutEvent
  repeat' split
  all_goals simp

@[simp] theorem takeTempReport_frame (payload : List Byte) (d : Dev) :
    (takeTempReport payload d).draws = d.draws ∧ (takeTempReport payload d).profile = d.profile ∧ (takeTempReport payload d).pins = d.pins ∧
    (takeTempReport payload d).tst = d.tst ∧ (takeTempReport payload d).tfu.zone = d.tfu.zone := by
  unfold takeTempReport
  repeat' split
  all_goals simp

@[simp] theorem restartIdle_frame (g : Seg) (d : Dev) :
    (restartIdle g d).draws = d.draws ∧ (restartIdle g d).profile = d.profile ∧ (restartIdle g d).pins = d.pins ∧
    (restartIdle g d).mse = d.mse ∧ (restartIdle g d).ktu = d.ktu ∧ (restartIdle g d).pkm = d.pkm ∧
    (restartIdle g d).chg = d.chg ∧ (restartIdle g d).tfu = d.tfu ∧ (restartIdle g d).ppu = d.ppu ∧
    (restartIdle g d).wku = d.wku ∧ (restartIdle g d).tst = d.tst ∧ (restartIdle g d).pli = d.pli ∧
    (restartIdle g d).nsu = d.nsu := by
  unfold restartIdle
  repeat' split
  all_goals simp

@[simp] theorem answerHub_frame (t : Txn) (c : Completion) (d : Dev) :
    (answerHub t c d).draws = d.draws ∧ (answerHub t c d).profile = d.profile ∧ (answerHub t c d).pins = d.pins ∧
    (answerHub t c d).mse = d.mse ∧ (answerHub t c d).ktu = d.ktu ∧ (answerHub t c d).pkm = d.pkm ∧
    (answerHub t c d).chg = d.chg ∧ (answerHub t c d).tfu = d.tfu ∧ (answerHub t c d).ppu = d.ppu ∧
    (answerHub t c d).wku = d.wku ∧ (answerHub t c d).segs = d.segs ∧
    (answerHub t c d).tst = d.tst ∧ (answerHub t c d).nsu = d.nsu ∧
    (answerHub t c d).pli.linkUp = d.pli.linkUp := by
  unfold answerHub
  repeat' split
  all_goals simp

@[simp] theorem hubCompleted_frame (g : Seg) (t : Txn) (c : Completion) (d : Dev) :
    (hubCompleted g t c d).draws = d.draws ∧ (hubCompleted g t c d).profile = d.profile ∧ (hubCompleted g t c d).pins = d.pins ∧
    (hubCompleted g t c d).mse = d.mse ∧ (hubCompleted g t c d).ktu = d.ktu ∧
    (hubCompleted g t c d).pkm = d.pkm ∧ (hubCompleted g t c d).chg = d.chg ∧
    (hubCompleted g t c d).tfu = d.tfu ∧ (hubCompleted g t c d).ppu = d.ppu ∧
    (hubCompleted g t c d).wku = d.wku ∧ (hubCompleted g t c d).tst = d.tst ∧
    (hubCompleted g t c d).nsu = d.nsu ∧ (hubCompleted g t c d).pli.linkUp = d.pli.linkUp := by
  unfold hubCompleted
  repeat' split
  all_goals simp

@[simp] theorem deliver_frame (g : Seg) (t : Txn) (c : Completion) (d : Dev) :
    (deliver g t c d).draws = d.draws ∧ (deliver g t c d).profile = d.profile ∧ (deliver g t c d).pins = d.pins ∧
    (deliver g t c d).tst = d.tst := by
  unfold deliver
  repeat' split
  all_goals simp

@[simp] theorem linesHigh_frame (g : Seg) (d : Dev) :
    (linesHigh g d).draws = d.draws ∧ (linesHigh g d).profile = d.profile ∧ (linesHigh g d).mse = d.mse ∧
    (linesHigh g d).ktu = d.ktu ∧ (linesHigh g d).pkm = d.pkm ∧ (linesHigh g d).chg = d.chg ∧
    (linesHigh g d).tfu = d.tfu ∧ (linesHigh g d).ppu = d.ppu ∧ (linesHigh g d).wku = d.wku ∧
    (linesHigh g d).segs = d.segs ∧ (linesHigh g d).tst = d.tst ∧ (linesHigh g d).pli = d.pli ∧
    (linesHigh g d).nsu = d.nsu := by
  unfold linesHigh
  refine ⟨?_, ?_, ?_, ?_, ?_, ?_, ?_, ?_, ?_, ?_, ?_, ?_, ?_⟩ <;>
    rfl

@[simp] theorem becomeIdle_frame (g : Seg) (d : Dev) :
    (becomeIdle g d).draws = d.draws ∧ (becomeIdle g d).profile = d.profile ∧ (becomeIdle g d).pins = d.pins ∧
    (becomeIdle g d).mse = d.mse ∧ (becomeIdle g d).ktu = d.ktu ∧ (becomeIdle g d).pkm = d.pkm ∧
    (becomeIdle g d).chg = d.chg ∧ (becomeIdle g d).tfu = d.tfu ∧ (becomeIdle g d).ppu = d.ppu ∧
    (becomeIdle g d).wku = d.wku ∧ (becomeIdle g d).tst = d.tst ∧ (becomeIdle g d).nsu = d.nsu ∧
    (becomeIdle g d).pli.linkUp = d.pli.linkUp := by
  simp [becomeIdle]

@[simp] theorem finishTxn_frame (g : Seg) (t : Txn) (c : Completion) (d : Dev) :
    (finishTxn g t c d).draws = d.draws ∧ (finishTxn g t c d).profile = d.profile ∧ (finishTxn g t c d).tst = d.tst := by
  simp [finishTxn]

@[simp] theorem showStretch_frame (g : Seg) (d : Dev) :
    (showStretch g d).draws = d.draws ∧ (showStretch g d).profile = d.profile ∧ (showStretch g d).mse = d.mse ∧
    (showStretch g d).ktu = d.ktu ∧ (showStretch g d).pkm = d.pkm ∧
    (showStretch g d).chg = d.chg ∧ (showStretch g d).tfu = d.tfu ∧
    (showStretch g d).ppu = d.ppu ∧ (showStretch g d).wku = d.wku ∧
    (showStretch g d).segs = d.segs ∧ (showStretch g d).tst = d.tst ∧
    (showStretch g d).pli = d.pli ∧ (showStretch g d).nsu = d.nsu := by
  unfold showStretch
  split <;> simp

/-- A stretch timeout moves no line but the clock of its segment, and leaves a line low that is waited on. -/
theorem showStretch_pins (g : Seg) (d : Dev) :
    (showStretch g d).pins =
      { d.pins with clockHigh :=
          if d.waitsOnLine g then d.pins.clockHigh else d.pins.clockHigh.set g.ix false } := by
  unfold showStretch
  split <;> simp

@[simp] theorem timeoutTxn_frame (g : Seg) (t : Txn) (d : Dev) :
    (timeoutTxn g t d).draws = d.draws ∧ (timeoutTxn g t d).profile = d.profile ∧
    (timeoutTxn g t d).pins = (showStretch g d).pins ∧ (timeoutTxn g t d).tst = d.tst := by
  simp [timeoutTxn]

@[simp] theorem endTxn_frame (g : Seg) (t : Txn) (e : BusEnd) (d : Dev) :
    (endTxn g t e d).draws = d.draws ∧ (endTxn g t e d).profile = d.profile ∧ (endTxn g t e d).tst = d.tst := by
  unfold endTxn
  repeat' split
  all_goals simp

@[simp] theorem transactionEvent_frame (g : Seg) (e : BusEnd) (d : Dev) :
    (transactionEvent g e d).draws = d.draws ∧ (transactionEvent g e d).profile = d.profile ∧ (transactionEvent g e d).tst = d.tst := by
  unfold transactionEvent
  repeat' split
  all_goals simp

@[simp] theorem completionFor_frame (g : Seg) (who : Requester) (e : BusEnd) (d : Dev) :
    (completionFor g who e d).draws = d.draws ∧ (completionFor g who e d).profile = d.profile ∧ (completionFor g who e d).tst = d.tst := by
  unfold completionFor
  repeat' split
  all_goals simp

@[simp] theorem stretchEvent_frame (g : Seg) (d : Dev) :
    (stretchEvent g d).draws = d.draws ∧ (stretchEvent g d).profile = d.profile ∧ (stretchEvent g d).tst = d.tst := by
  unfold stretchEvent
  repeat' split
  all_goals simp

@[simp] theorem deliverAll_frame (g : Seg) (c : Completion) (q : List Txn) (d : Dev) :
    (deliverAll g c q d).draws = d.draws ∧ (deliverAll g c q d).profile = d.profile ∧ (deliverAll g c q d).pins = d.pins ∧
    (deliverAll g c q d).tst = d.tst := by
  unfold deliverAll
  refine ⟨?_, ?_, ?_, ?_⟩
  · exact foldl_frame (fun d : Dev => d.draws) _ (by intros; simp) _ _ rfl
  · exact foldl_frame (fun d : Dev => d.profile) _ (by intros; simp) _ _ rfl
  · exact foldl_frame (fun d : Dev => d.pins) _ (by intros; simp) _ _ rfl
  · exact foldl_frame (fun d : Dev => d.tst) _ (by intros; simp) _ _ rfl

@[simp] theorem enterFault_frame (g : Seg) (d : Dev) :
    (enterFault g d).draws = d.draws ∧ (enterFault g d).profile = d.profile ∧ (enterFault g d).pins = d.pins ∧
    (enterFault g d).tst = d.tst := by
  simp [enterFault]

@[simp] theorem recovered_frame (g : Seg) (d : Dev) :
    (recovered g d).draws = d.draws ∧ (recovered g d).profile = d.profile ∧ (recovered g d).pins = d.pins ∧
    (recovered g d).mse = d.mse ∧ (recovered g d).ktu = d.ktu ∧ (recovered g d).pkm = d.pkm ∧
    (recovered g d).chg = d.chg ∧ (recovered g d).tfu = d.tfu ∧ (recovered g d).ppu = d.ppu ∧
    (recovered g d).wku = d.wku ∧ (recovered g d).tst = d.tst ∧
    (recovered g d).pli.linkUp = d.pli.linkUp := by
  unfold recovered
  dsimp only
  refine ⟨?_, ?_, ?_, ?_, ?_, ?_, ?_, ?_, ?_, ?_, ?_, ?_⟩ <;>
    (repeat' split) <;> simp

@[simp] theorem recoveryLines_frame (g : Seg) (high : Bool) (d : Dev) :
    (recoveryLines g high d).draws = d.draws ∧ (recoveryLines g high d).profile = d.profile ∧ (recoveryLines g high d).mse = d.mse ∧
    (recoveryLines g high d).ktu = d.ktu ∧ (recoveryLines g high d).pkm = d.pkm ∧
    (recoveryLines g high d).chg = d.chg ∧ (recoveryLines g high d).tfu = d.tfu ∧
    (recoveryLines g high d).ppu = d.ppu ∧ (recoveryLines g high d).wku = d.wku ∧
    (recoveryLines g high d).segs = d.segs ∧ (recoveryLines g high d).tst = d.tst ∧
    (recoveryLines g high d).pli = d.pli ∧ (recoveryLines g high d).nsu = d.nsu := by
  simp [recoveryLines]

@[simp] theorem recoveryEvent_frame (g : Seg) (high : Bool) (d : Dev) :
    (recoveryEvent g high d).draws = d.draws ∧ (recoveryEvent g high d).profile = d.profile ∧ (recoveryEvent g high d).tst = d.tst := by
  unfold recoveryEvent
  repeat' split
  all_goals simp

@[simp] theorem enterHeld_frame (g : Seg) (d : Dev) :
    (enterHeld g d).draws = d.draws ∧ (enterHeld g d).profile = d.profile ∧ (enterHeld g d).pins = d.pins ∧
    (enterHeld g d).tst = d.tst := by
  simp [enterHeld]

@[simp] theorem holdSegment_frame (g : Seg) (i : Nat) (d : Dev) :
    (holdSegment g i d).draws = d.draws ∧ (holdSegment g i d).profile = d.profile ∧ (holdSegment g i d).pins = d.pins ∧
    (holdSegment g i d).tst = d.tst := by
  unfold holdSegment
  repeat' split
  all_goals simp

@[simp] theorem leaveHeld_frame (g : Seg) (d : Dev) :
    (leaveHeld g d).draws = d.draws ∧ (leaveHeld g d).profile = d.profile ∧ (leaveHeld g d).pins = d.pins ∧
    (leaveHeld g d).mse = d.mse ∧ (leaveHeld g d).ktu = d.ktu ∧ (leaveHeld g d).pkm = d.pkm ∧
    (leaveHeld g d).tfu = d.tfu ∧ (leaveHeld g d).ppu = d.ppu ∧ (leaveHeld g d).wku = d.wku ∧
    (leaveHeld g d).tst = d.tst ∧ (leaveHeld g d).pli.linkUp = d.pli.linkUp := by
  simp [leaveHeld]

@[simp] theorem releaseSegment_frame (g : Seg) (i : Nat) (d : Dev) :
    (releaseSegment g i d).draws = d.draws ∧ (releaseSegment g i d).profile = d.profile ∧ (releaseSegment g i d).pins = d.pins ∧
    (releaseSegment g i d).mse = d.mse ∧ (releaseSegment g i d).ktu = d.ktu ∧
    (releaseSegment g i d).pkm = d.pkm ∧ (releaseSegment g i d).tfu = d.tfu ∧
    (releaseSegment g i d).ppu = d.ppu ∧ (releaseSegment g i d).wku = d.wku ∧
    (releaseSegment g i d).tst = d.tst ∧ (releaseSegment g i d).pli.linkUp = d.pli.linkUp := by
  unfold releaseSegment
  repeat' split
  all_goals simp

@[simp] theorem sequenceIdleEvent_frame (g : Seg) (d : Dev) :
    (sequenceIdleEvent g d).draws = d.draws ∧ (sequenceIdleEvent g d).profile = d.profile ∧ (sequenceIdleEvent g d).pins = d.pins ∧
    (sequenceIdleEvent g d).mse = d.mse ∧ (sequenceIdleEvent g d).ktu = d.ktu ∧
    (sequenceIdleEvent g d).pkm = d.pkm ∧ (sequenceIdleEvent g d).chg = d.chg ∧
    (sequenceIdleEvent g d).tfu = d.tfu ∧ (sequenceIdleEvent g d).ppu = d.ppu ∧
    (sequenceIdleEvent g d).wku = d.wku ∧ (sequenceIdleEvent g d).tst = d.tst ∧
    (sequenceIdleEvent g d).pli.linkUp = d.pli.linkUp := by
  unfold sequenceIdleEvent
  repeat' split
  all_goals simp

@[simp] theorem buildFrame_frame (i : StreamId) (remaining : Nat) (half : Bool) (complete : Bool) (d : Dev) :
    (buildFrame i remaining half complete d).draws = d.draws ∧ (buildFrame i remaining half complete d).profile = d.profile ∧
    (buildFrame i remaining half complete d).pins = d.pins ∧
    (buildFrame i remaining half complete d).mse = d.mse ∧
    (buildFrame i remaining half complete d).ktu = d.ktu ∧
    (buildFrame i remaining half complete d).pkm = d.pkm ∧
    (buildFrame i remaining half complete d).chg = d.chg ∧
    (buildFrame i remaining half complete d).tfu = d.tfu ∧
    (buildFrame i remaining half complete d).ppu = d.ppu ∧
    (buildFrame i remaining half complete d).wku = d.wku ∧
    (buildFrame i remaining half complete d).segs = d.segs ∧
    (buildFrame i remaining half complete d).tst = d.tst ∧
    (buildFrame i remaining half complete d).pli = d.pli := by
  unfold buildFrame
  refine ⟨?_, ?_, ?_, ?_, ?_, ?_, ?_, ?_, ?_, ?_, ?_, ?_, ?_⟩ <;>
    rfl

@[simp] theorem batteryReport_frame (d : Dev) :
    (batteryReport d).draws = d.draws ∧ (batteryReport d).profile = d.profile ∧ (batteryReport d).pins = d.pins ∧
    (batteryReport d).mse = d.mse ∧ (batteryReport d).ktu = d.ktu ∧ (batteryReport d).pkm = d.pkm ∧
    (batteryReport d).chg = d.chg ∧ (batteryReport d).tfu = d.tfu ∧ (batteryReport d).ppu = d.ppu ∧
    (batteryReport d).wku = d.wku ∧ (batteryReport d).segs = d.segs ∧
    (batteryReport d).tst = d.tst ∧ (batteryReport d).pli = d.pli := by
  unfold batteryReport
  refine ⟨?_, ?_, ?_, ?_, ?_, ?_, ?_, ?_, ?_, ?_, ?_, ?_, ?_⟩ <;>
    rfl

@[simp] theorem streamEvent_frame (i : StreamId) (d : Dev) :
    (streamEvent i d).draws = d.draws ∧ (streamEvent i d).profile = d.profile ∧ (streamEvent i d).pins = d.pins ∧
    (streamEvent i d).mse = d.mse ∧ (streamEvent i d).ktu = d.ktu ∧ (streamEvent i d).pkm = d.pkm ∧
    (streamEvent i d).chg = d.chg ∧ (streamEvent i d).tfu = d.tfu ∧ (streamEvent i d).ppu = d.ppu ∧
    (streamEvent i d).wku = d.wku ∧ (streamEvent i d).segs = d.segs ∧
    (streamEvent i d).tst = d.tst ∧ (streamEvent i d).pli = d.pli := by
  unfold streamEvent
  dsimp only
  refine ⟨?_, ?_, ?_, ?_, ?_, ?_, ?_, ?_, ?_, ?_, ?_, ?_, ?_⟩ <;>
    (repeat' split) <;> simp

@[simp] theorem switchChanged_frame (x : Switch) (d : Dev) :
    (switchChanged x d).draws = d.draws ∧ (switchChanged x d).profile = d.profile ∧ (switchChanged x d).pins = d.pins ∧
    (switchChanged x d).mse = d.mse ∧ (switchChanged x d).pkm = d.pkm ∧
    (switchChanged x d).tfu = d.tfu ∧ (switchChanged x d).ppu = d.ppu ∧
    (switchChanged x d).wku = d.wku ∧ (switchChanged x d).tst = d.tst ∧
    (switchChanged x d).pli.linkUp = d.pli.linkUp := by
  unfold switchChanged
  repeat' split
  all_goals simp

@[simp] theorem toggleAction_frame (x : Switch) (d : Dev) :
    (toggleAction x d).draws = d.draws ∧ (toggleAction x d).profile = d.profile ∧ (toggleAction x d).pins = d.pins ∧
    (toggleAction x d).mse = d.mse ∧ (toggleAction x d).pkm = d.pkm ∧
    (toggleAction x d).tfu = d.tfu ∧ (toggleAction x d).ppu = d.ppu ∧
    (toggleAction x d).wku = d.wku ∧ (toggleAction x d).pli.linkUp = d.pli.linkUp := by
  unfold toggleAction
  repeat' split
  all_goals simp

@[simp] theorem performAction_frame (id : Nat) (d : Dev) :
    (performAction id d).draws = d.draws ∧ (performAction id d).profile = d.profile ∧ (performAction id d).pins = d.pins ∧
    (performAction id d).mse = d.mse ∧ (performAction id d).pkm = d.pkm ∧
    (performAction id d).tfu = d.tfu ∧ (performAction id d).ppu = d.ppu ∧
    (performAction id d).wku = d.wku ∧ (performAction id d).pli.linkUp = d.pli.linkUp := by
  unfold performAction
  repeat' split
  all_goals simp

@[simp] theorem pressUsed_frame (p : Nat) (u : Used) (synthesized : Bool) (d : Dev) :
    (pressUsed p u synthesized d).draws = d.draws ∧ (pressUsed p u synthesized d).profile = d.profile ∧
    (pressUsed p u synthesized d).pins = d.pins ∧ (pressUsed p u synthesized d).mse = d.mse ∧
    (pressUsed p u synthesized d).pkm = d.pkm ∧ (pressUsed p u synthesized d).chg = d.chg ∧
    (pressUsed p u synthesized d).tfu = d.tfu ∧ (pressUsed p u synthesized d).ppu = d.ppu ∧
    (pressUsed p u synthesized d).wku = d.wku ∧ (pressUsed p u synthesized d).segs = d.segs ∧
    (pressUsed p u synthesized d).tst = d.tst ∧ (pressUsed p u synthesized d).pli = d.pli ∧
    (pressUsed p u synthesized d).nsu = d.nsu := by
  unfold pressUsed
  repeat' split
  all_goals simp

@[simp] theorem pressUp_frame (p : Nat) (d : Dev) :
    (pressUp p d).draws = d.draws ∧ (pressUp p d).profile = d.profile ∧ (pressUp p d).pins = d.pins ∧ (pressUp p d).mse = d.mse ∧
    (pressUp p d).pkm = d.pkm ∧ (pressUp p d).tfu = d.tfu ∧ (pressUp p d).ppu = d.ppu ∧
    (pressUp p d).wku = d.wku ∧ (pressUp p d).pli.linkUp = d.pli.linkUp := by
  unfold pressUp
  dsimp only
  refine ⟨?_, ?_, ?_, ?_, ?_, ?_, ?_, ?_, ?_⟩ <;>
    (repeat' split) <;> simp

@[simp] theorem releaseUp_frame (p : Nat) (synthesized : Bool) (d : Dev) :
    (releaseUp p synthesized d).draws = d.draws ∧ (releaseUp p synthesized d).profile = d.profile ∧ (releaseUp p synthesized d).pins = d.pins ∧
    (releaseUp p synthesized d).mse = d.mse ∧ (releaseUp p synthesized d).pkm = d.pkm ∧
    (releaseUp p synthesized d).chg = d.chg ∧ (releaseUp p synthesized d).tfu = d.tfu ∧
    (releaseUp p synthesized d).ppu = d.ppu ∧ (releaseUp p synthesized d).wku = d.wku ∧
    (releaseUp p synthesized d).segs = d.segs ∧ (releaseUp p synthesized d).tst = d.tst ∧
    (releaseUp p synthesized d).pli = d.pli ∧ (releaseUp p synthesized d).nsu = d.nsu := by
  unfold releaseUp
  repeat' split
  all_goals simp

@[simp] theorem restateLayer_frame (d : Dev) :
    (restateLayer d).draws = d.draws ∧ (restateLayer d).profile = d.profile ∧ (restateLayer d).pins = d.pins ∧
    (restateLayer d).mse = d.mse ∧ (restateLayer d).pkm = d.pkm ∧ (restateLayer d).chg = d.chg ∧
    (restateLayer d).tfu = d.tfu ∧ (restateLayer d).ppu = d.ppu ∧ (restateLayer d).wku = d.wku ∧
    (restateLayer d).segs = d.segs ∧ (restateLayer d).tst = d.tst ∧ (restateLayer d).pli = d.pli ∧
    (restateLayer d).nsu = d.nsu := by
  unfold restateLayer
  refine ⟨?_, ?_, ?_, ?_, ?_, ?_, ?_, ?_, ?_, ?_, ?_, ?_, ?_⟩ <;>
    rfl

@[simp] theorem setRestate_frame (r : Restatement) (d : Dev) :
    (setRestate r d).draws = d.draws ∧ (setRestate r d).profile = d.profile ∧ (setRestate r d).pins = d.pins ∧
    (setRestate r d).mse = d.mse ∧ (setRestate r d).pkm = d.pkm ∧ (setRestate r d).chg = d.chg ∧
    (setRestate r d).tfu = d.tfu ∧ (setRestate r d).ppu = d.ppu ∧ (setRestate r d).wku = d.wku ∧
    (setRestate r d).segs = d.segs ∧ (setRestate r d).tst = d.tst ∧ (setRestate r d).pli = d.pli ∧
    (setRestate r d).nsu = d.nsu := by
  unfold setRestate
  refine ⟨?_, ?_, ?_, ?_, ?_, ?_, ?_, ?_, ?_, ?_, ?_, ?_, ?_⟩ <;>
    rfl

@[simp] theorem visit_frame (p : Nat) (d : Dev) :
    (visit p d).draws = d.draws ∧ (visit p d).profile = d.profile ∧ (visit p d).pins = d.pins ∧ (visit p d).mse = d.mse ∧
    (visit p d).pkm = d.pkm ∧ (visit p d).chg = d.chg ∧ (visit p d).tfu = d.tfu ∧
    (visit p d).ppu = d.ppu ∧ (visit p d).wku = d.wku ∧ (visit p d).segs = d.segs ∧
    (visit p d).tst = d.tst ∧ (visit p d).pli = d.pli ∧ (visit p d).nsu = d.nsu := by
  unfold visit
  dsimp only
  refine ⟨?_, ?_, ?_, ?_, ?_, ?_, ?_, ?_, ?_, ?_, ?_, ?_, ?_⟩ <;>
    (repeat' split) <;> simp

@[simp] theorem restateMove_frame (d : Dev) :
    (restateMove d).1.draws = d.draws ∧ (restateMove d).1.profile = d.profile ∧ (restateMove d).1.pins = d.pins ∧
    (restateMove d).1.mse = d.mse ∧ (restateMove d).1.pkm = d.pkm ∧ (restateMove d).1.chg = d.chg ∧
    (restateMove d).1.tfu = d.tfu ∧ (restateMove d).1.ppu = d.ppu ∧ (restateMove d).1.wku = d.wku ∧
    (restateMove d).1.segs = d.segs ∧ (restateMove d).1.tst = d.tst ∧
    (restateMove d).1.pli = d.pli ∧ (restateMove d).1.nsu = d.nsu := by
  unfold restateMove
  repeat' split
  all_goals simp

@[simp] theorem restateRun_frame (n : Nat) (d : Dev) :
    (restateRun n d).draws = d.draws ∧ (restateRun n d).profile = d.profile ∧ (restateRun n d).pins = d.pins ∧
    (restateRun n d).mse = d.mse ∧ (restateRun n d).pkm = d.pkm ∧ (restateRun n d).chg = d.chg ∧
    (restateRun n d).tfu = d.tfu ∧ (restateRun n d).ppu = d.ppu ∧ (restateRun n d).wku = d.wku ∧
    (restateRun n d).segs = d.segs ∧ (restateRun n d).tst = d.tst ∧ (restateRun n d).pli = d.pli ∧
    (restateRun n d).nsu = d.nsu := by
  induction n generalizing d with
  | zero => simp [restateRun]
  | succ n ih => simp only [restateRun]; split <;> simp [ih]

@[simp] theorem beginRestatement_frame (d : Dev) :
    (beginRestatement d).draws = d.draws ∧ (beginRestatement d).profile = d.profile ∧ (beginRestatement d).pins = d.pins ∧
    (beginRestatement d).mse = d.mse ∧ (beginRestatement d).pkm = d.pkm ∧
    (beginRestatement d).chg = d.chg ∧ (beginRestatement d).tfu = d.tfu ∧
    (beginRestatement d).ppu = d.ppu ∧ (beginRestatement d).wku = d.wku ∧
    (beginRestatement d).segs = d.segs ∧ (beginRestatement d).tst = d.tst ∧
    (beginRestatement d).pli = d.pli ∧ (beginRestatement d).nsu = d.nsu := by
  simp [beginRestatement]

@[simp] theorem swallowPress_frame (p : Nat) (d : Dev) :
    (swallowPress p d).draws = d.draws ∧ (swallowPress p d).profile = d.profile ∧ (swallowPress p d).pins = d.pins ∧
    (swallowPress p d).mse = d.mse ∧ (swallowPress p d).pkm = d.pkm ∧
    (swallowPress p d).chg = d.chg ∧ (swallowPress p d).tfu = d.tfu ∧
    (swallowPress p d).ppu = d.ppu ∧ (swallowPress p d).wku = d.wku ∧
    (swallowPress p d).segs = d.segs ∧ (swallowPress p d).tst = d.tst ∧
    (swallowPress p d).pli = d.pli ∧ (swallowPress p d).nsu = d.nsu := by
  unfold swallowPress
  refine ⟨?_, ?_, ?_, ?_, ?_, ?_, ?_, ?_, ?_, ?_, ?_, ?_, ?_⟩ <;>
    rfl

@[simp] theorem slotPress_frame (p : Nat) (c : Nat) (d : Dev) :
    (slotPress p c d).draws = d.draws ∧ (slotPress p c d).profile = d.profile ∧ (slotPress p c d).pins = d.pins ∧
    (slotPress p c d).mse = d.mse ∧ (slotPress p c d).pkm = d.pkm ∧ (slotPress p c d).chg = d.chg ∧
    (slotPress p c d).tfu = d.tfu ∧ (slotPress p c d).ppu = d.ppu ∧ (slotPress p c d).wku = d.wku ∧
    (slotPress p c d).segs = d.segs ∧ (slotPress p c d).tst = d.tst ∧
    (slotPress p c d).pli = d.pli ∧ (slotPress p c d).nsu = d.nsu := by
  unfold slotPress
  refine ⟨?_, ?_, ?_, ?_, ?_, ?_, ?_, ?_, ?_, ?_, ?_, ?_, ?_⟩ <;>
    rfl

@[simp] theorem pressDown_frame (p : Nat) (d : Dev) :
    (pressDown p d).draws = d.draws ∧ (pressDown p d).profile = d.profile ∧ (pressDown p d).pins = d.pins ∧
    (pressDown p d).tst = d.tst ∧ (pressDown p d).tfu.zone = d.tfu.zone := by
  unfold pressDown
  repeat' split
  all_goals simp

@[simp] theorem markReleased_frame (sy : Bool) (d : Dev) :
    (markReleased sy d).draws = d.draws ∧ (markReleased sy d).profile = d.profile ∧ (markReleased sy d).pins = d.pins ∧
    (markReleased sy d).mse = d.mse ∧ (markReleased sy d).pkm = d.pkm ∧ (markReleased sy d).chg = d.chg ∧
    (markReleased sy d).tfu = d.tfu ∧ (markReleased sy d).ppu = d.ppu ∧ (markReleased sy d).wku = d.wku ∧
    (markReleased sy d).segs = d.segs ∧ (markReleased sy d).tst = d.tst ∧ (markReleased sy d).pli = d.pli ∧
    (markReleased sy d).nsu = d.nsu := by
  unfold markReleased
  refine ⟨?_, ?_, ?_, ?_, ?_, ?_, ?_, ?_, ?_, ?_, ?_, ?_, ?_⟩ <;>
    rfl

@[simp] theorem releaseDown_frame (p : Nat) (sy : Bool) (d : Dev) :
    (releaseDown p sy d).draws = d.draws ∧ (releaseDown p sy d).profile = d.profile ∧ (releaseDown p sy d).pins = d.pins ∧
    (releaseDown p sy d).mse = d.mse ∧ (releaseDown p sy d).pkm = d.pkm ∧ (releaseDown p sy d).chg = d.chg ∧
    (releaseDown p sy d).tfu = d.tfu ∧ (releaseDown p sy d).ppu = d.ppu ∧ (releaseDown p sy d).wku = d.wku ∧
    (releaseDown p sy d).segs = d.segs ∧ (releaseDown p sy d).tst = d.tst ∧
    (releaseDown p sy d).pli = d.pli ∧ (releaseDown p sy d).nsu = d.nsu := by
  unfold releaseDown
  repeat' split
  all_goals simp

@[simp] theorem resyncDown_frame (d : Dev) :
    (resyncDown d).draws = d.draws ∧ (resyncDown d).profile = d.profile ∧ (resyncDown d).pins = d.pins ∧
    (resyncDown d).mse = d.mse ∧ (resyncDown d).pkm = d.pkm ∧ (resyncDown d).chg = d.chg ∧
    (resyncDown d).tfu = d.tfu ∧ (resyncDown d).ppu = d.ppu ∧ (resyncDown d).wku = d.wku ∧
    (resyncDown d).segs = d.segs ∧ (resyncDown d).tst = d.tst ∧ (resyncDown d).pli = d.pli ∧
    (resyncDown d).nsu = d.nsu := by
  unfold resyncDown
  dsimp only
  refine ⟨?_, ?_, ?_, ?_, ?_, ?_, ?_, ?_, ?_, ?_, ?_, ?_, ?_⟩ <;>
    (repeat' split) <;> simp

@[simp] theorem takeEntry_frame (e : RawEntry) (d : Dev) :
    (takeEntry e d).draws = d.draws ∧ (takeEntry e d).profile = d.profile ∧ (takeEntry e d).pins = d.pins ∧
    (takeEntry e d).tfu.zone = d.tfu.zone := by
  unfold takeEntry
  repeat' split
  all_goals simp

@[simp] theorem takeRawEvent_frame (d : Dev) :
    (takeRawEvent d).draws = d.draws ∧ (takeRawEvent d).profile = d.profile ∧ (takeRawEvent d).pins = d.pins ∧
    (takeRawEvent d).tfu.zone = d.tfu.zone := by
  unfold takeRawEvent
  repeat' split
  all_goals simp

@[simp] theorem resumeEvent_frame (d : Dev) :
    (resumeEvent d).draws = d.draws ∧ (resumeEvent d).profile = d.profile ∧ (resumeEvent d).pins = d.pins ∧
    (resumeEvent d).mse = d.mse ∧ (resumeEvent d).pkm = d.pkm ∧ (resumeEvent d).chg = d.chg ∧
    (resumeEvent d).tfu = d.tfu ∧ (resumeEvent d).ppu = d.ppu ∧ (resumeEvent d).wku = d.wku ∧
    (resumeEvent d).segs = d.segs ∧ (resumeEvent d).tst = d.tst ∧ (resumeEvent d).pli = d.pli ∧
    (resumeEvent d).nsu = d.nsu := by
  unfold resumeEvent
  repeat' split
  all_goals simp

@[simp] theorem badRequest_frame (i : Nat) (d : Dev) :
    (badRequest i d).draws = d.draws ∧ (badRequest i d).profile = d.profile ∧ (badRequest i d).pins = d.pins ∧
    (badRequest i d).mse = d.mse ∧ (badRequest i d).ktu = d.ktu ∧ (badRequest i d).pkm = d.pkm ∧
    (badRequest i d).chg = d.chg ∧ (badRequest i d).tfu = d.tfu ∧ (badRequest i d).ppu = d.ppu ∧
    (badRequest i d).wku = d.wku ∧ (badRequest i d).segs = d.segs ∧ (badRequest i d).tst = d.tst ∧
    (badRequest i d).nsu = d.nsu ∧ (badRequest i d).pli.linkUp = d.pli.linkUp := by
  simp [badRequest]

@[simp] theorem reqKeyResync_frame (payload : List Byte) (i : Nat) (d : Dev) :
    (reqKeyResync payload i d).draws = d.draws ∧ (reqKeyResync payload i d).profile = d.profile ∧ (reqKeyResync payload i d).pins = d.pins ∧
    (reqKeyResync payload i d).mse = d.mse ∧ (reqKeyResync payload i d).pkm = d.pkm ∧
    (reqKeyResync payload i d).chg = d.chg ∧ (reqKeyResync payload i d).tfu = d.tfu ∧
    (reqKeyResync payload i d).ppu = d.ppu ∧ (reqKeyResync payload i d).wku = d.wku ∧
    (reqKeyResync payload i d).segs = d.segs ∧ (reqKeyResync payload i d).tst = d.tst ∧
    (reqKeyResync payload i d).nsu = d.nsu ∧
    (reqKeyResync payload i d).pli.linkUp = d.pli.linkUp := by
  unfold reqKeyResync
  repeat' split
  all_goals simp

@[simp] theorem readTable_frame (t : TableId) (payload : List Byte) (i : Nat) (d : Dev) :
    (readTable t payload i d).draws = d.draws ∧ (readTable t payload i d).profile = d.profile ∧ (readTable t payload i d).pins = d.pins ∧
    (readTable t payload i d).mse = d.mse ∧ (readTable t payload i d).ktu = d.ktu ∧
    (readTable t payload i d).pkm = d.pkm ∧ (readTable t payload i d).chg = d.chg ∧
    (readTable t payload i d).tfu = d.tfu ∧ (readTable t payload i d).ppu = d.ppu ∧
    (readTable t payload i d).wku = d.wku ∧ (readTable t payload i d).segs = d.segs ∧
    (readTable t payload i d).nsu = d.nsu ∧
    (readTable t payload i d).pli.linkUp = d.pli.linkUp := by
  simp [readTable]

@[simp] theorem reqTableRead_frame (payload : List Byte) (i : Nat) (d : Dev) :
    (reqTableRead payload i d).draws = d.draws ∧ (reqTableRead payload i d).profile = d.profile ∧ (reqTableRead payload i d).pins = d.pins ∧
    (reqTableRead payload i d).mse = d.mse ∧ (reqTableRead payload i d).ktu = d.ktu ∧
    (reqTableRead payload i d).pkm = d.pkm ∧ (reqTableRead payload i d).chg = d.chg ∧
    (reqTableRead payload i d).tfu = d.tfu ∧ (reqTableRead payload i d).ppu = d.ppu ∧
    (reqTableRead payload i d).wku = d.wku ∧ (reqTableRead payload i d).segs = d.segs ∧
    (reqTableRead payload i d).nsu = d.nsu ∧
    (reqTableRead payload i d).pli.linkUp = d.pli.linkUp := by
  unfold reqTableRead
  repeat' split
  all_goals simp

@[simp] theorem thermalWritten_frame (d : Dev) :
    (thermalWritten d).draws = d.draws ∧ (thermalWritten d).profile = d.profile ∧ (thermalWritten d).pins = d.pins ∧
    (thermalWritten d).tst = d.tst := by
  simp [thermalWritten]

@[simp] theorem settingsWritten_frame (old : SettingsTab) (d : Dev) :
    (settingsWritten old d).draws = d.draws ∧ (settingsWritten old d).profile = d.profile ∧ (settingsWritten old d).pins = d.pins ∧
    (settingsWritten old d).mse = d.mse ∧ (settingsWritten old d).pkm = d.pkm ∧
    (settingsWritten old d).tfu = d.tfu ∧ (settingsWritten old d).ppu = d.ppu ∧
    (settingsWritten old d).wku = d.wku ∧ (settingsWritten old d).tst = d.tst ∧
    (settingsWritten old d).pli.linkUp = d.pli.linkUp := by
  unfold settingsWritten
  dsimp only
  refine ⟨?_, ?_, ?_, ?_, ?_, ?_, ?_, ?_, ?_, ?_⟩ <;>
    (repeat' split) <;> simp

@[simp] theorem handOn_frame (t : TableId) (first : Nat) (count : Nat) (old : SettingsTab) (d : Dev) :
    (handOn t first count old d).draws = d.draws ∧ (handOn t first count old d).profile = d.profile ∧ (handOn t first count old d).pins = d.pins ∧
    (handOn t first count old d).tst = d.tst := by
  unfold handOn
  repeat' split
  all_goals simp

@[simp] theorem applyWrite_frame (t : TableId) (payload : List Byte) (i : Nat) (d : Dev) :
    (applyWrite t payload i d).draws = d.draws ∧ (applyWrite t payload i d).profile = d.profile ∧ (applyWrite t payload i d).pins = d.pins := by
  simp [applyWrite]

@[simp] theorem reqTableWrite_frame (payload : List Byte) (i : Nat) (d : Dev) :
    (reqTableWrite payload i d).draws = d.draws ∧ (reqTableWrite payload i d).profile = d.profile ∧
    (reqTableWrite payload i d).pins = d.pins := by
  unfold reqTableWrite
  repeat' split
  all_goals simp

@[simp] theorem reqTableWriteCond_frame (payload : List Byte) (i : Nat) (d : Dev) :
    (reqTableWriteCond payload i d).draws = d.draws ∧ (reqTableWriteCond payload i d).profile = d.profile ∧
    (reqTableWriteCond payload i d).pins = d.pins := by
  unfold reqTableWriteCond
  dsimp only
  refine ⟨?_, ?_, ?_⟩ <;>
    (repeat' split) <;> simp

@[simp] theorem reqTableLock_frame (payload : List Byte) (i : Nat) (d : Dev) :
    (reqTableLock payload i d).draws = d.draws ∧ (reqTableLock payload i d).profile = d.profile ∧ (reqTableLock payload i d).pins = d.pins ∧
    (reqTableLock payload i d).mse = d.mse ∧ (reqTableLock payload i d).ktu = d.ktu ∧
    (reqTableLock payload i d).pkm = d.pkm ∧ (reqTableLock payload i d).chg = d.chg ∧
    (reqTableLock payload i d).tfu = d.tfu ∧ (reqTableLock payload i d).ppu = d.ppu ∧
    (reqTableLock payload i d).wku = d.wku ∧ (reqTableLock payload i d).segs = d.segs ∧
    (reqTableLock payload i d).nsu = d.nsu ∧
    (reqTableLock payload i d).pli.linkUp = d.pli.linkUp := by
  unfold reqTableLock
  dsimp only
  refine ⟨?_, ?_, ?_, ?_, ?_, ?_, ?_, ?_, ?_, ?_, ?_, ?_, ?_⟩ <;>
    (repeat' split) <;> simp

@[simp] theorem reqWakeSet_frame (payload : List Byte) (i : Nat) (d : Dev) :
    (reqWakeSet payload i d).draws = d.draws ∧ (reqWakeSet payload i d).profile = d.profile ∧ (reqWakeSet payload i d).pins = d.pins ∧
    (reqWakeSet payload i d).ktu = d.ktu ∧ (reqWakeSet payload i d).pkm = d.pkm ∧
    (reqWakeSet payload i d).chg = d.chg ∧ (reqWakeSet payload i d).tfu = d.tfu ∧
    (reqWakeSet payload i d).ppu = d.ppu ∧ (reqWakeSet payload i d).wku = d.wku ∧
    (reqWakeSet payload i d).segs = d.segs ∧ (reqWakeSet payload i d).nsu = d.nsu ∧
    (reqWakeSet payload i d).pli.linkUp = d.pli.linkUp := by
  unfold reqWakeSet
  dsimp only
  refine ⟨?_, ?_, ?_, ?_, ?_, ?_, ?_, ?_, ?_, ?_, ?_, ?_⟩ <;>
    (repeat' split) <;> simp

@[simp] theorem reqWakeStatusRead_frame (payload : List Byte) (i : Nat) (d : Dev) :
    (reqWakeStatusRead payload i d).draws = d.draws ∧ (reqWakeStatusRead payload i d).profile = d.profile ∧
    (reqWakeStatusRead payload i d).pins = d.pins ∧ (reqWakeStatusRead payload i d).mse = d.mse ∧
    (reqWakeStatusRead payload i d).ktu = d.ktu ∧ (reqWakeStatusRead payload i d).pkm = d.pkm ∧
    (reqWakeStatusRead payload i d).chg = d.chg ∧ (reqWakeStatusRead payload i d).tfu = d.tfu ∧
    (reqWakeStatusRead payload i d).ppu = d.ppu ∧ (reqWakeStatusRead payload i d).wku = d.wku ∧
    (reqWakeStatusRead payload i d).segs = d.segs ∧ (reqWakeStatusRead payload i d).tst = d.tst ∧
    (reqWakeStatusRead payload i d).nsu = d.nsu ∧
    (reqWakeStatusRead payload i d).pli.linkUp = d.pli.linkUp := by
  unfold reqWakeStatusRead
  repeat' split
  all_goals simp

@[simp] theorem reqWakeStatusClear_frame (payload : List Byte) (i : Nat) (d : Dev) :
    (reqWakeStatusClear payload i d).draws = d.draws ∧ (reqWakeStatusClear payload i d).profile = d.profile ∧
    (reqWakeStatusClear payload i d).pins = d.pins ∧ (reqWakeStatusClear payload i d).mse = d.mse ∧
    (reqWakeStatusClear payload i d).ktu = d.ktu ∧ (reqWakeStatusClear payload i d).pkm = d.pkm ∧
    (reqWakeStatusClear payload i d).chg = d.chg ∧ (reqWakeStatusClear payload i d).tfu = d.tfu ∧
    (reqWakeStatusClear payload i d).ppu = d.ppu ∧ (reqWakeStatusClear payload i d).segs = d.segs ∧
    (reqWakeStatusClear payload i d).tst = d.tst ∧ (reqWakeStatusClear payload i d).nsu = d.nsu ∧
    (reqWakeStatusClear payload i d).pli.linkUp = d.pli.linkUp := by
  unfold reqWakeStatusClear
  repeat' split
  all_goals simp

@[simp] theorem takePowerRequest_frame (v : PowerReq) (i : Nat) (d : Dev) :
    (takePowerRequest v i d).draws = d.draws ∧ (takePowerRequest v i d).profile = d.profile ∧ (takePowerRequest v i d).pins = d.pins ∧
    (takePowerRequest v i d).mse = d.mse ∧ (takePowerRequest v i d).ktu = d.ktu ∧
    (takePowerRequest v i d).pkm = d.pkm ∧ (takePowerRequest v i d).chg = d.chg ∧
    (takePowerRequest v i d).tfu = d.tfu ∧ (takePowerRequest v i d).wku = d.wku ∧
    (takePowerRequest v i d).segs = d.segs ∧ (takePowerRequest v i d).tst = d.tst ∧
    (takePowerRequest v i d).nsu = d.nsu ∧ (takePowerRequest v i d).pli.linkUp = d.pli.linkUp ∧
    (takePowerRequest v i d).ppu.power = d.ppu.power := by
  unfold takePowerRequest
  repeat' split
  all_goals simp

@[simp] theorem reqPowerRequest_frame (payload : List Byte) (i : Nat) (d : Dev) :
    (reqPowerRequest payload i d).draws = d.draws ∧ (reqPowerRequest payload i d).profile = d.profile ∧
    (reqPowerRequest payload i d).pins = d.pins ∧ (reqPowerRequest payload i d).mse = d.mse ∧
    (reqPowerRequest payload i d).ktu = d.ktu ∧ (reqPowerRequest payload i d).pkm = d.pkm ∧
    (reqPowerRequest payload i d).chg = d.chg ∧ (reqPowerRequest payload i d).tfu = d.tfu ∧
    (reqPowerRequest payload i d).wku = d.wku ∧ (reqPowerRequest payload i d).segs = d.segs ∧
    (reqPowerRequest payload i d).tst = d.tst ∧ (reqPowerRequest payload i d).nsu = d.nsu ∧
    (reqPowerRequest payload i d).pli.linkUp = d.pli.linkUp ∧
    (reqPowerRequest payload i d).ppu.power = d.ppu.power := by
  unfold reqPowerRequest
  repeat' split
  all_goals simp

@[simp] theorem clearFault_frame (k : Pack) (d : Dev) :
    (clearFault k d).draws = d.draws ∧ (clearFault k d).profile = d.profile ∧ (clearFault k d).pins = d.pins ∧
    (clearFault k d).mse = d.mse ∧ (clearFault k d).ktu = d.ktu ∧ (clearFault k d).pkm = d.pkm ∧
    (clearFault k d).tfu = d.tfu ∧ (clearFault k d).ppu = d.ppu ∧ (clearFault k d).wku = d.wku ∧
    (clearFault k d).tst = d.tst ∧ (clearFault k d).pli.linkUp = d.pli.linkUp := by
  unfold clearFault
  repeat' split
  all_goals simp

@[simp] theorem reqChargeClear_frame (payload : List Byte) (i : Nat) (d : Dev) :
    (reqChargeClear payload i d).draws = d.draws ∧ (reqChargeClear payload i d).profile = d.profile ∧ (reqChargeClear payload i d).pins = d.pins ∧
    (reqChargeClear payload i d).mse = d.mse ∧ (reqChargeClear payload i d).ktu = d.ktu ∧
    (reqChargeClear payload i d).pkm = d.pkm ∧ (reqChargeClear payload i d).tfu = d.tfu ∧
    (reqChargeClear payload i d).ppu = d.ppu ∧ (reqChargeClear payload i d).wku = d.wku ∧
    (reqChargeClear payload i d).tst = d.tst ∧
    (reqChargeClear payload i d).pli.linkUp = d.pli.linkUp := by
  unfold reqChargeClear
  repeat' split
  all_goals simp

@[simp] theorem reqSegmentReset_frame (payload : List Byte) (i : Nat) (d : Dev) :
    (reqSegmentReset payload i d).draws = d.draws ∧ (reqSegmentReset payload i d).profile = d.profile ∧
    (reqSegmentReset payload i d).pins = d.pins ∧ (reqSegmentReset payload i d).tst = d.tst := by
  unfold reqSegmentReset
  repeat' split
  all_goals simp

@[simp] theorem drainSegment_frame (g : Seg) (i : Nat) (d : Dev) :
    (drainSegment g i d).draws = d.draws ∧ (drainSegment g i d).profile = d.profile ∧ (drainSegment g i d).pins = d.pins ∧
    (drainSegment g i d).mse = d.mse ∧ (drainSegment g i d).ktu = d.ktu ∧
    (drainSegment g i d).pkm = d.pkm ∧ (drainSegment g i d).chg = d.chg ∧
    (drainSegment g i d).tfu = d.tfu ∧ (drainSegment g i d).ppu = d.ppu ∧
    (drainSegment g i d).wku = d.wku ∧ (drainSegment g i d).tst = d.tst ∧
    (drainSegment g i d).nsu = d.nsu ∧ (drainSegment g i d).pli.linkUp = d.pli.linkUp := by
  unfold drainSegment
  dsimp only
  refine ⟨?_, ?_, ?_, ?_, ?_, ?_, ?_, ?_, ?_, ?_, ?_, ?_, ?_⟩ <;>
    (repeat' split) <;> simp

@[simp] theorem reqDrain_frame (payload : List Byte) (i : Nat) (d : Dev) :
    (reqDrain payload i d).draws = d.draws ∧ (reqDrain payload i d).profile = d.profile ∧ (reqDrain payload i d).pins = d.pins ∧
    (reqDrain payload i d).mse = d.mse ∧ (reqDrain payload i d).ktu = d.ktu ∧
    (reqDrain payload i d).pkm = d.pkm ∧ (reqDrain payload i d).chg = d.chg ∧
    (reqDrain payload i d).tfu = d.tfu ∧ (reqDrain payload i d).ppu = d.ppu ∧
    (reqDrain payload i d).wku = d.wku ∧ (reqDrain payload i d).tst = d.tst ∧
    (reqDrain payload i d).nsu = d.nsu ∧ (reqDrain payload i d).pli.linkUp = d.pli.linkUp := by
  unfold reqDrain
  repeat' split
  all_goals simp

@[simp] theorem passOn_frame (g : Seg) (t : Txn) (i : Nat) (d : Dev) :
    (passOn g t i d).draws = d.draws ∧ (passOn g t i d).profile = d.profile ∧ (passOn g t i d).pins = d.pins ∧
    (passOn g t i d).mse = d.mse ∧ (passOn g t i d).ktu = d.ktu ∧ (passOn g t i d).pkm = d.pkm ∧
    (passOn g t i d).chg = d.chg ∧ (passOn g t i d).tfu = d.tfu ∧ (passOn g t i d).ppu = d.ppu ∧
    (passOn g t i d).wku = d.wku ∧ (passOn g t i d).tst = d.tst ∧ (passOn g t i d).nsu = d.nsu ∧
    (passOn g t i d).pli.linkUp = d.pli.linkUp := by
  unfold passOn
  repeat' split
  all_goals simp

@[simp] theorem judgePass_frame (g : Seg) (write : Bool) (address : Nat) (command : Nat) (length : Nat) (data : List Byte) (i : Nat) (d : Dev) :
    (judgePass g write address command length data i d).draws = d.draws ∧ (judgePass g write address command length data i d).profile = d.profile ∧
    (judgePass g write address command length data i d).pins = d.pins ∧
    (judgePass g write address command length data i d).mse = d.mse ∧
    (judgePass g write address command length data i d).ktu = d.ktu ∧
    (judgePass g write address command length data i d).pkm = d.pkm ∧
    (judgePass g write address command length data i d).chg = d.chg ∧
    (judgePass g write address command length data i d).tfu = d.tfu ∧
    (judgePass g write address command length data i d).ppu = d.ppu ∧
    (judgePass g write address command length data i d).wku = d.wku ∧
    (judgePass g write address command length data i d).tst = d.tst ∧
    (judgePass g write address command length data i d).nsu = d.nsu ∧
    (judgePass g write address command length data i d).pli.linkUp = d.pli.linkUp := by
  unfold judgePass
  repeat' split
  all_goals simp

@[simp] theorem reqPtRead_frame (g : Seg) (payload : List Byte) (i : Nat) (d : Dev) :
    (reqPtRead g payload i d).draws = d.draws ∧ (reqPtRead g payload i d).profile = d.profile ∧ (reqPtRead g payload i d).pins = d.pins ∧
    (reqPtRead g payload i d).mse = d.mse ∧ (reqPtRead g payload i d).ktu = d.ktu ∧
    (reqPtRead g payload i d).pkm = d.pkm ∧ (reqPtRead g payload i d).chg = d.chg ∧
    (reqPtRead g payload i d).tfu = d.tfu ∧ (reqPtRead g payload i d).ppu = d.ppu ∧
    (reqPtRead g payload i d).wku = d.wku ∧ (reqPtRead g payload i d).tst = d.tst ∧
    (reqPtRead g payload i d).nsu = d.nsu ∧
    (reqPtRead g payload i d).pli.linkUp = d.pli.linkUp := by
  unfold reqPtRead
  repeat' split
  all_goals simp

@[simp] theorem reqPtWrite_frame (g : Seg) (payload : List Byte) (i : Nat) (d : Dev) :
    (reqPtWrite g payload i d).draws = d.draws ∧ (reqPtWrite g payload i d).profile = d.profile ∧ (reqPtWrite g payload i d).pins = d.pins ∧
    (reqPtWrite g payload i d).mse = d.mse ∧ (reqPtWrite g payload i d).ktu = d.ktu ∧
    (reqPtWrite g payload i d).pkm = d.pkm ∧ (reqPtWrite g payload i d).chg = d.chg ∧
    (reqPtWrite g payload i d).tfu = d.tfu ∧ (reqPtWrite g payload i d).ppu = d.ppu ∧
    (reqPtWrite g payload i d).wku = d.wku ∧ (reqPtWrite g payload i d).tst = d.tst ∧
    (reqPtWrite g payload i d).nsu = d.nsu ∧
    (reqPtWrite g payload i d).pli.linkUp = d.pli.linkUp := by
  unfold reqPtWrite
  repeat' split
  all_goals simp

@[simp] theorem openSequence_frame (g : Seg) (i : Nat) (d : Dev) :
    (openSequence g i d).draws = d.draws ∧ (openSequence g i d).profile = d.profile ∧ (openSequence g i d).pins = d.pins ∧
    (openSequence g i d).mse = d.mse ∧ (openSequence g i d).ktu = d.ktu ∧
    (openSequence g i d).pkm = d.pkm ∧ (openSequence g i d).chg = d.chg ∧
    (openSequence g i d).tfu = d.tfu ∧ (openSequence g i d).ppu = d.ppu ∧
    (openSequence g i d).wku = d.wku ∧ (openSequence g i d).tst = d.tst ∧
    (openSequence g i d).nsu = d.nsu ∧ (openSequence g i d).pli.linkUp = d.pli.linkUp := by
  unfold openSequence
  repeat' split
  all_goals simp

@[simp] theorem reqPtSeqOpen_frame (g : Seg) (payload : List Byte) (i : Nat) (d : Dev) :
    (reqPtSeqOpen g payload i d).draws = d.draws ∧ (reqPtSeqOpen g payload i d).profile = d.profile ∧ (reqPtSeqOpen g payload i d).pins = d.pins ∧
    (reqPtSeqOpen g payload i d).mse = d.mse ∧ (reqPtSeqOpen g payload i d).ktu = d.ktu ∧
    (reqPtSeqOpen g payload i d).pkm = d.pkm ∧ (reqPtSeqOpen g payload i d).chg = d.chg ∧
    (reqPtSeqOpen g payload i d).tfu = d.tfu ∧ (reqPtSeqOpen g payload i d).ppu = d.ppu ∧
    (reqPtSeqOpen g payload i d).wku = d.wku ∧ (reqPtSeqOpen g payload i d).tst = d.tst ∧
    (reqPtSeqOpen g payload i d).nsu = d.nsu ∧
    (reqPtSeqOpen g payload i d).pli.linkUp = d.pli.linkUp := by
  unfold reqPtSeqOpen
  repeat' split
  all_goals simp

@[simp] theorem reqPtSeqClose_frame (g : Seg) (payload : List Byte) (i : Nat) (d : Dev) :
    (reqPtSeqClose g payload i d).draws = d.draws ∧ (reqPtSeqClose g payload i d).profile = d.profile ∧
    (reqPtSeqClose g payload i d).pins = d.pins ∧ (reqPtSeqClose g payload i d).mse = d.mse ∧
    (reqPtSeqClose g payload i d).ktu = d.ktu ∧ (reqPtSeqClose g payload i d).pkm = d.pkm ∧
    (reqPtSeqClose g payload i d).chg = d.chg ∧ (reqPtSeqClose g payload i d).tfu = d.tfu ∧
    (reqPtSeqClose g payload i d).ppu = d.ppu ∧ (reqPtSeqClose g payload i d).wku = d.wku ∧
    (reqPtSeqClose g payload i d).tst = d.tst ∧ (reqPtSeqClose g payload i d).nsu = d.nsu ∧
    (reqPtSeqClose g payload i d).pli.linkUp = d.pli.linkUp := by
  unfold reqPtSeqClose
  repeat' split
  all_goals simp

@[simp] theorem reqIdentify_frame (payload : List Byte) (i : Nat) (d : Dev) :
    (reqIdentify payload i d).draws = d.draws ∧ (reqIdentify payload i d).profile = d.profile ∧ (reqIdentify payload i d).pins = d.pins ∧
    (reqIdentify payload i d).mse = d.mse ∧ (reqIdentify payload i d).ktu = d.ktu ∧
    (reqIdentify payload i d).pkm = d.pkm ∧ (reqIdentify payload i d).chg = d.chg ∧
    (reqIdentify payload i d).tfu = d.tfu ∧ (reqIdentify payload i d).ppu = d.ppu ∧
    (reqIdentify payload i d).wku = d.wku ∧ (reqIdentify payload i d).segs = d.segs ∧
    (reqIdentify payload i d).tst = d.tst ∧ (reqIdentify payload i d).nsu = d.nsu ∧
    (reqIdentify payload i d).pli.linkUp = d.pli.linkUp := by
  unfold reqIdentify
  repeat' split
  all_goals simp

@[simp] theorem readSummary_frame (i : Nat) (d : Dev) :
    (readSummary i d).draws = d.draws ∧ (readSummary i d).profile = d.profile ∧ (readSummary i d).pins = d.pins ∧
    (readSummary i d).mse = d.mse ∧ (readSummary i d).ktu = d.ktu ∧ (readSummary i d).pkm = d.pkm ∧
    (readSummary i d).chg = d.chg ∧ (readSummary i d).tfu = d.tfu ∧ (readSummary i d).ppu = d.ppu ∧
    (readSummary i d).wku = d.wku ∧ (readSummary i d).segs = d.segs ∧
    (readSummary i d).tst = d.tst ∧ (readSummary i d).pli.linkUp = d.pli.linkUp := by
  simp [readSummary]

@[simp] theorem reqStatusRead_frame (payload : List Byte) (i : Nat) (d : Dev) :
    (reqStatusRead payload i d).draws = d.draws ∧ (reqStatusRead payload i d).profile = d.profile ∧ (reqStatusRead payload i d).pins = d.pins ∧
    (reqStatusRead payload i d).mse = d.mse ∧ (reqStatusRead payload i d).ktu = d.ktu ∧
    (reqStatusRead payload i d).pkm = d.pkm ∧ (reqStatusRead payload i d).chg = d.chg ∧
    (reqStatusRead payload i d).tfu = d.tfu ∧ (reqStatusRead payload i d).ppu = d.ppu ∧
    (reqStatusRead payload i d).wku = d.wku ∧ (reqStatusRead payload i d).segs = d.segs ∧
    (reqStatusRead payload i d).tst = d.tst ∧
    (reqStatusRead payload i d).pli.linkUp = d.pli.linkUp := by
  unfold reqStatusRead
  repeat' split
  all_goals simp

@[simp] theorem startStream_frame (x : StreamId) (period : Nat) (count : Nat) (circular : Bool) (i : Nat) (d : Dev) :
    (startStream x period count circular i d).draws = d.draws ∧ (startStream x period count circular i d).profile = d.profile ∧
    (startStream x period count circular i d).pins = d.pins ∧
    (startStream x period count circular i d).mse = d.mse ∧
    (startStream x period count circular i d).ktu = d.ktu ∧
    (startStream x period count circular i d).pkm = d.pkm ∧
    (startStream x period count circular i d).chg = d.chg ∧
    (startStream x period count circular i d).tfu = d.tfu ∧
    (startStream x period count circular i d).ppu = d.ppu ∧
    (startStream x period count circular i d).wku = d.wku ∧
    (startStream x period count circular i d).segs = d.segs ∧
    (startStream x period count circular i d).tst = d.tst ∧
    (startStream x period count circular i d).pli.linkUp = d.pli.linkUp := by
  unfold startStream
  repeat' split
  all_goals simp

@[simp] theorem reqStreamStart_frame (payload : List Byte) (i : Nat) (d : Dev) :
    (reqStreamStart payload i d).draws = d.draws ∧ (reqStreamStart payload i d).profile = d.profile ∧ (reqStreamStart payload i d).pins = d.pins ∧
    (reqStreamStart payload i d).mse = d.mse ∧ (reqStreamStart payload i d).ktu = d.ktu ∧
    (reqStreamStart payload i d).pkm = d.pkm ∧ (reqStreamStart payload i d).chg = d.chg ∧
    (reqStreamStart payload i d).tfu = d.tfu ∧ (reqStreamStart payload i d).ppu = d.ppu ∧
    (reqStreamStart payload i d).wku = d.wku ∧ (reqStreamStart payload i d).segs = d.segs ∧
    (reqStreamStart payload i d).tst = d.tst ∧
    (reqStreamStart payload i d).pli.linkUp = d.pli.linkUp := by
  unfold reqStreamStart
  repeat' split
  all_goals simp

@[simp] theorem reqStreamStop_frame (payload : List Byte) (i : Nat) (d : Dev) :
    (reqStreamStop payload i d).draws = d.draws ∧ (reqStreamStop payload i d).profile = d.profile ∧ (reqStreamStop payload i d).pins = d.pins ∧
    (reqStreamStop payload i d).mse = d.mse ∧ (reqStreamStop payload i d).ktu = d.ktu ∧
    (reqStreamStop payload i d).pkm = d.pkm ∧ (reqStreamStop payload i d).chg = d.chg ∧
    (reqStreamStop payload i d).tfu = d.tfu ∧ (reqStreamStop payload i d).ppu = d.ppu ∧
    (reqStreamStop payload i d).wku = d.wku ∧ (reqStreamStop payload i d).segs = d.segs ∧
    (reqStreamStop payload i d).tst = d.tst ∧
    (reqStreamStop payload i d).pli.linkUp = d.pli.linkUp := by
  unfold reqStreamStop
  repeat' split
  all_goals simp

@[simp] theorem appendFrame_frame (f : Frame) (d : Dev) :
    (appendFrame f d).draws = d.draws ∧ (appendFrame f d).profile = d.profile ∧ (appendFrame f d).pins = d.pins ∧
    (appendFrame f d).mse = d.mse ∧ (appendFrame f d).ktu = d.ktu ∧ (appendFrame f d).pkm = d.pkm ∧
    (appendFrame f d).chg = d.chg ∧ (appendFrame f d).tfu = d.tfu ∧ (appendFrame f d).ppu = d.ppu ∧
    (appendFrame f d).wku = d.wku ∧ (appendFrame f d).segs = d.segs ∧
    (appendFrame f d).tst = d.tst ∧ (appendFrame f d).pli.linkUp = d.pli.linkUp := by
  unfold appendFrame
  repeat' split
  all_goals simp

@[simp] theorem receiveEvent_frame (bytes : List Byte) (d : Dev) :
    (receiveEvent bytes d).draws = d.draws ∧ (receiveEvent bytes d).profile = d.profile ∧ (receiveEvent bytes d).pins = d.pins ∧
    (receiveEvent bytes d).mse = d.mse ∧ (receiveEvent bytes d).ktu = d.ktu ∧
    (receiveEvent bytes d).pkm = d.pkm ∧ (receiveEvent bytes d).chg = d.chg ∧
    (receiveEvent bytes d).tfu = d.tfu ∧ (receiveEvent bytes d).ppu = d.ppu ∧
    (receiveEvent bytes d).wku = d.wku ∧ (receiveEvent bytes d).segs = d.segs ∧
    (receiveEvent bytes d).tst = d.tst ∧ (receiveEvent bytes d).pli.linkUp = d.pli.linkUp := by
  unfold receiveEvent
  repeat' split
  all_goals simp

@[simp] theorem answerControl_frame (kind : Nat) (payload : List Byte) (i : Nat) (d : Dev) :
    (answerControl kind payload i d).draws = d.draws ∧ (answerControl kind payload i d).profile = d.profile ∧
    (answerControl kind payload i d).pins = d.pins := by
  unfold answerControl
  repeat' split
  all_goals simp

@[simp] theorem answerPass_frame (g : Seg) (kind : Nat) (payload : List Byte) (i : Nat) (d : Dev) :
    (answerPass g kind payload i d).draws = d.draws ∧ (answerPass g kind payload i d).profile = d.profile ∧
    (answerPass g kind payload i d).pins = d.pins ∧ (answerPass g kind payload i d).mse = d.mse ∧
    (answerPass g kind payload i d).ktu = d.ktu ∧ (answerPass g kind payload i d).pkm = d.pkm ∧
    (answerPass g kind payload i d).chg = d.chg ∧ (answerPass g kind payload i d).tfu = d.tfu ∧
    (answerPass g kind payload i d).ppu = d.ppu ∧ (answerPass g kind payload i d).wku = d.wku ∧
    (answerPass g kind payload i d).tst = d.tst ∧ (answerPass g kind payload i d).nsu = d.nsu ∧
    (answerPass g kind payload i d).pli.linkUp = d.pli.linkUp := by
  unfold answerPass
  repeat' split
  all_goals simp

@[simp] theorem answerFrame_frame (f : Frame) (i : Nat) (d : Dev) :
    (answerFrame f i d).draws = d.draws ∧ (answerFrame f i d).profile = d.profile ∧ (answerFrame f i d).pins = d.pins := by
  unfold answerFrame
  repeat' split
  all_goals simp

@[simp] theorem waitBehind_nil (d : Dev) : waitBehind [] d = d := rfl

@[simp] theorem waitBehind_frame (rest : List Frame) (d : Dev) :
    (waitBehind rest d).draws = d.draws ∧ (waitBehind rest d).profile = d.profile ∧
    (waitBehind rest d).pins = d.pins ∧ (waitBehind rest d).mse = d.mse ∧
    (waitBehind rest d).ktu = d.ktu ∧ (waitBehind rest d).pkm = d.pkm ∧
    (waitBehind rest d).chg = d.chg ∧ (waitBehind rest d).tfu = d.tfu ∧
    (waitBehind rest d).ppu = d.ppu ∧ (waitBehind rest d).wku = d.wku ∧
    (waitBehind rest d).segs = d.segs ∧ (waitBehind rest d).tst = d.tst ∧
    (waitBehind rest d).nsu = d.nsu ∧ (waitBehind rest d).pli.linkUp = d.pli.linkUp := by
  unfold waitBehind
  split <;> simp

@[simp] theorem takeHead_frame (d : Dev) :
    (takeHead d).draws = d.draws ∧ (takeHead d).profile = d.profile ∧ (takeHead d).pins = d.pins := by
  unfold takeHead
  repeat' split
  all_goals simp

@[simp] theorem requestEvent_frame (f : Frame) (d : Dev) :
    (requestEvent f d).draws = d.draws ∧ (requestEvent f d).profile = d.profile ∧ (requestEvent f d).pins = d.pins := by
  unfold requestEvent
  repeat' split
  all_goals simp

@[simp] theorem beginFrame_frame (x : TxSource) (d : Dev) :
    (beginFrame x d).draws = d.draws ∧ (beginFrame x d).profile = d.profile ∧ (beginFrame x d).pins = d.pins ∧
    (beginFrame x d).mse = d.mse ∧ (beginFrame x d).pkm = d.pkm ∧ (beginFrame x d).chg = d.chg ∧
    (beginFrame x d).tfu = d.tfu ∧ (beginFrame x d).ppu = d.ppu ∧ (beginFrame x d).wku = d.wku ∧
    (beginFrame x d).segs = d.segs ∧ (beginFrame x d).tst = d.tst ∧
    (beginFrame x d).pli.linkUp = d.pli.linkUp := by
  unfold beginFrame
  (try dsimp only)
  refine ⟨?_, ?_, ?_, ?_, ?_, ?_, ?_, ?_, ?_, ?_, ?_, ?_⟩ <;>
    ((repeat' split) <;> simp [Pli.begin])

@[simp] theorem choiceEvent_frame (permit : Bool) (d : Dev) :
    (choiceEvent permit d).draws = d.draws ∧ (choiceEvent permit d).profile = d.profile ∧ (choiceEvent permit d).mse = d.mse ∧
    (choiceEvent permit d).pkm = d.pkm ∧ (choiceEvent permit d).chg = d.chg ∧
    (choiceEvent permit d).tfu = d.tfu ∧ (choiceEvent permit d).ppu = d.ppu ∧
    (choiceEvent permit d).wku = d.wku ∧ (choiceEvent permit d).segs = d.segs ∧
    (choiceEvent permit d).tst = d.tst ∧ (choiceEvent permit d).pli.linkUp = d.pli.linkUp := by
  unfold choiceEvent
  (try dsimp only)
  refine ⟨?_, ?_, ?_, ?_, ?_, ?_, ?_, ?_, ?_, ?_, ?_⟩ <;>
    ((repeat' split) <;> simp)

@[simp] theorem carryOut_frame (v : PowerReq) (d : Dev) :
    (carryOut v d).draws = d.draws ∧ (carryOut v d).profile = d.profile ∧ (carryOut v d).pins = d.pins ∧
    (carryOut v d).tst = d.tst ∧ (carryOut v d).tfu.zone = d.tfu.zone := by
  unfold carryOut
  repeat' split
  all_goals simp

@[simp] theorem responseSent_frame (sl : Slot) (d : Dev) :
    (responseSent sl d).draws = d.draws ∧ (responseSent sl d).profile = d.profile ∧ (responseSent sl d).pins = d.pins ∧
    (responseSent sl d).tst = d.tst ∧ (responseSent sl d).tfu.zone = d.tfu.zone := by
  unfold responseSent
  dsimp only
  refine ⟨?_, ?_, ?_, ?_, ?_⟩ <;>
    (repeat' split) <;> simp

@[simp] theorem takeBefore_frame (n : Nat) (d : Dev) :
    (takeBefore n d).profile = d.profile ∧ (takeBefore n d).pins = d.pins := by
  induction n generalizing d with
  | zero => exact ⟨rfl, rfl⟩
  | succ n ih =>
    unfold takeBefore
    dsimp only
    refine ⟨?_, ?_⟩ <;> (repeat' split) <;> simp [ih]

/-- Where no frame waits that may be taken, no free value is drawn. -/
theorem takeBefore_of_not_mayTake (n : Nat) (d : Dev) (h : d.mayTake = false) :
    takeBefore n d = d := by
  cases n with
  | zero => rfl
  | succ n => simp [takeBefore, h]

/-- What the takes before a link DOWN can do: nothing when no frame may be taken; else one draw, after which
either the link DOWN comes, or the head is taken and the next one attempted. -/
theorem takeBefore_cases (n : Nat) (d : Dev) :
    takeBefore (n + 1) d = d ∨
      (d.mayTake = true ∧ (takeBefore (n + 1) d = { d with draws := d.draws + 1 } ∨
        takeBefore (n + 1) d = takeBefore n (takeHead { d with draws := d.draws + 1 }))) := by
  by_cases h : d.mayTake = true
  · by_cases c : Config.takeFirst d.draws = true
    · exact .inr ⟨h, .inr (by simp [takeBefore, h, c])⟩
    · exact .inr ⟨h, .inl (by simp [takeBefore, h, c])⟩
  · exact .inl (takeBefore_of_not_mayTake _ _ (by simpa using h))

/-- A take does nothing where the head may not be taken. -/
theorem takeHead_of_not_mayTake (d : Dev) (h : d.mayTake = false) : takeHead d = d := by
  unfold Dev.mayTake at h
  unfold takeHead
  cases hr : d.pli.rx with
  | nil => rfl
  | cons f rest =>
    cases hu : d.pli.linkUp with
    | false => rfl
    | true =>
      simp only [hr, hu, Bool.true_and, Bool.or_eq_false_iff] at h
      have hs : freeSlot d.pli.slots = none := by simpa using h.2
      simp [h.1, hs]

@[simp] theorem frameSentEvent_frame (d : Dev) :
    (frameSentEvent d).profile = d.profile ∧ (frameSentEvent d).pins = d.pins := by
  unfold frameSentEvent
  dsimp only
  refine ⟨?_, ?_⟩ <;> (repeat' split) <;> simp

@[simp] theorem clearNotices_frame (d : Dev) :
    (clearNotices d).draws = d.draws ∧ (clearNotices d).profile = d.profile ∧ (clearNotices d).pins = d.pins ∧
    (clearNotices d).mse = d.mse ∧ (clearNotices d).ktu = d.ktu ∧ (clearNotices d).pkm = d.pkm ∧
    (clearNotices d).chg = d.chg ∧ (clearNotices d).tfu = d.tfu ∧ (clearNotices d).ppu = d.ppu ∧
    (clearNotices d).wku = d.wku ∧ (clearNotices d).segs = d.segs ∧ (clearNotices d).tst = d.tst ∧
    (clearNotices d).pli = d.pli := by
  unfold clearNotices
  refine ⟨?_, ?_, ?_, ?_, ?_, ?_, ?_, ?_, ?_, ?_, ?_, ?_, ?_⟩ <;>
    rfl

@[simp] theorem clearLocks_frame (d : Dev) :
    (clearLocks d).draws = d.draws ∧ (clearLocks d).profile = d.profile ∧ (clearLocks d).pins = d.pins ∧
    (clearLocks d).mse = d.mse ∧ (clearLocks d).ktu = d.ktu ∧ (clearLocks d).pkm = d.pkm ∧
    (clearLocks d).chg = d.chg ∧ (clearLocks d).tfu = d.tfu ∧ (clearLocks d).ppu = d.ppu ∧
    (clearLocks d).wku = d.wku ∧ (clearLocks d).segs = d.segs ∧ (clearLocks d).pli = d.pli ∧
    (clearLocks d).nsu = d.nsu := by
  unfold clearLocks
  refine ⟨?_, ?_, ?_, ?_, ?_, ?_, ?_, ?_, ?_, ?_, ?_, ?_, ?_⟩ <;>
    rfl

@[simp] theorem resetAssertEvent_frame (d : Dev) :
    (resetAssertEvent d).draws = d.draws ∧ (resetAssertEvent d).profile = d.profile ∧ (resetAssertEvent d).mse = d.mse ∧
    (resetAssertEvent d).pkm = d.pkm ∧ (resetAssertEvent d).chg = d.chg ∧
    (resetAssertEvent d).tfu = d.tfu ∧ (resetAssertEvent d).wku = d.wku ∧
    (resetAssertEvent d).ppu.power = d.ppu.power := by
  unfold resetAssertEvent
  repeat' split
  all_goals simp

@[simp] theorem resetReleaseEvent_frame (d : Dev) :
    (resetReleaseEvent d).draws = d.draws ∧ (resetReleaseEvent d).profile = d.profile ∧ (resetReleaseEvent d).mse = d.mse ∧
    (resetReleaseEvent d).pkm = d.pkm ∧ (resetReleaseEvent d).chg = d.chg ∧
    (resetReleaseEvent d).tfu = d.tfu ∧ (resetReleaseEvent d).wku = d.wku ∧
    (resetReleaseEvent d).tst = d.tst ∧ (resetReleaseEvent d).ppu.power = d.ppu.power := by
  unfold resetReleaseEvent
  repeat' split
  all_goals simp

end Sys2Proof.Machine
end

