-- ==== Sys2Proof/Laws/Ops.lean ====
section
/-!
SUPPORT. What the shared operations do, said once: notices, response slots, the take of a request,
segment queues, changes of power state, the scan timer, numbers in bytes.
-/

namespace Sys2Proof.Machine

/-! ## Notices -/

/-- A raised class joins the pending summary. -/
theorem raise_raised (n : Notice) (d : Dev) (h : n.cls < 16) : (raise n d).Raised n.cls := by
  simp only [Dev.Raised, raise, setNsu_nsu, Nsu.raise, BitVec.getLsbD_or, BitVec.getLsbD_twoPow]
  simp [h]

/-- The class of every notice is one of the sixteen. -/
theorem Notice.cls_lt (n : Notice) : n.cls < 16 := by cases n <;> simp [Notice.cls]

/-- Raising a notice takes no class out of the summary. -/
theorem raise_keeps_raised (n : Notice) (d : Dev) (c : Nat) (h : d.Raised c) :
    (raise n d).Raised c := by
  simp only [Dev.Raised, raise, setNsu_nsu, Nsu.raise, BitVec.getLsbD_or] at *
  simp [h]

/-- Coalescing keeps the classes of a queue apart. -/
theorem coalesce_nodup (n : Notice) (q : List Notice) (h : (q.map Notice.cls).Nodup) :
    ((coalesce n q).map Notice.cls).Nodup := by
  unfold coalesce
  split
  · have e : (q.map fun m => if m.cls == n.cls then n else m).map Notice.cls = q.map Notice.cls := by
      rw [List.map_map]
      refine List.map_congr_left fun m _ => ?_
      simp only [Function.comp]
      split <;> simp_all
    rw [e]; exact h
  · rename_i hn
    simp only [List.map_append, List.map_cons, List.map_nil]
    refine List.nodup_append.2 ⟨h, List.nodup_singleton _, ?_⟩
    simp only [List.any_eq_true, not_exists, not_and] at hn
    intro a ha b hb
    simp only [List.mem_singleton] at hb
    subst hb
    obtain ⟨m, hm, rfl⟩ := List.mem_map.1 ha
    simpa using hn m hm

/-! ## The take of a request (R177, R179) -/

/-- A FREE slot found is a slot of the list and FREE. -/
theorem freeSlot_spec {slots : List Slot} {i : Nat} (h : freeSlot slots = some i) :
    ∃ s, slots[i]? = some s ∧ s.state = .free := by
  simp only [freeSlot, Option.map_eq_some_iff] at h
  obtain ⟨x, hx, rfl⟩ := h
  have hm := List.mem_of_find?_eq_some hx
  have hp := List.find?_some hx
  exact ⟨x.1, by simpa using List.mem_zipIdx_iff_getElem?.1 hm, by simpa using hp⟩

/-- A FREE slot found lies within the list. -/
theorem freeSlot_lt {slots : List Slot} {i : Nat} (h : freeSlot slots = some i) :
    i < slots.length := by
  obtain ⟨s, hs, -⟩ := freeSlot_spec h
  exact (List.getElem?_eq_some_iff.1 hs).1

/-- A request's frame that the part can take at once is handed to the block that answers it, its slot
WAITING. -/
theorem requestEvent_taken {f : Frame} {d : Dev} {i : Nat} (h : d.TakesInto i)
    (hp : f.payload.length ≤ 60) (ht : f.isTempReport = false) :
    requestEvent f d = answerFrame f i (d.waiting i f.channel f.kind f.tag) := by
  obtain ⟨h1, h2, h3⟩ := h
  have hp' : ¬ (Config.payloadMax < f.payload.length) := by simp [Config.payloadMax]; omega
  simp [requestEvent, appendFrame, takeHead, h1, h2, h3, hp', ht, Config.receiveQueueSize,
    Pli.takeSlot, Frame.slot, Dev.waiting, Dev.setPli]

/-- An answer built for a slot that waits. -/
theorem answerWith_of_waiting {d e : Dev} {i c k : Nat} {t : Byte} (r : Response)
    (h : d.TakesInto i) (he : e.pli = (d.waiting i c k t).pli) :
    answerWith i r e = { e with pli := (d.answered i c k t r).pli } := by
  have hl := freeSlot_lt h.slot
  simp [answerWith, Pli.respond, he, Dev.waiting, Dev.answered, Dev.setPli, hl]

/-- An answer built in the take event itself. -/
theorem answerWith_waiting {d : Dev} {i c k : Nat} {t : Byte} (r : Response) (h : d.TakesInto i) :
    answerWith i r (d.waiting i c k t) = d.answered i c k t r := by
  rw [answerWith_of_waiting r h rfl]; rfl

/-! ## Segments (R145, R146) -/

/-- The arbiter's grant leaves every queue and every segment's state as they are. -/
theorem grantSequence_seg (g j : Seg) (d : Dev) :
    ((grantSequence g d).seg j).queue = (d.seg j).queue ∧
      ((grantSequence g d).seg j).state = (d.seg j).state ∧
      ((grantSequence g d).seg j).drains = (d.seg j).drains := by
  unfold grantSequence
  split
  · split
    · have e : (answer ‹Nat› .ok (d.setSeg g { d.seg g with
          sequence := .opened (Timer.ofMs Config.sequenceIdleMs) })).seg j
          = (d.setSeg g { d.seg g with
          sequence := .opened (Timer.ofMs Config.sequenceIdleMs) }).seg j := rfl
      rw [e, seg_setSeg_if]
      split <;> simp_all
    · exact ⟨rfl, rfl, rfl⟩
  · exact ⟨rfl, rfl, rfl⟩
  · exact ⟨rfl, rfl, rfl⟩

/-- The arbiter of one segment leaves the other as it is. -/
theorem arbitrate_other {g j : Seg} (h : j ≠ g) (d : Dev) : (arbitrate g d).seg j = d.seg j := by
  have e : (grantSequence g d).seg j = d.seg j := by
    unfold grantSequence
    split
    · split
      · show (d.setSeg g _).seg j = _
        rw [seg_setSeg_if, if_neg (Ne.symm h)]
      · rfl
    · rfl
    · rfl
  unfold arbitrate
  split
  · unfold takeTransaction
    dsimp only
    split
    · exact e
    · rw [seg_setSeg_if, if_neg (Ne.symm h), e]
  · rfl

/-- The arbiter leaves in a queue what stood there, in flight or not. -/
theorem arbitrate_mem {g : Seg} {d : Dev} {t : Txn} (h : t ∈ (d.seg g).queue) :
    ∃ b, { t with inFlight := b } ∈ ((arbitrate g d).seg g).queue := by
  unfold arbitrate
  split
  · have hq := (grantSequence_seg g g d).1
    unfold takeTransaction
    dsimp only
    split
    · exact ⟨t.inFlight, by rw [hq]; exact h⟩
    · rename_i u _
      rw [seg_setSeg]
      simp only [hq, setInFlight]
      by_cases hu : t.order = u.order
      · exact ⟨true, List.mem_map.2 ⟨t, h, by simp [hu]⟩⟩
      · exact ⟨t.inFlight, List.mem_map.2 ⟨t, h, by simp [hu]⟩⟩
  · exact ⟨t.inFlight, h⟩

/-- A transaction handed to a segment that takes arrivals stands in its queue. -/
theorem submit_takes {g : Seg} {d : Dev} (t : Txn) (h : (d.seg g).Takes) :
    (submit g t d).2 = none ∧
      (∃ b, { t with order := (d.seg g).nextOrder, inFlight := b } ∈
        ((submit g t d).1.seg g).queue) ∧
      ∀ j, j ≠ g → (submit g t d).1.seg j = d.seg j := by
  obtain ⟨h1, h2⟩ := h
  have e : submit g t d = (arbitrate g (d.setSeg g { d.seg g with
      queue := (d.seg g).queue ++ [{ t with order := (d.seg g).nextOrder }]
      nextOrder := (d.seg g).nextOrder + 1 }), none) := by
    unfold submit
    cases hs : (d.seg g).state <;> simp_all
  rw [e]
  refine ⟨rfl, ?_, fun j hj => ?_⟩
  · exact arbitrate_mem (t := { t with order := (d.seg g).nextOrder }) (by simp)
  · show (arbitrate g _).seg j = _
    rw [arbitrate_other hj, seg_setSeg_if, if_neg (Ne.symm hj)]

/-- A transaction handed to a HELD segment completes SEG_RESET at once, one handed to a segment in FAULT
completes SEG_FAULT, and neither enters the queue. -/
theorem submit_refused {g : Seg} {d : Dev} (t : Txn) :
    ((d.seg g).state = .held → submit g t d = (d, some .segReset)) ∧
      ((d.seg g).state = .fault → submit g t d = (d, some .segFault)) := by
  constructor <;> intro h <;> simp [submit, h]

/-! ## Changes of power state (R116, R183) -/

/-- The PLI's derivation of the link state. -/
@[simp] theorem relink_linkUp (d : Dev) : (relink d).pli.linkUp = d.linkWanted := by
  unfold relink
  have e1 : (linkUp d).pli.linkUp = true := by simp [linkUp]
  have e2 : (linkDown d).pli.linkUp = false := by simp [linkDown, linkDownRest]
  cases hw : d.linkWanted <;> cases hl : d.pli.linkUp <;> simp [e1, e2, hl]

/-- The link state's derivation leaves the power state and its timer as they are. -/
theorem relink_ppu (d : Dev) :
    (relink d).ppu = d.ppu ∨ (relink d).ppu = { d.ppu with request := none } := by
  unfold relink
  have e1 : (linkUp d).ppu = d.ppu := by simp [linkUp]
  have e2 : (linkDown d).ppu = { d.ppu with request := none } := by simp [linkDown, linkDownRest]
  split
  · exact .inl e1
  · split
    · exact .inr e2
    · exact .inl rfl

/-- A change of power state changes the state, the transition timer, and nothing else at the PPU but a
POWER_REQUEST that a link DOWN drops. -/
theorem powerTo_ppu (st : PowerState) (d : Dev) :
    (powerTo st d).ppu = { d.ppu with power := st, transition := d.transitionFor st } ∨
      (powerTo st d).ppu =
        { d.ppu with power := st, transition := d.transitionFor st, request := none } := by
  unfold powerTo
  dsimp only
  rcases relink_ppu (tfuPower (chgPower (retimePolls (mseRetime
    (d.setPpu { d.ppu with power := st, transition := d.transitionFor st }))))) with h | h <;>
    simp [h]

@[simp] theorem powerTo_power (st : PowerState) (d : Dev) : (powerTo st d).ppu.power = st := by
  rcases powerTo_ppu st d with h | h <;> rw [h]

@[simp] theorem powerTo_transition (st : PowerState) (d : Dev) :
    (powerTo st d).ppu.transition = d.transitionFor st := by
  rcases powerTo_ppu st d with h | h <;> rw [h]

@[simp] theorem powerTo_linkUp (st : PowerState) (d : Dev) :
    (powerTo st d).pli.linkUp = (st == .on && !d.pins.platformReset) := by
  simp [powerTo, Dev.linkWanted]

/-! ## The scan timer (R3, R4) and the wake key slot (R40) -/

/-- The period in force is the one that the table of R3 calls for. -/
theorem scanPeriod_eq (d : Dev) : d.scanPeriod = d.scanCalled d.ppu.power := by
  unfold Dev.scanPeriod scanPeriod Dev.scanCalled Dev.wakeEntry
  cases d.ppu.power <;> simp

/-- What an event that calls for a period makes of the MSE. -/
theorem retime_retimed (m : Mse) (period : Option Nat) : m.Retimed (m.retime period) period where
  runs us t h1 h2 h3 := by simp [Mse.retime, h1, h2, h3]
  starts us h1 h2 := by
    subst h1
    cases h : m.scanTimer with
    | none => simp [Mse.retime, h, Timer.ofUs]
    | some t => simp [Mse.retime, h, h2 t h, Timer.ofUs]
  stops h1 h2 := by
    obtain ⟨t, h⟩ := Option.isSome_iff_exists.mp h2
    simp [Mse.retime, h1, h]
  stands h1 h2 := by simp [Mse.retime, h1, h2]

@[simp] theorem arrive_pos (b : Bool) (w : WakeKey) : (w.arrive b).pos = w.pos := rfl
@[simp] theorem arrive_code (b : Bool) (w : WakeKey) : (w.arrive b).code = w.code := rfl
@[simp] theorem arrive_release (b : Bool) (w : WakeKey) :
    (w.arrive b).release = some (w.release.getD b) := rfl

/-! ## Numbers in bytes (R196, R197) -/

/-- The bytes from an index on are the number divided. -/
theorem leNat_drop (bs : List Byte) (k : Nat) : leNat (bs.drop k) = leNat bs / 256 ^ k := by
  induction k generalizing bs with
  | zero => simp
  | succ k ih =>
    cases bs with
    | nil => simp [leNat]
    | cons b bs =>
      have h := b.isLt
      rw [List.drop_succ_cons, ih, leNat, Nat.pow_succ', ← Nat.div_div_eq_div_mul]
      congr 1
      omega

/-- The first bytes are the number's rest. -/
theorem leNat_take (bs : List Byte) (n : Nat) : leNat (bs.take n) = leNat bs % 256 ^ n := by
  induction n generalizing bs with
  | zero => simp [leNat, Nat.mod_one]
  | succ n ih =>
    cases bs with
    | nil => simp [leNat]
    | cons b bs =>
      have h := b.isLt
      have hd : (b.toNat + 256 * leNat bs) / 256 = leNat bs := by omega
      rw [List.take_succ_cons, leNat, ih, leNat, Nat.pow_succ', Nat.mod_mul, hd]
      omega

/-- A field of whole bytes, read from bytes, is the number of those bytes. -/
theorem bitsAt_bytes (bs : List Byte) (first size : Nat) :
    bitsAt bs (8 * first) (8 * size) = leNat ((bs.drop first).take size) := by
  rw [leNat_take, leNat_drop, bitsAt, Nat.pow_mul, Nat.pow_mul]

/-- The low bytes of a number are its rest. -/
theorem leNat_leBytes (n v : Nat) : leNat (leBytes n v) = v % 256 ^ n := by
  induction n generalizing v with
  | zero => simp [leNat, leBytes, Nat.mod_one]
  | succ n ih =>
    rw [leBytes, leNat, ih, BitVec.toNat_ofNat, show 256 ^ (n + 1) = 256 * 256 ^ n from Nat.pow_succ',
      Nat.mod_mul]

/-- The bytes of a number are as many as asked for. -/
@[simp] theorem leBytes_length (n v : Nat) : (leBytes n v).length = n := by
  induction n generalizing v with
  | zero => rfl
  | succ n ih => simp [leBytes, ih]

/-- The bytes of an entry's fields are as many as the fields take. -/
theorem writeFields_length (fields : List FieldSpec) (xs : List Int) :
    (writeFields fields xs).length = (fields.map Prod.fst).sum := by
  induction fields generalizing xs with
  | nil => rfl
  | cons f fs ih => simp [writeFields, writeField, ih]

/-- Fields stored count as adjusted exactly when one of them left its range or stands otherwise than written (R85, R165). -/
theorem storeFields_adjusted {α : Type} (fields : List FieldSpec) (ofList : List Int → α) (toList : α → List Int)
    (adjust : α → α) (bs : List Byte) :
    (storeFields fields ofList toList adjust bs).2 = true ↔
      adjustFields fields (readFields fields bs) ≠ readFields fields bs ∨
        toList (storeFields fields ofList toList adjust bs).1 ≠ readFields fields bs := by
  simp [storeFields]

/-- A PENDING sequence may be granted exactly when every class-3 record of the queue is a member (R153). -/
theorem grantable_iff (q : List Txn) : grantable q = true ↔ ∀ t ∈ q, t.cls = 3 → t.member = true := by
  simp [grantable, Txn.passThrough]

end Sys2Proof.Machine
end

