-- ==== Sys2Proof/Tests/Slice0.lean ====
section
/-!
SUPPORT. Tests of the model.  The `test_` theorems hold one step each against a worked sequence or a table
of the spec, named in the docstring; the `wf_` theorems show each check of WellFormed refusing an ill-formed
command; the `witness_` theorems show, for every statement with hypotheses, states and operands that meet
them, clause by clause and at the ends of their ranges.
-/

namespace Sys2Proof.Tests

open Sys2Proof Sys2Proof.Machine

/-! ## States to start from -/

/-- The part at reset: OFF, the link DOWN. -/
def off : Dev := State.reset.dev

/-- The part in a power state, with power-good and the link as it says. -/
def inPower (p : PowerState) : Dev :=
  { off with
    pins := { off.pins with powerGood := p == .on || p == .sleepEntry || p == .poweringDown }
    ppu := { off.ppu with power := p, transition := off.transitionFor p }
    pli := { off.pli with linkUp := p == .on } }

/-- The part in ON with the link UP. -/
def on : Dev := inPower .on

/-- The part after a command. -/
def after (c : Instr) (d : Dev) : Dev :=
  match exec c ⟨d, []⟩ with
  | .next t => t.dev
  | _ => d

/-- The response in slot 0. -/
def answer0 (d : Dev) : Option Response := (d.pli.slots.getD 0 Slot.empty).response

/-- The keys that read closed. -/
def keys (ps : List Nat) : BitVec 148 := ps.foldl (fun b p => b ||| BitVec.twoPow 148 p) 0

/-- The MSE in ACTIVE with these positions DOWN. -/
def scanning (ps : List Nat) (d : Dev) : Dev :=
  { d with mse := { d.mse with
      recs := (List.range 148).map fun p => ⟨ps.contains p, 0, false, false⟩
      scanState := .active, scanTimer := some (Timer.ofMs 1) } }

/-- A position record replaced. -/
def withRec (p : Nat) (r : PosRec) (d : Dev) : Dev :=
  { d with mse := { d.mse with recs := d.mse.recs.set p r } }

/-- A raw event queue. -/
def raws (es : List RawEntry) (d : Dev) : Dev := { d with mse := { d.mse with raw := es } }

/-- What the PKM holds for a fitted pack that is not there. -/
def noPack : PackMonitor := PackMonitor.reset true false

/-- A READY pack of 3 cells of class 0 with this telemetry. -/
def packWith (t : Telemetry) : PackMonitor :=
  { noPack with
    record := ⟨.ready, some ⟨0, 3, 5000⟩, some t, false, 0, 0⟩
    presence := ⟨some true, none⟩
    pollTimer := some (Timer.ofMs 1000), ageTick := some (Timer.ofMs 1000) }

/-- Telemetry of a pack at 25 °C. -/
def telemetry (soc : Nat) (want : Option Nat) : Telemetry :=
  ⟨11000, 0, 250, soc, 4000, want, none, ⟨false, false, false, false, false⟩⟩

/-- The part in ON with pack A READY. -/
def packA : Dev := { on with pkm := on.pkm.set false (packWith (telemetry 40 (some 2500))) }

/-- The part with what the CHG holds for pack A. -/
def chargeA (c : ChargePack) (d : Dev) : Dev := d.setChp .a c

/-- A charging pack A: FAST with a commanded current. -/
def fastA : ChargePack := ⟨.fast, 640, 12300, 0, 0, .idle, false, false⟩

/-- A segment BUSY with a transaction in flight. -/
def busyWith (t : Txn) : Segment :=
  { Segment.reset with state := .busy, queue := [{ t with inFlight := true }], nextOrder := 1 }

/-- A segment in a state. -/
def segIn (st : SegState) : Segment := { Segment.reset with state := st }

/-- The part with a segment. -/
def withSeg (g : Seg) (x : Segment) (d : Dev) : Dev := d.setSeg g x

/-- Slot 0 WAITING for the response to a request with this channel and kind. -/
def slot0 (c n : Nat) (d : Dev) : Dev :=
  { d with pli := { d.pli with slots := d.pli.slots.set 0 ⟨.waiting, c, n, 7, none⟩ } }

/-- The part with seven slots taken, the last FREE. -/
def slot7 : Dev :=
  { on with pli := { on.pli with
      slots := List.replicate 7 ⟨.waiting, 0, 0, 0, none⟩ ++ [Slot.empty] } }

/-- A pass-through write in slot 0. -/
def hubWrite : Txn := ⟨3, .hub, true, 0x50, 1, 1, [2], some 0, false, 0, false⟩

/-- A pass-through read of two bytes in slot 0. -/
def hubRead : Txn := ⟨3, .hub, false, 0x50, 1, 2, [], some 0, false, 0, false⟩

/-- The part with a FILTER entry that passes everything to 0x0B on SEG0 in its first place. -/
def passing (a : FilterAction) : Dev :=
  { on with tst := { on.tst with filter := on.tst.filter.set 0 ⟨true, .seg0, 0x0B, 0, 255, .both, a⟩ } }

/-! ## Well-formed commands -/

/-- A payload of 61 bytes is none that a frame can carry; one of 60 is (R175). -/
theorem wf_payload : (Instr.tableRead 0 (List.replicate 61 0)).wf = false ∧
    (Instr.ptWrite .seg0 0 (List.replicate 61 0)).wf = false ∧
    (Instr.tableRead 0 (List.replicate 60 0)).wf = true := by decide

/-- A completed read of 33 bytes is none that a bus can bring; one of 32 is (R143). -/
theorem wf_data : (Instr.packItemCompletion .a (.ok (List.replicate 33 0))).wf = false ∧
    (Instr.transactionComplete .seg0 (.ok (List.replicate 33 0))).wf = false ∧
    (Instr.transactionComplete .seg0 (.ok (List.replicate 32 0))).wf = true := by decide

/-- A TIMEOUT is no end that TRANSACTION_COMPLETE reports (R147). -/
theorem wf_timeout : (Instr.transactionComplete .seg1 .timeout).wf = false ∧
    (Instr.skinReadCompletion .timeout).wf = true := by decide

/-- A frame has at least one byte. -/
theorem wf_frame : (Instr.frameReceived []).wf = false ∧ (Instr.frameReceived [0]).wf = true := by
  decide

/-! ## The queue of commands -/

/-- The first command in runs first, and the rest wait. -/
theorem test_step_is_fifo :
    step ⟨off, [.wakeLineAccept, .buttonRelease]⟩ =
      exec .wakeLineAccept ⟨off, [.buttonRelease]⟩ := rfl

/-- No row of the command table gives bits. -/
theorem test_no_word_spells_a_command : decodeTableWord 8 0 = none := rfl

/-! ## Chapter 1 (sections 1.5 and 1.8, and R10) -/

/-- 1.5, scan 3: 41 and 44 flip and each completes the rectangle, so both are suspect and nothing is
queued. -/
theorem test_ghost_is_suspect :
    let d := after (.scan (keys [17, 20, 41, 44]))
      (withRec 41 ⟨false, 2, false, false⟩ (withRec 44 ⟨false, 2, false, false⟩ (scanning [17, 20] on)))
    d.mse.recs[41]? = some ⟨true, 0, true, false⟩ ∧ d.mse.recs[44]? = some ⟨true, 0, true, false⟩ ∧
      d.mse.raw = [] := by decide

/-- 1.5, scan 14: 17 and 44 flip UP, the re-check clears 41, and the queue takes release 17, press 41. -/
theorem test_ghost_clears :
    let d := after (.scan (keys [20, 41]))
      (withRec 17 ⟨true, 4, false, false⟩ (withRec 41 ⟨true, 0, true, false⟩
        (withRec 44 ⟨true, 4, true, false⟩ (scanning [17, 20, 41, 44] on))))
    d.mse.recs[41]? = some ⟨true, 0, false, false⟩ ∧ d.mse.recs[44]? = some ⟨false, 0, false, false⟩ ∧
      d.mse.raw = [.change 17 false false, .change 41 true false] := by decide

/-- 1.8: at posture CLOSED with 15 entries queued the release of 30 is appended, that of 31 discarded, the
mark set, the matrix UP and the side button as it was. -/
theorem test_lid_closes :
    let d := after (.lidFoldAccept (.lid true))
      (raws (List.replicate 15 .resync) (scanning [30, 31, 145]
        { on with ppu := { on.ppu with
            lid := ⟨some false, none⟩, fold := ⟨some false, none⟩, posture := .opened } }))
    d.mse.raw[15]? = some (.change 30 false true) ∧ d.mse.raw.length = 16 ∧ d.mse.overrun = true ∧
      d.mse.scanState = .gated ∧ downAt d.mse.recs 31 = false ∧ downAt d.mse.recs 145 = true := by
  decide

/-- 1.8: the head taken, RESYNC takes its place and KEY_OVERRUN is raised. -/
theorem test_overrun_leaves_resync :
    let d := after .takeRawEvent { raws (List.replicate 16 (.change 9 false false)) on with
      mse := { on.mse with raw := List.replicate 16 (.change 9 false false), overrun := true } }
    d.mse.raw.length = 16 ∧ d.mse.raw[15]? = some .resync ∧ d.mse.overrun = false ∧
      d.nsu.queue = [.keyOverrun] := by decide

/-! ## Chapter 2 (sections 2.8, 2.10 and 2.12) -/

/-- 2.8: the release of 20 reads its record, CODE 0x0050, though layer 0 is active. -/
theorem test_release_reads_record :
    let d := after .takeRawEvent { raws [.change 20 false false] on with
      ktu := { on.ktu with
        recs := on.ktu.recs.set 20 (some ⟨.code 0x50, false, false⟩), held := [(0x50, 1)] } }
    d.ktu.held = [] ∧ d.ktu.queue = [⟨0x50, true, false, false⟩] := by decide

/-- 2.8: a press at position 20 in layer 0 is CODE 21. -/
theorem test_press_default_code :
    (after .takeRawEvent (raws [.change 20 true false] on)).ktu.queue = [⟨21, false, false, false⟩] := by
  decide

/-- The KTU of 2.10 at the RESYNC: 32 and 146 held, side button 145 DOWN. -/
def resyncing : Dev :=
  { raws [.resync] (scanning [145] on) with
    ktu := { on.ktu with
      recs := (on.ktu.recs.set 31 (some ⟨.code 32, false, false⟩)).set 145
        (some ⟨.code 146, false, false⟩)
      held := [(32, 1), (146, 1)] } }

/-- 2.10: the restatement releases 32 and 146 and presses 146 again, all SYNTHESIZED. -/
theorem test_restatement :
    let d := after .takeRawEvent resyncing
    d.ktu.queue = [⟨32, true, true, false⟩, ⟨146, true, true, false⟩, ⟨146, false, true, false⟩] ∧
      d.ktu.held = [(146, 1)] ∧ d.ktu.restate = .idle := by decide +kernel

/-- R36: a restatement that waits in step 3 at a press goes on with it when there is room. -/
theorem test_restatement_resumes :
    let d := after .restatementResume { on with ktu := { on.ktu with restate := .pressWaiting 147 148 } }
    d.ktu.queue = [⟨148, false, true, false⟩] ∧ d.ktu.restate = .idle := by decide

/-- 2.12: a press of the wake-marked key 5 in SLEEP fills the wake key slot and wakes by KEY. -/
theorem test_wake_key :
    let d := after .takeRawEvent (raws [.change 5 true false]
      { inPower .sleep with tst := { off.tst with
          keymap := off.tst.keymap.set 5 ⟨.code 6, true⟩, wake := off.tst.wake.set 2 ⟨true, false, true⟩ } })
    d.ktu.wakeKey = some ⟨5, 6, none⟩ ∧ d.wku.lastSource = some .key ∧ d.ppu.power = .poweringUp := by
  decide

/-- 2.12, R34: at link UP the key and its release are delivered, the release as its raw change was. -/
theorem test_wake_key_delivered :
    (after (.powerGoodChange true) { inPower .poweringUp with
      ktu := { off.ktu with
        recs := off.ktu.recs.set 5 (some ⟨.code 6, false, true⟩), wakeKey := some ⟨5, 6, some true⟩ } }).ktu.queue =
      [⟨6, false, false, false⟩, ⟨6, true, true, false⟩] := by decide

/-! ## Chapter 3 (sections 3.6 and 3.7) -/

/-- The PKM's read in flight on SEG0, at this item of a poll cycle. -/
def polling (item : Nat) (retry : Bool) (failures : Nat) : Dev :=
  withSeg .seg0 (busyWith (internalTxn 1 .pkm false 0x0B (0x40 + item) []))
    { packA with pkm := packA.pkm.set false { packA.pkm.one with
        record := { packA.pkm.one.record with failures := failures }
        cycle := some ⟨.poll, item, retry⟩, outstanding := true, copyAddress := 0x0B
        copyCommands := on.tst.itemmap
        staged := [some 11000, some 0, some 250, some 50, some 4000, none, none].take item } }

/-- 3.6: the retry of an item completes ADDR_NACK with two failures counted: COMM_LOST, stale. -/
theorem test_pack_lost :
    let d := after (.packItemCompletion .a .addrNack) (polling 0 true 2)
    d.pkm.one.record.state = .commLost ∧ d.pkm.one.record.failures = 3 ∧ d.pkm.one.record.stale = true ∧
      d.Raised 6 := by unfold Dev.Raised; decide

/-- 3.7: the completion of an orphan is discarded. -/
theorem test_orphan_is_discarded :
    let d := after (.packItemCompletion .a (.ok [50, 0])) { polling 3 false 0 with
      pkm := (polling 3 false 0).pkm.set false { noPack with outstanding := true, orphan := true } }
    d.pkm.one = noPack := by decide

/-- 3.7: removal during a cycle. -/
theorem test_removal :
    let d := after (.packRemoval .a) (polling 3 false 0)
    d.pkm.one.record = PackRecord.empty ∧ d.pkm.one.orphan = true ∧
      d.nsu.queue = [.packChange .a .absent] := by decide

/-- R51: a pack inserted is identified, CHEMISTRY first. -/
theorem test_presence :
    (after (.presenceActive .a) on).segs.one.queue.map Txn.command = [0x48] := by decide

/-- R53: a poll timer expiry of a READY pack reads VOLTAGE. -/
theorem test_poll :
    (after (.pollTimerExpiry .a) packA).segs.one.queue.map Txn.command = [0x40] := by decide

/-- R45: an age of 4 s exceeds three intervals of 1000 ms. -/
theorem test_age_tick :
    let d := after (.ageTick .a) { packA with pkm := packA.pkm.set false { packA.pkm.one with
      record := { packA.pkm.one.record with age := 3 } } }
    d.pkm.one.record.age = 4 ∧ d.pkm.one.record.stale = true := by decide

/-! ## Chapter 4 (section 4.5 and R70, R71, R78 to R80, R82) -/

/-- The packs, tables and input sample of 4.5, the SYSTEM_CURRENT read in flight. -/
def tight : Dev :=
  withSeg .seg0 (busyWith (internalTxn 1 .input false 9 0x31 []))
    { on with
      tst := { on.tst with
        profile := List.replicate 4 { ProfileTab.default with chargeVoltage := 4200, fastCurrent := 2000 }
        power := { PowerTab.default with efficiency := 92 }
        adapter := List.replicate 16 65000 }
      pkm := ⟨packWith (telemetry 40 (some 2500)), packWith (telemetry 70 (some 1500))⟩
      chg := { on.chg with
        adapter := some 3, reader := .readingCurrent 20000
        packs := ⟨⟨.fast, 1024, 12600, 0, 0, .idle, false, false⟩,
          ⟨.fast, 0, 0, 0, 0, .idle, false, false⟩⟩ } }

/-- 4.5: the sample gives a headroom of 20500 mW, pack A 1280 mA and 12600 mV, pack B nothing. -/
theorem test_tight_allocation :
    let d := after (.inputReadCompletion (.ok [0x08, 0x07])) tight
    d.chg.headroom = 20500 ∧ d.chg.packs.one.current = 1280 ∧ d.chg.packs.one.voltage = 12600 ∧
      d.chg.packs.two.current = 0 := by decide

/-- 4.5: pack A's charger is written 1280 mA, pack B's not. -/
theorem test_tight_write :
    let d := after (.inputReadCompletion (.ok [0x08, 0x07])) tight
    d.segs.one.queue.map (fun t => (t.command, t.data)) = [(0x22, [0x00, 0x05])] ∧
      d.segs.two.queue = [] := by decide

/-- 4.5: the next sample lets pack A climb to 1472 mA; a system current of 2800 mA takes it to 0 at once. -/
theorem test_tight_goes_on :
    let next (i : Nat) := allocate (chargeA { fastA with current := 1280, voltage := 12600 }
      { tight with chg := { tight.chg with vIn := some 20000, iSys := some i } })
    ((next 1800).chp .a).current = 1472 ∧ ((next 2800).chp .a).current = 0 := by decide

/-- R65, R66: a sample that moves pack A from FAST to TOPOFF runs two allocations, so the slew of 256 mA is
climbed twice: the commanded current rises from 1024 mA to 1472 mA, the demand of 1500 mA on the step. -/
theorem test_stage_change_allocates_twice :
    let d := sampleComplete .a { tight with
      pkm := tight.pkm.set false (packWith { telemetry 40 (some 1500) with voltage := 12600 })
      chg := { tight.chg with vIn := some 20000, iSys := some 0 } }
    (d.chp .a).stage = .topoff ∧ (d.chp .a).current = 1472 := by decide

/-- R63: an allocation timer expiry reads INPUT_VOLTAGE at charger A. -/
theorem test_input_read :
    (after .allocationTimerExpiry on).segs.one.queue.map (fun t => (t.address, t.command)) =
      [(0x09, 0x30)] := by decide

/-- R70: the fast-charge timer ends charging in FAULT. -/
theorem test_fast_charge_expiry :
    let d := after (.fastChargeExpiry .a) (chargeA fastA packA)
    d.chg.packs.one.stage = .fault ∧ d.chg.packs.one.current = 0 := by decide

/-- R71: CHARGE_CLEAR takes a pack in FAULT to NONE. -/
theorem test_charge_clear :
    let d := after (.chargeClear 7 [0]) (chargeA { fastA with stage := .fault, current := 0, voltage := 0 } packA)
    d.chg.packs.one.stage = .none ∧ answer0 d = some ⟨.ok, false, []⟩ := by decide

/-- A CURRENT write of pack A in flight. -/
def writingA : Dev :=
  withSeg .seg0 (busyWith (internalTxn 0 .charger true 9 0x22 [0x80, 0x02]))
    (chargeA { fastA with writer := .writingCurrent } packA)

/-- R78: after the CURRENT write the VOLTAGE write of 12300 mV follows. -/
theorem test_charger_write :
    (after (.chargerWriteCompletion .a (.ok [])) writingA).segs.one.queue.map
      (fun t => (t.command, t.data)) = [(0x23, [0x0C, 0x30])] := by decide

/-- R79: a failed retry makes the stage FAULT. -/
theorem test_charger_fails :
    (after (.chargerWriteCompletion .a .dataNack)
      (chargeA { fastA with writer := .writingCurrent, retryUsed := true } writingA)).chg.packs.one.stage =
      .fault := by decide

/-- R80: a refresh starts a pass of the pack that is present alone. -/
theorem test_refresh :
    let d := after .chargerRefreshExpiry (chargeA fastA packA)
    d.segs.one.queue.map Txn.data = [[0x80, 0x02]] ∧ d.segs.two.queue = [] := by decide

/-- R82: the battery grace forces OFF with the cause BATTERY. -/
theorem test_battery_grace :
    let d := after .batteryGraceExpiry { on with chg := { on.chg with graceTimer := some (Timer.ofMs 1) } }
    d.ppu.power = .poweringDown ∧ d.wku.lastCause = .battery := by decide

/-! ## Chapter 5 (sections 5.3 and 5.6, and R89, R90, R97, R103, R104) -/

/-- A skin read in flight with S at this value, in this zone, after these failures. -/
def skinAt (v : Int) (zone failures : Nat) : Dev :=
  withSeg .seg1 (busyWith (internalTxn 2 .skin false 0x48 0 []))
    { on with tfu := { on.tfu with
        skin := ⟨v, .real⟩, zone := zone, skinFailures := failures, skinReading := true } }

/-- 5.3: 51 °C in zone 1 is zone 2. -/
theorem test_zone_rises :
    let d := after (.skinReadCompletion (.ok [51, 0])) (skinAt 46 1 0)
    d.tfu.zone = 2 ∧ d.nsu.queue = [.thermalZone 1 2 51] := by decide

/-- 5.3: the third failure in a row is FAIL_SAFE at 95 °C, zone 3, the mark CLEAR. -/
theorem test_skin_lost :
    let d := after (.skinReadCompletion .addrNack) (skinAt 51 2 2)
    d.tfu.skin = ⟨95, .failSafe⟩ ∧ d.tfu.zone = 3 ∧ d.tfu.skinFailures = 3 ∧ d.tfu.critical = false := by
  decide

/-- R91: the skin read timer's expiry reads the sensor at 0x48. -/
theorem test_skin_read :
    (after .skinReadTimerExpiry on).segs.two.queue.map Txn.address = [0x48] := by decide

/-- Fan 1 with this evaluation temperature and duty, D0 reporting this temperature. -/
def fanAt (e : Int) (duty : Nat) (t : Int) : Dev :=
  { on with tfu := { on.tfu with
      die := [⟨t, .real⟩, Source.gone, Source.gone, Source.gone]
      fans := on.tfu.fans.set false { on.tfu.fans.one with eval := e, duty := duty } } }

/-- 5.6, update 1: 70 °C asks 75 %. -/
theorem test_fan_rises : (after (.fanUpdate .fan1) (fanAt 60 50 70)).tfu.fans.one.duty = 75 := by decide

/-- 5.6, update 4: 50 °C takes E to 54 °C and the duty down by the decrease step, to 67 %. -/
theorem test_fan_falls :
    let d := after (.fanUpdate .fan1) (fanAt 69 72 50)
    d.tfu.fans.one.eval = 54 ∧ d.tfu.fans.one.duty = 67 := by decide

/-- R103: a pulse of a fitted fan counts. -/
theorem test_tach_pulse : (after (.tachPulse .fan2) on).tfu.fans.two.pulses = 1 := by decide

/-- R103, R104: 9 pulses are 270 rpm, and the third stalled window in a row is FAULT, both fans at 100 %. -/
theorem test_fan_stalls :
    let d := after (.tachWindowEnd .fan1) { on with tfu := { on.tfu with
      fans := on.tfu.fans.set false { on.tfu.fans.one with pulses := 9, stallCount := 2, duty := 60 } } }
    d.tfu.fans.one.lastRpm = 270 ∧ d.tfu.fans.one.fault = true ∧ d.tfu.fans.two.duty = 100 := by decide

/-- R89: a report of −41 °C is taken as −40 °C, and the sources not reported are ABSENT. -/
theorem test_temp_report :
    (after (.tempReport 0 [0xD7, 0xFF]) on).tfu.die =
      [⟨-40, .real⟩, Source.gone, Source.gone, Source.gone] := by decide

/-- R90: without a report D0 to D3 are FAIL_SAFE. -/
theorem test_host_timeout :
    (after .hostReportTimeout
      { on with tfu := { on.tfu with hostTimer := .running (Timer.ofMs 3000) } }).tfu.die =
      List.replicate 4 ⟨95, .failSafe⟩ := by decide

/-- R97: the critical grace forces OFF with the cause THERMAL. -/
theorem test_critical_grace :
    let d := after .criticalGraceExpiry { on with tfu := { on.tfu with graceTimer := some (Timer.ofMs 1) } }
    d.ppu.power = .poweringDown ∧ d.wku.lastCause = .thermal := by decide

/-! ## Chapters 6 and 7 (sections 6.6, 6.9, 7.6 and 7.7) -/

/-- 6.6: power-good falls in SLEEP_ENTRY with the latch set: on to POWERING_UP. -/
theorem test_latched_wake :
    let d := after (.powerGoodChange false)
      { inPower .sleepEntry with ppu := { (inPower .sleepEntry).ppu with wakeLatch := true } }
    d.ppu.power = .poweringUp ∧ d.ppu.wakeLatch = false ∧ d.ppu.transition = some (Timer.ofMs 2000) := by
  decide

/-- 6.6: the send of the OK to POWER_REQUEST SLEEP is SLEEP_ENTRY, main rail off, link DOWN. -/
theorem test_sleep_is_carried_out :
    let d := after .frameSent { on with
      ppu := { on.ppu with request := some (.sleep, 9) }
      pli := { on.pli with
        slots := on.pli.slots.set 0 ⟨.sending, 0, 8, 9, some ⟨.ok, false, []⟩⟩
        tx := some ⟨.response 0, []⟩ } }
    d.ppu.power = .sleepEntry ∧ d.mainRail = false ∧ d.sleepRail = true ∧ d.pli.linkUp = false := by
  decide

/-- 6.9: the press in OFF wakes by POWER_BUTTON and starts the override timer. -/
theorem test_press_in_off :
    let d := after .shortPress off
    d.ppu.power = .poweringUp ∧ d.ppu.overrideTimer = some (Timer.ofMs 4000) ∧
      d.wku.lastSource = some .powerButton := by decide

/-- 6.9: the override is a forced OFF with BUTTON_OVERRIDE. -/
theorem test_override :
    let d := after .overrideExpiry { on with ppu := { on.ppu with overrideTimer := some (Timer.ofMs 1) } }
    d.ppu.power = .poweringDown ∧ d.ppu.cause = .buttonOverride ∧ d.pli.linkUp = false := by decide

/-- R114: the release stops the override timer. -/
theorem test_button_release :
    (after .buttonRelease { on with ppu := { on.ppu with
      button := ⟨some true, none⟩, overrideTimer := some (Timer.ofMs 1) } }).ppu.overrideTimer = none := by
  decide

/-- 7.6: no power-good by the power-up timeout is OFF with POWER_FAULT. -/
theorem test_power_up_timeout :
    let d := after .powerUpTimeout (inPower .poweringUp)
    d.ppu.power = .off ∧ d.wku.powerFault = true := by decide

/-- R125: the power-down timeout ends in OFF with POWER_FAULT. -/
theorem test_power_down_timeout :
    let d := after .powerDownTimeout (inPower .poweringDown)
    d.ppu.power = .off ∧ d.wku.powerFault = true := by decide

/-- R123: the restart timer brings the platform up. -/
theorem test_restart :
    let d := after .restartTimerExpiry
      { off with ppu := { off.ppu with restartPending := true, restartTimer := some (Timer.ofMs 1) } }
    d.ppu.power = .poweringUp ∧ d.ppu.restartPending = false ∧ d.wku.lastSource = none := by decide

/-- R120: the three values are accepted in ON and stand as the request pending. -/
theorem test_power_requests :
    (after (.powerRequestSleep 3) on).ppu.request = some (.sleep, 3) ∧
      (after (.powerRequestOff 4) on).ppu.request = some (.off, 4) ∧
      (after (.powerRequestRestart 5) on).ppu.request = some (.restart, 5) := by decide

/-- 7.6: an adapter plugged in during SLEEP wakes nothing by default. -/
theorem test_adapter_in_sleep :
    let d := after (.adapterPresentAccept true 3) (inPower .sleep)
    d.ppu.power = .sleep ∧ d.wku.lastSource = none ∧ d.chg.adapter = some 3 := by decide

/-- 7.6: the wake line wakes from SLEEP. -/
theorem test_wake_line :
    let d := after .wakeLineAccept (inPower .sleep)
    d.ppu.power = .poweringUp ∧ d.wku.lastSource = some .wakeLine ∧ d.wku.seen = 64 := by decide

/-- R135: the line going INACTIVE offers nothing. -/
theorem test_wake_line_inactive :
    (after .wakeLineInactiveAccept
      { inPower .sleep with wku := { off.wku with line := ⟨some true, none⟩ } }).ppu.power = .sleep := by
  decide

/-- 7.7: the set mask wins, and the power button's enable-in-OFF is forced, with CLAMPED. -/
theorem test_wake_set :
    let d := after (.wakeSet 7 [1, 0x02, 0x43]) on
    d.tst.wake.map WakeEntry.inOff = [true, true, false, false, false, false, false] ∧
      answer0 d = some ⟨.ok, true, []⟩ := by decide

/-- 7.6: WAKE_STATUS_READ answers the four fields. -/
theorem test_wake_status :
    answer0 (after (.wakeStatusRead 7 [])
      { on with wku := ⟨some .powerButton, 0x41, .thermal, true, ⟨some false, none⟩⟩ }) =
      some ⟨.ok, false, [0, 0x41, 3, 1]⟩ := by decide

/-- 7.6: WAKE_STATUS_CLEAR empties them. -/
theorem test_wake_status_clear :
    (after (.wakeStatusClear 7 [])
      { on with wku := ⟨some .powerButton, 0x41, .thermal, true, ⟨some false, none⟩⟩ }).wku = Wku.reset := by
  decide

/-! ## Chapter 8 (sections 8.5 and 8.8) -/

/-- 8.5: PT_WRITE with a sequence PENDING joins the queue as a member. -/
theorem test_pass_member :
    (after (.ptWrite .seg0 21 [0x0B, 0x70, 1])
      (withSeg .seg0 { busyWith (internalTxn 1 .pkm false 0x0B 0x43 []) with sequence := .pending 1 }
        (passing .pass))).segs.one.queue.map (fun t => (t.cls, t.member)) = [(1, false), (3, true)] := by
  decide

/-- 8.5: PT_READ of four bytes on an idle segment is taken by the arbiter. -/
theorem test_pass_read :
    (after (.ptRead .seg0 22 [0x0B, 0x71, 4]) (passing .pass)).segs.one.queue.map
      (fun t => (t.length, t.inFlight)) = [(4, true)] := by decide

/-- R153: PT_SEQ_OPEN on an idle segment is granted at once. -/
theorem test_sequence_open :
    let d := after (.ptSeqOpen .seg0 20 []) on
    d.segs.one.sequence = .opened (Timer.ofMs 50) ∧ answer0 d = some ⟨.ok, false, []⟩ := by decide

/-- 8.5: at PT_SEQ_CLOSE the arbiter takes the FULL_CAPACITY read. -/
theorem test_sequence_close :
    let d := after (.ptSeqClose .seg0 23 []) (withSeg .seg0 { segIn .idle with
      queue := [internalTxn 1 .pkm false 0x0B 0x44 []], sequence := .opened (Timer.ofMs 50) } on)
    d.segs.one.sequence = .noSeq ∧ d.segs.one.state = .busy := by decide

/-- R155: the idle timer closes a sequence with SEQ_TIMEOUT. -/
theorem test_sequence_timeout :
    (after (.sequenceIdleExpiry .seg0)
      (withSeg .seg0 { segIn .idle with sequence := .opened (Timer.ofMs 0) } on)).nsu.queue =
      [.segmentEvent .seg0 .seqTimeout] := by decide

/-- SEG1 of 8.8: a skin read in flight, PT 30 waiting, and the DRAIN of tag 31. -/
def jammed (st : SegState) : Dev :=
  withSeg .seg1 { busyWith (internalTxn 2 .skin false 0x48 0 []) with
      state := st
      queue := (if st = .busy then [{ internalTxn 2 .skin false 0x48 0 [] with inFlight := true }] else []) ++
        [{ hubWrite with order := 1 }]
      nextOrder := 2, drains := [⟨1, [1]⟩] }
    { on with
      tfu := { on.tfu with skinReading := true }
      pli := { on.pli with slots :=
        [⟨.waiting, 5, 1, 30, none⟩, ⟨.waiting, 0, 14, 31, none⟩] ++ List.replicate 6 Slot.empty } }

/-- 8.8: the stretch timeout: RECOVERING, one skin failure. -/
theorem test_stretch_timeout :
    let d := after (.stretchTimeout .seg1) (jammed .busy)
    d.segs.two.state = .recovering ∧ d.segs.two.queue.length = 1 ∧ d.tfu.skinFailures = 1 := by decide

/-- R147: a clock held low after a byte starts the stretch timer at 25 ms, and its release stops it. -/
theorem test_stretch_timer :
    let low : Dev := { jammed .busy with pins := { on.pins with clockHigh := ⟨true, false⟩ } }
    low.tick.segs.two.stretch = some ⟨25000, 24500⟩ ∧
      { low.tick with pins := on.pins }.tick.segs.two.stretch = none := by decide

/-- 8.8: FAULT answers PT 30 and the DRAIN with SEG_FAULT. -/
theorem test_fault_answers :
    let d := after (.recoveryEnd .seg1 false) (jammed .recovering)
    d.segs.two.state = .fault ∧ d.pli.readyOrder = [0, 1] ∧
      d.pli.slots.map Slot.response = [some ⟨.segFault, false, []⟩, some ⟨.segFault, false, []⟩] ++
        List.replicate 6 none := by decide

/-- R158: a DRAIN waits for the writes in the queue. -/
theorem test_drain :
    (after (.drain 31 [1]) (withSeg .seg1 { busyWith hubWrite with drains := [] } on)).segs.two.drains =
      [⟨0, [0]⟩] := by decide

/-- 8.5: PT 21 completes OK: it is answered OK, the idle timer starts anew, and the arbiter takes CURRENT. -/
theorem test_pass_completes :
    let d := after (.transactionComplete .seg0 (.ok [])) (withSeg .seg0 { busyWith { hubWrite with member := true } with
      queue := [{ hubWrite with member := true, inFlight := true },
        { internalTxn 1 .pkm false 0x0B 0x44 [] with order := 1 },
        { internalTxn 0 .charger true 0x09 0x22 [0, 5] with order := 2 }]
      sequence := .opened ⟨50000, 20000⟩ } (slot0 4 1 on))
    answer0 d = some ⟨.ok, false, []⟩ ∧ d.segs.one.sequence = .opened (Timer.ofMs 50) ∧
      d.segs.one.queue.map (fun t => (t.cls, t.inFlight)) = [(1, false), (0, true)] := by decide

/-- 8.5: the SOC read completes OK: OK for the PENDING PT_SEQ_OPEN, the sequence OPEN with 50 ms, and PT 21 taken before
the FULL_CAPACITY read that the PKM issues. -/
theorem test_sequence_granted :
    let p := polling 3 false 0
    let d := after (.transactionComplete .seg0 (.ok [50, 0])) (withSeg .seg0 { p.seg .seg0 with
        queue := (p.seg .seg0).queue ++ [{ hubWrite with slot := some 1, member := true, order := 1 }]
        nextOrder := 2, sequence := .pending 0 } (slot0 4 2 p))
    answer0 d = some ⟨.ok, false, []⟩ ∧ d.segs.one.sequence = .opened (Timer.ofMs 50) ∧
      d.segs.one.queue.map (fun t => (t.cls, t.command, t.inFlight)) = [(3, 1, true), (1, 0x44, false)] := by
  decide

/-- 8.8: RELEASE of a segment in FAULT starts a recovery. -/
theorem test_release :
    (after (.segmentResetRelease 32 1) (withSeg .seg1 (segIn .fault) on)).segs.two.state = .recovering := by
  decide

/-- R156: HOLD completes the transaction in flight with SEG_RESET. -/
theorem test_hold :
    let d := after (.segmentResetHold 32 0) (withSeg .seg0 (busyWith hubWrite) { slot0 4 1 on with
      pli := { (slot0 4 1 on).pli with rx := [] } })
    d.segs.one.state = .held ∧ answer0 d = some ⟨.segReset, false, []⟩ := by decide

/-- R156, R158, R92: HOLD answers the write that waits SEG_RESET and the DRAIN and itself OK, and the skin read in
flight counts a failure. -/
theorem test_hold_drains :
    let d := after (.segmentResetHold 32 1) (jammed .busy)
    d.pli.slots.map Slot.response = [some ⟨.segReset, false, []⟩, some ⟨.ok, false, []⟩, some ⟨.ok, false, []⟩] ++
      List.replicate 5 none ∧ d.segs.two.drains = [] ∧ d.tfu.skinFailures = 1 := by decide

/-! ## Chapter 9 (sections 9.8 and 9.9) -/

/-- 9.8: a conditional write without the reservation is STALE and writes nothing. -/
theorem test_conditional_write_is_stale :
    let d := after (.tableWriteCond 41 ([11, 0, 0, 1] ++ [1, 80, 0, 0, 0xFF, 0xFF, 3, 3, 2, 1, 1, 0])) on
    answer0 d = some ⟨.stale, false, []⟩ ∧ d.tst.settings.ceilingEnable = false := by decide

/-- 9.8: FAN_BOOST_TOGGLE inverts boost, clears the reservation and tells the hub. -/
theorem test_boost_toggle :
    let d := after .takeRawEvent (raws [.change 70 true false] { on with tst := { on.tst with
      keymap := on.tst.keymap.set 70 ⟨.action 2, false⟩, reserved := List.replicate 11 true } })
    d.tst.settings.boost = true ∧ d.tst.isReserved .settings = false ∧
      d.nsu.queue = [.settingsChanged 1 true] := by decide

/-- 9.8: SETTINGS read with reserve. -/
theorem test_table_read :
    let d := after (.tableRead 40 [11, 0, 0, 1, 1]) on
    answer0 d = some ⟨.ok, false, [2, 0, 80, 0, 0, 0xFF, 0xFF, 3, 3, 2, 1, 1, 0]⟩ ∧
      d.tst.isReserved .settings = true := by decide

/-- 9.9: POWER's derate, step, slew and shutdown SoC as stored, answered CLAMPED. -/
theorem test_power_write :
    let d := after (.tableWrite 3 ([4, 0, 0, 1] ++ fillTo 52 (writeFields powerFields
      { PowerTab.default with derate := 40, step := 36, slew := 100, shutdownSoc := 10 }.toList))) on
    d.tst.power = { PowerTab.default with derate := 50, step := 32, slew := 128, shutdownSoc := 5 } ∧
      answer0 d = some ⟨.ok, true, []⟩ := by decide

/-- R85: a slew of 4096 mA takes the end 4000, falls to 3840 by the step of 256 and rises to 4096 by the minimum of
4000: stored as written, by adjustments that each set CLAMPED (log entry 47). -/
theorem test_slew_adjusted_back :
    let d := after (.tableWrite 3 ([4, 0, 0, 1] ++ fillTo 52 (writeFields powerFields
      { PowerTab.default with minCurrent := 4000, step := 256, slew := 4096 }.toList))) on
    d.tst.power = { PowerTab.default with minCurrent := 4000, step := 256, slew := 4096 } ∧
      answer0 d = some ⟨.ok, true, []⟩ := by decide

/-- 9.8: TABLE_LOCK of SETTINGS. -/
theorem test_table_lock :
    let d := after (.tableLock 45 [0, 4]) on
    d.tst.isLocked .settings = true ∧ d.tst.isLocked .wake = false := by decide

/-! ## Chapter 10 (sections 10.9 and 10.10, R175, R182, R183, R185) -/

/-- R175: the CRC-8 of 123456789 under the polynomial x⁸ + x² + x + 1 is 0xF4, its published check value. -/
theorem test_crc : crc8 [0x31, 0x32, 0x33, 0x34, 0x35, 0x36, 0x37, 0x38, 0x39] = 0xF4 := by decide +kernel

/-- R175: a frame whose CRC is wrong is discarded with LINK_ERROR CRC. -/
theorem test_bad_crc :
    (after (.frameReceived [0, 1, 0, 0xFF]) on).nsu.queue = [.linkError .crc] := by decide +kernel

/-- 10.9: RESPONSE comes before KEY at equal levels. -/
theorem test_arbiter :
    (after (.transmitChoice true) { on with
      ktu := { on.ktu with queue := List.replicate 11 ⟨21, false, false, false⟩ }
      pli := { on.pli with
        readyOrder := [3], slots := on.pli.slots.set 3 ⟨.ready, 0, 6, 1, some ⟨.ok, false, []⟩⟩ } }).pli.tx.map
      TxFrame.source = some (.response 3) := by decide

/-- 10.9: 8 of 11 key reports go, with tag 0. -/
theorem test_key_frame :
    let d := after (.transmitChoice true)
      { on with ktu := { on.ktu with queue := List.replicate 11 ⟨21, false, false, false⟩ } }
    d.ktu.queue.length = 3 ∧ d.pli.seqKey = 1 ∧
      d.pli.tx.map (fun f => f.bytes.take 6) = some [0x09, 0, 24, 21, 0, 0] := by decide

/-- 10.10: a TEMP_REPORT at the head is taken with no slot FREE. -/
theorem test_take_without_slot :
    (after .requestTake { on with pli := { on.pli with
      rx := [⟨3, 0, 0, [30, 0]⟩], slots := List.replicate 8 ⟨.waiting, 4, 0, 0, none⟩ } }).pli.rx = [] := by
  decide

/-- R182: IDENTIFY. -/
theorem test_identify :
    answer0 (after (.identify 7 []) on) = some ⟨.ok, false, [0xB4, 0x0A, 1, 7, 60, 6, 8, 1]⟩ := by decide

/-- R185: a platform reset takes the link DOWN and clears the locks. -/
theorem test_platform_reset :
    let d := after .platformResetAssert { on with tst := { on.tst with locked := List.replicate 11 true } }
    d.pli.linkUp = false ∧ d.tst.isLocked .power = false := by decide

/-- R183, R190: its release brings the link UP with LINK_UP. -/
theorem test_platform_release :
    let d := after .platformResetRelease { inPower .on with
      pins := { on.pins with platformReset := true }, pli := { on.pli with linkUp := false } }
    d.pli.linkUp = true ∧ d.nsu.queue = [.linkUp none .none false] := by decide

/-- R173: a power-on reset unlocks and takes the straps. -/
theorem test_power_on_reset :
    let d := after (.powerOnReset ⟨false, true, false⟩)
      { on with tst := { on.tst with locked := List.replicate 11 true } }
    d.tst.isLocked .power = false ∧ d.profile = ⟨false, true, false⟩ ∧ d.ppu.power = .off := by decide

/-- R60, R135, R142: after 0.5 ms a pack seated and a wake line low through the reset have 99.5 ms and 49.5 ms
to wait; pack B of a one-pack board does not wait. -/
theorem test_waits_from_reset :
    let d := (after (.powerOnReset ⟨false, true, true⟩) { off with
      pins := { off.pins with presence := Pair.both true, wakeLow := true } }).tick
    (d.mon .a).presence = ⟨some false, some (true, ⟨100000, 99500⟩)⟩ ∧
      (d.mon .b).presence = ⟨some false, none⟩ ∧
      d.wku.line = ⟨some false, some (true, ⟨50000, 49500⟩)⟩ := by decide

/-! ## Chapters 11 and 12 (sections 11.5 and 12.4, R191) -/

/-- 11.5: STREAM_START THERMAL, 1000 ms, 4, CIRCULAR. -/
theorem test_stream_start :
    let d := after (.streamStart 1 [1, 0xE8, 3, 4, 0, 1]) on
    (d.stream .thermal).running = true ∧ (d.stream .thermal).remaining = 4 ∧
      answer0 d = some ⟨.ok, false, []⟩ := by decide

/-- 11.5: the second expiry builds HALF, and over a frame not sent it would be SKIPPED. -/
theorem test_stream_half :
    let d := after (.streamPeriodExpiry .thermal) (on.setStream .thermal
      ⟨true, 1000, 4, true, 3, some (Timer.ofMs 1000), some ⟨3, false, false, false, []⟩⟩)
    (d.stream .thermal).slot.map (fun f => (f.remaining, f.skipped, f.half, f.complete)) =
      some (2, true, true, false) := by decide

/-- R192: STREAM_STOP. -/
theorem test_stream_stop :
    (after (.streamStop 1 [0])
      (on.setStream .battery ⟨true, 1000, 4, true, 3, some (Timer.ofMs 1000), none⟩)).nsu.streams.one.running =
      false := by decide

/-- 12.4: the first two bytes of pack A's block are 18 and 79, 1280 mA is 160 in bits 148 to 157, and the
42 min stand in bits 173 to 183. -/
theorem test_battery_record :
    let d := chargeA ⟨.fast, 1280, 12600, 0, 42 * 60000000, .idle, false, false⟩ { packA with
      pkm := packA.pkm.set false (packWith { telemetry 40 (some 2500) with reqVoltage := some 12600 }) }
    let b := match answer0 (after (.statusReadBattery 7) d) with
      | some r => r.data
      | none => []
    b.length = 57 ∧ (b.drop 11).take 2 = [18, 79] ∧
      leNat ((b.drop 11).take 23) / 2 ^ 148 % 2 ^ 10 = 160 ∧
      leNat ((b.drop 11).take 23) / 2 ^ 173 % 2 ^ 11 = 42 := by decide

/-- R181: the other two records have 31 and 8 bytes. -/
theorem test_record_lengths :
    (answer0 (after (.statusReadThermal 7) on)).map (fun r => r.data.length) = some 31 ∧
      (answer0 (after (.statusReadKeyboard 7) on)).map (fun r => r.data.length) = some 8 := by decide

/-- R191: the summary is read and emptied. -/
theorem test_summary :
    let d := after (.summaryRead 7) { on with nsu := { on.nsu with summary := 0x8001 } }
    answer0 d = some ⟨.ok, false, [0x01, 0x80]⟩ ∧ d.nsu.summary = 0 := by decide

/-- R35: KEY_RESYNC is refused while a restatement runs. -/
theorem test_key_resync_busy :
    answer0 (after (.keyResync 7 []) { on with ktu := { on.ktu with restate := .pressing 3 } }) =
      some ⟨.busy, false, []⟩ := by decide

/-! ## Witnesses: the machine, resets and keyboard -/

/-- A machine that waits for nothing, one whose allocation timer has run out, and one with a raw event. -/
theorem witness_StepRunsFrontCommand :
    let due := { on with chg := { on.chg with allocTimer := some ⟨500000, 0⟩ } }
    (State.reset.pending = [] ∧ State.reset.dev.ownStep = none ∧ State.reset.dev.due = []) ∧
      (due.ownStep = none ∧ due.due.head? = some .allocationTimerExpiry) ∧
      ((raws [.resync] off).mse.raw ≠ [] ∧ (raws [.resync] off).pli.linkUp = false) := by decide

/-- The scan timer at each call of R3: it runs with the period called for, with another, or is stopped; the
default WAKE calls for 16 ms in SLEEP and for none in OFF. -/
theorem witness_Retimed :
    (scanning [] on).scanCalled .on = some 1000 ∧
      (∃ t, (scanning [] on).mse.scanTimer = some t ∧ t.period = 1000) ∧ off.mse.scanTimer = none ∧
      (scanning [] on).scanCalled .sleep = some 16000 ∧ (scanning [] on).scanCalled .off = none ∧
      (scanning [] on).mse.scanTimer.isSome = true :=
  ⟨by decide, ⟨_, rfl, rfl⟩, rfl, by decide, by decide, rfl⟩

/-- A request is taken into the lowest FREE slot, the first or the last: every statement about a request
starts from such a part. -/
theorem witness_taken : on.TakesInto 0 ∧ slot7.TakesInto 7 := ⟨⟨rfl, rfl, rfl⟩, ⟨rfl, rfl, rfl⟩⟩

/-- Records that wait, the one that the arbiter takes first with no sequence and while one is OPEN, and none
that it may take. -/
theorem witness_TookFirst :
    let hub : Txn := { hubRead with order := 3 }
    let pack : Txn := { internalTxn 1 .pkm false 0x0B 0x40 [] with order := 1 }
    let member : Txn := { hubRead with member := true, order := 2 }
    let q := [hub, pack, member]
    Wait q ∧ Sequence.noSeq.lets pack ∧
      (∀ u ∈ q, Sequence.noSeq.lets u →
        u = pack ∨ pack.cls < u.cls ∨ (pack.cls = u.cls ∧ pack.order < u.order)) ∧
      (Sequence.opened (Timer.ofMs 50)).lets member ∧
      (∀ u ∈ q, (Sequence.opened (Timer.ofMs 50)).lets u →
        u = member ∨ member.cls < u.cls ∨ (member.cls = u.cls ∧ member.order < u.order)) ∧
      (∀ u ∈ [hub, pack], ¬ (Sequence.opened (Timer.ofMs 50)).lets u) := by
  simp [Wait, Sequence.lets, hubRead, internalTxn]

/-- A HELD segment and an IDLE one with two records that wait for the end of a sequence. -/
theorem witness_PlatformResetClearsLinkSide :
    let q := [hubRead, { hubRead with order := 1 }]
    let d := withSeg .seg0 (segIn .held) (withSeg .seg1
      { segIn .idle with queue := q, nextOrder := 2, sequence := .opened (Timer.ofMs 50) } on)
    d.pins.platformReset = false ∧ (d.seg .seg0).state ≠ .idle ∧ (d.seg .seg1).state = .idle ∧
      Wait ((d.seg .seg1).queue.map fun t => { t with slot := none, member := false }) :=
  ⟨rfl, by decide, rfl, ⟨by decide, by decide⟩⟩

/-- The part in ON under a platform reset, with a wake key. -/
def underReset (release : Option Bool) : Dev :=
  { on with
    pins := { on.pins with platformReset := true }, pli := { on.pli with linkUp := false }
    ktu := { on.ktu with wakeKey := some ⟨147, 148, release⟩ } }

theorem witness_PlatformResetReleaseRaisesLink :
    (∀ r, (underReset r).pins.platformReset = true ∧ (underReset r).pli.linkUp = false ∧
      (underReset r).ppu.power = .on ∧ (underReset r).ktu.wakeKey = some ⟨147, 148, r⟩ ∧
      (underReset r).ktu.queue = [] ∧ (underReset r).ktu.rollover = false) ∧
    (let d := { inPower .sleep with pins := { off.pins with platformReset := true } }
     d.pins.platformReset = true ∧ d.pli.linkUp = false ∧ d.ppu.power ≠ .on) :=
  ⟨fun _ => ⟨rfl, rfl, rfl, rfl, rfl, rfl⟩, by decide⟩

/-- A wake key that link UP delivers, its record there, its lists empty; the power states from which the link
rises, with the platform reset released and asserted, with power-good and without. -/
theorem witness_link_rises :
    (∀ r, (underReset r).ktu.held = [] ∧ (underReset r).ktu.recs[147]? = some none) ∧
      (∀ p, p ≠ .on → (inPower p).pli.linkUp = false ∧ (inPower p).pins.platformReset = false) ∧
      ({ off.pins with platformReset := true } : Pins).platformReset = true ∧
      (inPower .sleep).pins.powerGood = false ∧
      (let d : Dev := { inPower .sleep with pins := { off.pins with powerGood := true } }
       d.RiseLinks ∧ d.WouldWake .wakeLine) :=
  ⟨fun _ => ⟨rfl, rfl⟩, fun p h => by cases p <;> first | exact absurd rfl h | exact ⟨rfl, rfl⟩, rfl, rfl,
    ⟨rfl, rfl, rfl⟩, .inl ⟨rfl, rfl⟩⟩

/-- The first matrix position, the last within the default 16 drive and 8 sense lines, and the last side
button. -/
theorem witness_ScanSettlesEachPosition :
    let d := scanning [0] on
    d.mse.scanTimer.isSome = true ∧ d.profile.sideButtons = true ∧ d.mse.scanState ≠ .gated ∧
      d.mse.recs[0]? = some ⟨true, 0, false, false⟩ ∧ (0 / 8 < d.tst.scan.driveLines ∧ 0 % 8 < d.tst.scan.senseLines) ∧
      d.mse.recs[127]? = some PosRec.up ∧
      (127 / 8 < d.tst.scan.driveLines ∧ 127 % 8 < d.tst.scan.senseLines) ∧
      d.mse.recs[147]? = some PosRec.up := by decide

theorem witness_scan_sound : Tst.reset.scan.sound := by
  simp [ScanTab.sound, within, Tst.reset, ScanTab.default]

/-- A scan in ACTIVE that meets every case of its positions: 17 goes UP with both flags clear, 44 suspect; 20 and 51
stay; 41 stays DOWN suspect; 50 goes DOWN; 136 is out of range, DOWN with both flags clear; 147 is a side button. -/
theorem witness_scan_changes :
    let recs : List PosRec := (List.range 148).map fun p =>
      ⟨[17, 20, 41, 44, 136].contains p, if p = 50 ∨ p = 147 then 2 else 4 * [17, 44].count p,
        p == 41 || p == 44, false⟩
    let after := (scanRecs Tst.reset.scan true .active (keys [20, 41, 50, 147]) recs).1
    let down (l : List PosRec) (ps : List Nat) := ps.map fun p => downAt l p
    recs.length = 148 ∧ down recs [17, 20, 41, 44, 50, 51, 136, 147] =
        [true, true, true, true, false, false, true, false] ∧
      down after [17, 20, 41, 44, 50, 51, 147] = [false, true, true, false, true, false, true] ∧
      recs[17]? = some ⟨true, 4, false, false⟩ ∧ recs[44]? = some ⟨true, 4, true, false⟩ ∧
      ¬ (136 / 8 < Tst.reset.scan.driveLines) ∧ 143 / 8 < 18 ∧
      (scanRecs Tst.reset.scan true .active (keys [20, 41, 50, 147]) recs).2 =
        [.change 136 false true, .change 17 false false, .change 41 true false, .change 50 true false,
          .change 147 true false] := by decide +kernel

/-- A press made suspect by three corners that are DOWN, and one that completes no rectangle. -/
theorem witness_ScanJudgesGhosts :
    let d := withRec 41 ⟨false, 2, false, false⟩ (scanning [17, 20, 44] on)
    let e := withRec 41 ⟨false, 2, false, false⟩ (scanning [17, 20] on)
    d.tst.scan = Tst.reset.scan ∧ d.mse.scanTimer.isSome = true ∧ d.mse.scanState = .active ∧
      d.mse.recs.length = 148 ∧ d.mse.raw = [] ∧
      41 / 8 < d.tst.scan.driveLines ∧ 41 % 8 < d.tst.scan.senseLines ∧
      downAt d.mse.recs 41 = false ∧ downAt e.mse.recs 41 = false ∧
      ((after (.scan (keys [17, 20, 41, 44])) d).mse.recs.getD 41 PosRec.up) = ⟨true, 0, true, false⟩ ∧
      ((after (.scan (keys [17, 20, 41])) e).mse.recs.getD 41 PosRec.up) = ⟨true, 0, false, false⟩ := by
  decide +kernel

/-- The built-in KEYMAP has 444 entries, each of them the default of its index. -/
theorem reset_keymap {n : Nat} (h : n < 444) : Tst.reset.keymap[n]? = some (KeymapEntry.default n) := by
  simp [Tst.reset, Config.positions, h]

theorem reset_keymap_length : Tst.reset.keymap.length = 444 := by simp [Tst.reset, Config.positions]

/-- A lookup that is not passed on reads the entry of the layer. -/
theorem reads_entry {d : Dev} {layer p : Nat} {e : KeymapEntry}
    (h : d.tst.keymap[layer * 148 + p]? = some e) (k : e.kind ≠ .transparent ∨ layer = 0) :
    d.Reads layer p e.kind :=
  ⟨e, h, by rw [if_neg fun x => k.elim (· x.1) x.2]⟩

/-- A lookup of a TRANSPARENT entry in layer 1 or 2 reads the entry of layer 0. -/
theorem reads_beneath {d : Dev} {layer p : Nat} {f : KeymapEntry} {w : Bool}
    (h : d.tst.keymap[layer * 148 + p]? = some ⟨.transparent, w⟩) (k : layer ≠ 0)
    (g : d.tst.keymap[p]? = some f) : d.Reads layer p f.kind :=
  ⟨_, h, by rw [if_pos ⟨rfl, k⟩]; exact ⟨f, g, rfl⟩⟩

/-- The part in ON with a key at position 5 of layer 0, its press or release at the head of the raw events. -/
def keyed (k : KeyKind) (press : Bool) : Dev :=
  { raws [.change 5 press false] on with
    tst := { on.tst with keymap := on.tst.keymap.set 5 ⟨k, false⟩ } }

/-- The first position and the last side button under a closed lid; a key in layer 2 that layer 0 gives. -/
theorem witness_PressOfCodeIsReported :
    let d := raws [.change 0 true false] on
    let e := { raws [.change 147 true false] on with ppu := { on.ppu with posture := .closed } }
    (d.TakesRaw true (.change 0 true false) [] ∧ d.ktu.recs[0]? = some none ∧
      ¬ (0 < 144 ∧ (d.ppu.posture = .closed ∨ d.ppu.posture = .tablet)) ∧
      d.Reads d.ktu.layer 0 (.code 1)) ∧
    (e.TakesRaw true (.change 147 true false) [] ∧ e.ktu.recs[147]? = some none ∧
      ¬ (147 < 144 ∧ (e.ppu.posture = .closed ∨ e.ppu.posture = .tablet)) ∧
      e.Reads e.ktu.layer 147 (.code 148)) ∧
    on.Reads 2 143 (.code 144) := by
  refine ⟨⟨⟨rfl, rfl, rfl, by decide⟩, rfl, by decide, ?_⟩, ⟨⟨rfl, rfl, rfl, by decide⟩, rfl, by decide, ?_⟩, ?_⟩
  · exact reads_entry (e := ⟨.code 1, false⟩) (reset_keymap (by decide)) (.inr rfl)
  · exact reads_entry (e := ⟨.code 148, false⟩) (reset_keymap (by decide)) (.inr rfl)
  · exact reads_beneath (w := false) (f := ⟨.code 144, false⟩) (reset_keymap (by decide)) (by decide)
      (reset_keymap (by decide))

/-- Every kind of entry, the five actions with SETTINGS locked and not; the last matrix position under TABLET; a
record that is not empty. -/
theorem witness_press_kinds (k : KeyKind) :
    (keyed k true).TakesRaw true (.change 5 true false) [] ∧ (keyed k true).ktu.recs[5]? = some none ∧
      ¬ (5 < 144 ∧ ((keyed k true).ppu.posture = .closed ∨ (keyed k true).ppu.posture = .tablet)) ∧
      (keyed k true).Reads (keyed k true).ktu.layer 5 k ∧ (keyed k true).NoFault ∧
      (keyed k true).tst.isLocked .settings = false ∧
      ({ on.tst with locked := List.replicate 11 true } : Tst).isLocked .settings = true ∧
      (143 < 144 ∧ (Posture.tablet = .closed ∨ Posture.tablet = .tablet)) ∧
      (on.ktu.recs.set 5 (some ⟨.fn, false, false⟩))[5]? = some (some ⟨.fn, false, false⟩) := by
  have long : 5 < on.tst.keymap.length := reset_keymap_length ▸ (by decide)
  exact ⟨⟨rfl, rfl, rfl, fun _ => ⟨rfl, Nat.zero_lt_succ _⟩⟩, rfl, fun h => h.2.elim nofun nofun,
    @reads_entry (keyed k true) 0 5 ⟨k, false⟩ (List.getElem?_set_self long) (.inr rfl),
    fun g => by cases g <;> exact nofun, rfl, rfl, by decide, rfl⟩

/-- The part with the link DOWN in a power state, the wake-marked key 5 pressed, every wake enabled. -/
def marked (p : PowerState) : Dev :=
  raws [.change 5 true false] { inPower p with tst := { off.tst with
    keymap := off.tst.keymap.set 5 ⟨.code 6, true⟩, wake := List.replicate 7 ⟨true, true, true⟩ } }

/-- A press with the link DOWN that wakes or is latched, in SLEEP, OFF and SLEEP_ENTRY; and one without a mark. -/
theorem witness_press_link_down :
    (∀ p, p = .sleep ∨ p = .off ∨ p = .sleepEntry →
      (marked p).TakesRaw false (.change 5 true false) [] ∧ (marked p).ktu.recs[5]? = some none ∧
        (marked p).tst.keymap[5]? = some ⟨.code 6, true⟩ ∧
        ((((marked p).ppu.power = .sleepEntry ∨ (marked p).ppu.power = .sleep) ∧
            ((marked p).wakeEntry .key).inSleep = true) ∨
          ((marked p).ppu.power = .off ∧ ((marked p).wakeEntry .key).inOff = true)) ∧
        ((marked p).pins.powerGood = decide (p = .sleepEntry))) ∧
      off.tst.keymap[147]? = some ⟨.code 148, false⟩ := by
  have long : 5 < off.tst.keymap.length := reset_keymap_length ▸ (by decide)
  refine ⟨fun p h => ⟨⟨?_, rfl, rfl, nofun⟩, rfl, List.getElem?_set_self long, ?_, ?_⟩,
    reset_keymap (by decide)⟩ <;>
    rcases h with rfl | rfl | rfl <;> first | rfl | exact .inl ⟨.inl rfl, rfl⟩ | exact .inl ⟨.inr rfl, rfl⟩ |
      exact .inr ⟨rfl, rfl⟩

/-- The part with a release at the head of the raw events and this record at its position 20. -/
def releasing (r : Option KeyRec) (d : Dev) : Dev :=
  { raws [.change 20 false false] d with ktu := { d.ktu with
    recs := d.ktu.recs.set 20 r, held := [(0x50, 1), (0x51, 2)] } }

/-- A last holder and one of two holders; a swallowed code and a record that is no code; an empty record; with the
link DOWN a slotted record and one that is not. -/
theorem witness_ReleaseOfCodeIsReported (r : Option KeyRec) :
    (releasing r on).TakesRaw true (.change 20 false false) [] ∧ (releasing r on).ktu.recs[20]? = some r ∧
      (0x50, 1) ∈ (releasing r on).ktu.held ∧ (0x51, 1) ∉ (releasing r on).ktu.held ∧
      (releasing r off).TakesRaw false (.change 20 false false) [] ∧
      (releasing r off).ktu.recs[20]? = some r ∧
      (⟨.code 0x50, true, false⟩ : KeyRec).swallow = true ∧ (∀ c, Used.fn ≠ .code c) ∧
      (⟨.fn, true, false⟩ : KeyRec).swallow = true ∧ Used.noKey ≠ .fn :=
  ⟨⟨rfl, rfl, rfl, fun _ => ⟨rfl, Nat.zero_lt_succ _⟩⟩, rfl, .head _, fun h => by simp [releasing] at h,
    ⟨rfl, rfl, rfl, nofun⟩, rfl, rfl, nofun, rfl, nofun⟩

/-- A full raw event queue; a key report queue with 32 reports and with 31; a restatement; a RESYNC with the link UP;
one with the link DOWN, with a wake key and without, over a slotted record. -/
theorem witness_RawEventsQueueAndWait :
    let d (n : Nat) := { raws (List.replicate 16 .resync) (scanning [] on) with
      ktu := { on.ktu with queue := List.replicate n ⟨21, false, false, false⟩ } }
    let e := { raws [.resync] off with ktu := { off.ktu with
      recs := off.ktu.recs.set 147 (some ⟨.code 148, false, true⟩), wakeKey := some ⟨147, 148, none⟩ } }
    ((d 0).mse.scanTimer.isSome = true ∧ (d 0).mse.raw.length ≤ 16) ∧
    ((d 32).pli.linkUp = true ∧ 32 ≤ (d 32).ktu.queue.length) ∧
    (on.pli.linkUp = true ∧ { on.ktu with restate := .pressing 0 }.restate ≠ .idle) ∧
    ((d 31).mse.raw = .resync :: List.replicate 15 .resync ∧ (d 31).ktu.restate = .idle ∧
      (d 31).ktu.queue.length < 32) ∧
    (resyncing.TakesRaw true .resync [] ∧ resyncing.ktu.held.length ≤ 16) ∧
    e.TakesRaw false .resync [] ∧ e.ktu.recs[147]? = some (some ⟨.code 148, false, true⟩) ∧
      e.ktu.wakeKey = some ⟨147, 148, none⟩ ∧ e.ktu.recs[0]? = some none ∧
      (raws [.resync] off).ktu.wakeKey = none :=
  ⟨by decide, by decide, by decide, by decide, ⟨⟨rfl, rfl, rfl, fun _ => ⟨rfl, by decide⟩⟩, by decide⟩,
    ⟨rfl, rfl, rfl, nofun⟩, rfl, rfl, rfl, rfl⟩

/-- The key at the last position held DOWN, its record empty, and a restatement at a place. -/
def restating (r : Restatement) : Dev :=
  let d := withRec 147 ⟨true, 0, false, false⟩ on
  { d with ktu := { d.ktu with layer := 1, restate := r } }

theorem restating_keymap : on.tst.keymap[295]? = some ⟨.transparent, false⟩ ∧
    on.tst.keymap[147]? = some ⟨.code 148, false⟩ := ⟨rfl, rfl⟩

theorem restating_down (r : Restatement) : (restating r).HeldDown 147 :=
  ⟨⟨_, rfl, rfl, rfl, rfl⟩, fun h => absurd h.1 (by decide)⟩

/-- The last release of step 1; a press that waits for room in step 3; step 3 come to the last position, which is
held DOWN and reads through a TRANSPARENT entry, and beyond it. -/
theorem witness_RestatementGoesOn :
    (let d := { on with ktu := { on.ktu with held := List.replicate 16 (5, 1), restate := .releasing 15 } }
     d.ktu.held.length ≤ 16 ∧ d.ktu.restate = .releasing 15 ∧ d.ktu.held[15]? = some (5, 1) ∧
      d.ktu.queue.length < 32) ∧
    (∀ r, (restating r).ktu.held = [] ∧ (restating r).ktu.queue = [] ∧ (restating r).ktu.restate = r ∧
      (restating r).ktu.recs.length = 148 ∧ (restating r).ktu.layer = 1 ∧
      (restating r).ktu.recs[147]? = some none ∧ (restating r).HeldDown 147 ∧
      (restating r).Reads 1 147 (.code 148) ∧ ¬ (restating r).HeldDown 148) ∧
    (after .restatementResume (restating (.pressing 147))).ktu.restate = .idle :=
  ⟨by decide, fun r => ⟨rfl, rfl, rfl, rfl, rfl, rfl, restating_down r,
    ⟨_, restating_keymap.1, _, restating_keymap.2, rfl⟩, fun h => by obtain ⟨⟨_, h, -⟩, -⟩ := h; cases h⟩,
    by decide +kernel⟩

/-- A held code; a restatement that runs; a payload of one byte; a key held DOWN that reads CODE at layer 0, and one
that reads FN there. -/
theorem witness_KeyResyncRestates :
    ([(0 : Byte)] ≠ [] ∧ [(0 : Byte)].length ≤ 60) ∧
    (let d (r : Restatement) := { on with ktu := { on.ktu with held := [(5, 1)], restate := r } }
     (∀ r, (d r).TakesInto 0) ∧ (d .idle).ktu.held.length ≤ 16 ∧ (d .idle).ktu.restate = .idle ∧
      (d .idle).ktu.held.head? = some (5, 1) ∧ (d .idle).ktu.queue.length < 32 ∧
      (d (.pressing 0)).ktu.restate ≠ .idle) ∧
    (let d := restating .idle
     d.TakesInto 0 ∧ d.ktu.queue = [] ∧ d.ktu.recs.length = 148 ∧
      (∀ k, some k ∈ d.ktu.recs → k.slotted = false) ∧ d.HeldDown 147 ∧ ¬ d.HeldDown 0 ∧
      d.Reads 0 147 (.code 148) ∧
      ({ d with tst := { d.tst with keymap := d.tst.keymap.set 147 ⟨.fn, false⟩ } } : Dev).Reads 0 147 .fn) :=
  ⟨by decide, ⟨fun _ => ⟨rfl, rfl, rfl⟩, by decide⟩, ⟨rfl, rfl, rfl⟩, rfl, rfl,
    fun k h => (nomatch List.eq_of_mem_replicate (show some k ∈ List.replicate 148 none from h)),
    restating_down _, fun h => by
      obtain ⟨⟨_, h, hd, -⟩, -⟩ := h
      cases h
      exact absurd hd (by decide),
    ⟨_, restating_keymap.2, rfl⟩, ⟨_, rfl, rfl⟩⟩

/-! ## Witnesses: packs and charge -/

/-- A pack just inserted; the read of a pulled pack still outstanding. -/
theorem witness_PresenceStartsIdentification :
    on.packFitted .b = true ∧ (on.mon .b).presence.accepted ≠ some true ∧
      (on.mon .b).outstanding = false ∧ (on.seg (segOf .b)).Takes ∧
      ({ noPack with outstanding := true, orphan := true }).outstanding = true :=
  ⟨rfl, by decide, rfl, ⟨by decide, by decide⟩, rfl⟩

/-- The part in a power state, both packs READY with these states of charge. -/
def batteries (a b : Nat) (p : PowerState) : Dev :=
  { inPower p with pkm := ⟨packWith (telemetry a none), packWith (telemetry b none)⟩ }

/-- What the battery watch meets: in ON a low mark that sets, one that stays and one that clears; in SLEEP a
crossing, one at or below the shutdown SoC, and none. -/
theorem witness_WatchActs :
    let low (d : Dev) : Dev := { d with chg := { d.chg with lowMark := true } }
    let gone (d : Dev) : Dev := after (.packRemoval .a) d
    let quiet (d : Dev) : Dev := { d with tst := { d.tst with
      wake := List.replicate 7 ⟨false, true, false⟩ } }
    (batteries 40 5 .on).chg.lowMark = false ∧ (gone (batteries 40 5 .on)).chg.lowMark = true ∧
      (gone (low (batteries 40 5 .on))).chg.lowMark = true ∧
      (gone (low (batteries 3 6 .on))).chg.lowMark = false ∧
      (gone (batteries 40 5 .sleep)).chg.lowMark = true ∧
      ((batteries 40 5 .sleep).wakeEntry .batteryCritical).inSleep = true ∧
      ((quiet (batteries 40 2 .sleep)).wakeEntry .batteryCritical).inSleep = false ∧
      (gone (quiet (batteries 40 2 .sleep))).chg.systemSoc = some 2 ∧
      2 ≤ (quiet (batteries 40 2 .sleep)).tst.power.shutdownSoc ∧
      (gone (batteries 40 6 .sleep)).chg.lowMark = false ∧
      (batteries 40 5 .on).tst.settings.noticeMask.getLsbD 9 = true := by decide

theorem witness_RemovalEmptiesRecord :
    let d := chargeA fastA packA
    (d.mon .a).presence.accepted = some true ∧ (d.chp .a).stage ≠ .none ∧ d.ppu.power ≠ .sleep ∧
      ((batteries 40 5 .sleep).mon .a).presence.accepted = some true := by decide

/-- What a zero write meets: a writer IDLE on a segment that takes arrivals, on one that is HELD, with a stage that was
NONE already; a pass under way. -/
theorem witness_ZeroWrites :
    (packA.chp .a).writer = .idle ∧ (packA.chp .a).stage = .none ∧ (packA.seg (segOf .a)).Takes ∧
      ¬ ((withSeg .seg0 (segIn .held) packA).seg (segOf .a)).Takes ∧ (writingA.chp .a).writer ≠ .idle ∧
      (writingA.mon .a).presence.accepted = some true :=
  ⟨rfl, rfl, ⟨by decide, by decide⟩, fun h => h.1 rfl, by decide, rfl⟩

/-- R69: the removal of a pack in NONE writes a CURRENT of zero to its charger. -/
theorem test_removal_writes_zero :
    (after (.packRemoval .a) packA).segs.one.queue.map (fun t => (t.command, t.data)) = [(0x22, [0, 0])] := by
  decide

/-- A timer with a cycle under way; with none, on a segment that takes the read, on a HELD one, and on one in FAULT
before the third failure and at it. -/
theorem witness_PackTimersRun :
    (packA.mon .a).pollTimer = some (Timer.ofMs 1000) ∧ (packA.mon .a).ageTick = some (Timer.ofMs 1000) ∧
      (packA.mon .a).cycle = none ∧ (packA.mon .a).outstanding = false ∧ (packA.seg (segOf .a)).Takes ∧
      ((polling 7 false 0).mon .a).pollTimer = some (Timer.ofMs 1000) ∧
      ((polling 7 false 0).mon .a).cycle.isSome = true ∧
      (∀ st, ((withSeg .seg0 (segIn st) packA).seg (segOf .a)).state = st ∧
        (withSeg .seg0 (segIn st) packA).pkm = packA.pkm) ∧
      (packA.mon .a).record.failures < 2 ∧ (packA.mon .a).record.state = .ready ∧
      2 ≤ ((polling 0 true 2).mon .a).record.failures :=
  ⟨rfl, rfl, rfl, rfl, ⟨by decide, by decide⟩, rfl, rfl, fun _ => ⟨rfl, rfl⟩, by decide, rfl, by decide⟩

/-- The first item of a poll cycle, the last but one, and the first of an identification; a first failure, a failed
retry with fewer than two failures counted and with two; an orphan of a pack that waits for it and of one that does
not. -/
theorem witness_PackItemIsStaged :
    (∀ n r i, n ≤ 6 → (polling n r i).Flies (segOf .a) .pkm false 2 ∧
      ((polling n r i).mon .a).orphan = false ∧
      ((polling n r i).mon .a).cycle = some ⟨.poll, n, r⟩ ∧ n + 1 < 8 ∧
      ((polling n r i).mon .a).record.failures = i ∧ ((polling n r i).mon .a).record.state = .ready) ∧
    (let d := (polling 0 false 0).setMon .a
        { noPack with cycle := some ⟨.identify, 1, false⟩, outstanding := true }
     d.Flies (segOf .a) .pkm false 2 ∧ (d.mon .a).orphan = false ∧
      (d.mon .a).cycle = some ⟨.identify, 1, false⟩ ∧ 1 + 1 < 3) ∧
    (∀ st, let d := (polling 0 false 0).setMon .a { noPack with
        record := ⟨st, none, none, false, 0, 0⟩, outstanding := true, orphan := true }
     d.Flies (segOf .a) .pkm false 2 ∧ (d.mon .a).orphan = true ∧ (d.mon .a).record.state = st) :=
  ⟨fun _ _ _ h => ⟨⟨_, rfl, rfl, rfl, rfl⟩, rfl, rfl, by omega, rfl, rfl⟩,
    ⟨⟨_, rfl, rfl, rfl, rfl⟩, rfl, rfl, by decide⟩, fun _ => ⟨⟨_, rfl, rfl, rfl, rfl⟩, rfl, rfl⟩⟩

/-- The STATUS read of a poll cycle; the DESIGN_CAPACITY read of an identification with the classes and cells at
the ends of their ranges and just beyond. -/
theorem witness_LastItemCommitsSample :
    ((polling 7 true 2).Flies (segOf .a) .pkm false 2 ∧ ((polling 7 true 2).mon .a).orphan = false ∧
      ((polling 7 true 2).mon .a).cycle = some ⟨.poll, 7, true⟩ ∧
      ((polling 7 true 2).mon .a).staged = [some 11000, some 0, some 250, some 50, some 4000, none, none] ∧
      { (polling 7 true 2).pkm.one.record with state := .commLost }.state = .commLost) ∧
    (∀ a b : Nat, let d := (polling 0 false 0).setMon .a { noPack with
        cycle := some ⟨.identify, 2, false⟩, staged := [some (a : Int), some (b : Int)], outstanding := true }
     d.Flies (segOf .a) .pkm false 2 ∧ (d.mon .a).orphan = false ∧
      (d.mon .a).cycle = some ⟨.identify, 2, false⟩ ∧
      (d.mon .a).staged = [some (a : Int), some (b : Int)]) ∧
    (3 ≤ 3 ∧ 1 ≤ 1 ∧ 4 ≤ 4) ∧ (3 < 4 ∨ 0 = 0 ∨ 4 < 5) :=
  ⟨⟨⟨_, rfl, rfl, rfl, rfl⟩, rfl, rfl, rfl, rfl⟩, fun _ _ => ⟨⟨_, rfl, rfl, rfl, rfl⟩, rfl, rfl, rfl⟩,
    by decide, by decide⟩

/-- A stage that the sample changes, and one that it keeps. -/
theorem witness_SampleSettlesStage :
    let d := chargeA fastA packA
    (d.mon .a).record.state = .ready ∧ (d.mon .a).record.identity = some ⟨0, 3, 5000⟩ ∧
      (d.mon .a).record.telemetry = some (telemetry 40 (some 2500)) ∧
      d.tst.profile[0]? = some ProfileTab.default ∧ d.NoFault ∧
      (sampleComplete .a (chargeA { fastA with stage := .hold } packA)).chg.packs.one.stage ≠ .hold ∧
      (sampleComplete .a d).chg.packs.one.stage = .fast :=
  ⟨rfl, rfl, rfl, rfl, fun g => by cases g <;> decide, by decide, by decide⟩

/-- An adapter that is there, as the PPU and the CHG hold it. -/
def plugged (d : Dev) : Dev :=
  { d with ppu := { d.ppu with adapter := Debounce.accept true }, chg := { d.chg with adapter := some 0 } }

/-- A departure that is a crossing: in ON, and in SLEEP with the ADAPTER_CHANGE wake disabled and enabled, there with
power-good asserted. -/
theorem witness_departure :
    let gone (d : Dev) : Dev := after (.adapterPresentAccept false 0) d
    let woken := { plugged (batteries 5 5 .sleep) with
      pins := { off.pins with powerGood := true }
      tst := { off.tst with wake := List.replicate 7 ⟨true, true, false⟩ } }
    (plugged (batteries 5 5 .on)).ppu.adapter.accepted ≠ some false ∧
      (plugged (batteries 5 5 .on)).chg.lowMark = false ∧
      (gone (plugged (batteries 5 5 .on))).chg.lowMark = true ∧
      ((plugged (batteries 5 5 .sleep)).wakeEntry .adapterChange).inSleep = false ∧
      (plugged (batteries 5 5 .sleep)).ppu.power = .sleep ∧
      (gone (plugged (batteries 5 5 .sleep))).chg.lowMark = true ∧
      woken.WouldWake .adapterChange ∧ woken.pins.powerGood = true ∧ (gone woken).chg.lowMark = true :=
  ⟨by decide, rfl, by decide, by decide, rfl, by decide, .inl ⟨rfl, rfl⟩, rfl, by decide⟩

/-- An arrival in ON, in SLEEP with the wake enabled, in SLEEP_ENTRY with it, in OFF without; a departure. -/
theorem witness_AdapterChangeIsTaken :
    on.ppu.adapter.accepted ≠ some true ∧ (⟨some true, none⟩ : Debounce).accepted ≠ some false ∧
      on.ppu.power = .on ∧ on.NoFault ∧ on.tst.settings.noticeMask.getLsbD 8 = true ∧
      ({ inPower .sleep with tst := { off.tst with wake := List.replicate 7 ⟨true, true, false⟩ } } : Dev).WouldWake
        .adapterChange ∧
      (∀ b, let d : Dev := { inPower .sleepEntry with tst := { off.tst with wake := List.replicate 7 ⟨b, b, false⟩ } }
        d.ppu.power ≠ .sleep ∧ ¬ d.WouldWake .adapterChange ∧ d.ppu.power = .sleepEntry ∧
          (d.wakeEntry .adapterChange).inSleep = b ∧ d.NoFault) ∧
      ¬ on.WouldWake .adapterChange ∧ off.ppu.power ≠ .sleep ∧ ¬ off.WouldWake .adapterChange :=
  ⟨by decide, by decide, rfl, fun g => by cases g <;> decide, rfl, .inl ⟨rfl, rfl⟩,
    fun b => ⟨nofun, nofun, rfl, by cases b <;> rfl,
      fun g => by cases b <;> cases g <;> decide⟩, nofun, nofun, nofun⟩

/-- The input reader at work, its read in flight. -/
def reading (r : InputReader) (failures : Nat) : Dev :=
  withSeg .seg0 (busyWith (internalTxn 1 .input false 9 0x30 []))
    { on with chg := { on.chg with reader := r, inputFailures := failures } }

theorem witness_InputSampleIsTaken :
    on.chg.allocTimer.isSome = true ∧ on.chg.reader = .idle ∧ (on.seg .seg0).Takes ∧
      (∀ r n, (reading r n).Flies .seg0 .input false 2 ∧ (reading r n).chg.reader = r ∧
        (reading r n).chg.inputFailures = n ∧ (reading r n).chg.allocTimer.isSome = true) ∧
      InputReader.readingVoltage ≠ .idle ∧ 2 ≤ (reading .readingVoltage 2).chg.inputFailures ∧
      (let d := withSeg .seg0 (segIn .held) { on with chg := { on.chg with inputFailures := 2 } }
       d.chg.reader = .idle ∧ ¬ (d.seg .seg0).Takes ∧ d.NoFault ∧ 2 ≤ d.chg.inputFailures) :=
  ⟨rfl, rfl, ⟨by decide, by decide⟩, fun _ _ => ⟨⟨_, rfl, rfl, rfl, rfl⟩, rfl, rfl, rfl⟩, by decide,
    by decide, rfl, fun h => h.1 rfl, fun g => by cases g <;> decide, by decide⟩

theorem witness_keymap_sound : ∀ e ∈ Tst.reset.keymap, e.sound := by
  intro e he
  simp only [Tst.reset, List.mem_map, List.mem_range] at he
  obtain ⟨i, hi, rfl⟩ := he
  simp only [KeymapEntry.sound, KeymapEntry.default]
  split <;> rename_i h <;> split at h <;> simp_all [Config.positions]
  omega

theorem witness_profile_sound : ∀ p ∈ Tst.reset.profile, p.sound := by
  intro p hp
  simp only [Tst.reset, List.mem_replicate] at hp
  obtain ⟨-, rfl⟩ := hp
  simp [ProfileTab.sound, ProfileTab.default, Band.sound, within]

theorem witness_fan_sound : FanTab.default.Sound := by
  constructor <;> simp [FanTab.default, within]

/-- The tables of a power-on reset are sound. -/
theorem witness_tables_sound : Tst.reset.Sound where
  scan := witness_scan_sound
  keymap := ⟨by simp [Tst.reset, Config.positions], witness_keymap_sound⟩
  profile := ⟨rfl, witness_profile_sound⟩
  power := by constructor <;> simp [Tst.reset, PowerTab.default, within]
  adapter := by simp [Tst.reset]
  itemmap := by decide
  fancurve := ⟨witness_fan_sound, witness_fan_sound⟩
  thermal := by constructor <;> simp [Tst.reset, ThermalTab.default, within]
  filter := by simp [Tst.reset, FilterEntry.sound, FilterEntry.default]
  wake := ⟨rfl, by simp [wakeSound, Tst.reset, WakeEntry.defaults]⟩
  settings := by simp [SettingsTab.sound, Tst.reset, SettingsTab.default, within]
  flags := ⟨rfl, rfl⟩

theorem witness_AllocationKeepsBudget : on.tst.Sound ∧
    (tight.mon .a).record.telemetry = some (telemetry 40 (some 2500)) ∧ (on.chp .a).stage ≠ .fast ∧
    ({ on.tfu with zone := 3 } : Tfu).zone = 3 ∧ (segIn .held).state = .held :=
  ⟨witness_tables_sound, rfl, by decide, rfl, rfl⟩

theorem witness_FastChargeExpiryFaultsPack :
    let d := chargeA fastA packA
    (d.chp .a).stage = .fast ∧ (d.chp .a).current ≠ 0 ∧ (d.chp .a).writer = .idle ∧
      (d.seg (segOf .a)).Takes ∧ (chargeA { fastA with stage := .topoff } packA).chg.packs.one.stage = .topoff :=
  ⟨rfl, by decide, rfl, ⟨by decide, by decide⟩, rfl⟩

/-- Pack A in FAULT; pack B in NONE; and the first value that is neither pack. -/
theorem witness_ChargeClearClearsFault :
    let d := chargeA ⟨.fault, 0, 0, 0, 0, .idle, false, false⟩ packA
    d.TakesInto 0 ∧ (d.chp .a).stage = .fault ∧ (d.chp .b).stage ≠ .fault ∧ d.ChargeInv ∧ d.SlotClear 0 ∧
      (∀ b : Byte, [(2 : Byte)] = [b] → 2 ≤ b.toNat) :=
  ⟨⟨rfl, rfl, rfl⟩, rfl, by decide, fun k => by cases k <;> decide, fun g => by cases g <;> decide,
    fun b h => by cases h; decide⟩

theorem witness_ChargerWriteGoesOn :
    let d (w : WriterState) (retry again : Bool) :=
      chargeA { fastA with writer := w, retryUsed := retry, again := again } writingA
    (∀ w r a, (d w r a).Flies (segOf .a) .charger true 2 ∧ ((d w r a).chp .a).writer = w ∧
      ((d w r a).chp .a).retryUsed = r ∧ ((d w r a).chp .a).again = a ∧
      ((d w r a).mon .a).record.state = .ready ∧ ((d w r a).chp .a).stage ≠ .fault) ∧
      WriterState.writingVoltage ≠ .idle :=
  ⟨fun _ _ _ => ⟨⟨_, rfl, rfl, rfl, rfl⟩, rfl, rfl, rfl, rfl, nofun⟩, nofun⟩

/-- A pack whose segment takes the write, is HELD, or is in FAULT, the pack READY and charging or in FAULT; one that
is ABSENT; one whose pass is under way. -/
theorem witness_RefreshStartsPasses :
    let d (st : SegState) := withSeg .seg0 (segIn st) packA
    packA.chg.refreshTimer.isSome = true ∧ (packA.seg (segOf .a)).Takes ∧ packA.NoFault ∧
      (packA.mon .a).record.state ≠ .absent ∧ (packA.mon .b).record.state = .absent ∧
      (packA.chp .a).writer = .idle ∧ (writingA.mon .a).record.state ≠ .absent ∧
      (writingA.chp .a).writer ≠ .idle ∧ (d .held).NoFault ∧
      (∀ st, (d st).chg.refreshTimer.isSome = true ∧ ((d st).mon .a).record.state = .ready ∧
        ((d st).chp .a).writer = .idle ∧ ((d st).chp .a).stage ≠ .fault ∧
        ((d st).seg (segOf .a)).state = st) ∧
      ((chargeA ⟨.fault, 0, 0, 0, 0, .idle, false, false⟩ (d .fault)).chp .a).stage = .fault :=
  ⟨rfl, ⟨by decide, by decide⟩, fun g => by cases g <;> decide, by decide, rfl, rfl, by decide, by decide,
    fun g => by cases g <;> decide, fun _ => ⟨rfl, rfl, rfl, nofun, rfl⟩, rfl⟩

/-! ## Witnesses: heat and fans -/

/-- Payloads of 0, 2 and 8 bytes; the timer running; a source that crosses its critical temperature. -/
theorem witness_HostReportsSetDieSources :
    on.ppu.power = .on ∧ on.pli.linkUp = true ∧ on.pli.rx = [] ∧ (List.replicate 8 (0 : Byte)).length = 8 ∧
      (List.replicate 9 (0 : Byte)).length ≠ 8 ∧
      ({ on.tfu with hostTimer := .running (Timer.ofMs 1) } : Tfu).hostTimer = .running (Timer.ofMs 1) ∧
      (after (.tempReport 0 [105, 0]) on).tfu.critical = true ∧ on.tfu.critical = false := by decide

/-- What an evaluation of the critical mark meets: in ON a mark that sets, one that stays and one that clears; in SLEEP
a skin one below its critical temperature, at it, and at it with the mark set before. -/
theorem witness_MarkActs :
    let read (v : Nat) (d : Dev) : Dev := after (.skinReadCompletion (.ok [BitVec.ofNat 8 v, 0])) d
    let set (d : Dev) : Dev := { d with tfu := { d.tfu with critical := true } }
    let asleep : Dev := { skinAt 44 0 0 with ppu := { off.ppu with power := .sleep } }
    (read 60 (skinAt 44 0 0)).tfu.critical = true ∧ (skinAt 44 0 0).tfu.critical = false ∧
      (read 55 (set (skinAt 44 0 0))).tfu.critical = true ∧
      (read 54 (set (skinAt 44 0 0))).tfu.critical = false ∧ asleep.tfu.critical = false ∧
      (read 60 asleep).tfu.skin = ⟨60, .real⟩ ∧ (read 59 asleep).tfu.skin = ⟨59, .real⟩ ∧
      asleep.tst.thermal.skinCritical = 60 ∧ (set asleep).tfu.critical = true ∧
      asleep.tfu.die.map Source.cond = List.replicate 4 .absent := by decide

theorem witness_SkinReadsMoveZone :
    (∃ t, on.tfu.skinTimer = some t) ∧ on.tfu.skinReading = false ∧ (on.seg .seg1).Takes ∧
      (∃ t, (skinAt 44 0 0).tfu.skinTimer = some t) ∧ (skinAt 44 0 0).tfu.skinReading = true ∧
      ¬ ((withSeg .seg1 (segIn .held) on).seg .seg1).Takes ∧ on.tfu.skinFailures < 2 ∧
      (let d (n : Nat) : Dev := withSeg .seg1 (segIn .held) { on with tfu := { on.tfu with skinFailures := n } }
       ((d 2).tfu.skinFailures = 2 ∧ (after .skinReadTimerExpiry (d 2)).tfu.zone ≠ on.tfu.zone) ∧
        2 < (d 3).tfu.skinFailures) ∧
      (∀ v z n, (skinAt v z n).Flies .seg1 .skin false 2 ∧ (skinAt v z n).tfu.skinFailures = n) ∧
      (skinAt 44 0 0).ppu.power ≠ .sleep ∧
      (after (.skinReadCompletion (.ok [55, 0])) (skinAt 54 2 0)).tfu.zone = 3 :=
  ⟨⟨_, rfl⟩, rfl, ⟨by decide, by decide⟩, ⟨_, rfl⟩, rfl, fun h => h.1 rfl, by decide,
    ⟨⟨rfl, by decide⟩, by decide⟩, fun _ _ _ => ⟨⟨_, rfl, rfl, rfl, rfl⟩, rfl⟩, by decide, by decide⟩

/-- A fan at 100 %, in ON and in OFF; closed and boosted; the default curve below, between and beyond its points,
with a point passed over; a source that asks and none that does. -/
theorem witness_FanUpdateSetsDuty :
    ((∃ t, ((fanAt 60 100 70).fan .fan1).updateTimer = some t) ∧ ((fanAt 60 100 70).fan .fan1).duty ≤ 100 ∧
      (fanAt 60 100 70).tst.Sound ∧ (fanAt 60 100 70).ppu.power ≠ .off ∧ off.ppu.power = .off ∧
      ¬ ((fanAt 60 100 70).ppu.posture = .closed ∧ (fanAt 60 100 70).ppu.power = .on) ∧
      (fanAt 60 100 70).tfu.die.length = 4) ∧
      fanDemand FanTab.default (fanAt 60 100 70).tfu = 70 ∧ fanDemand FanTab.default off.tfu = -40 ∧
      (∀ x ∈ ([] : List Point), x.temp < (⟨40, 20⟩ : Point).temp) ∧
      (∀ x ∈ ([⟨40, 20⟩] : List Point), x.temp < (⟨60, 50⟩ : Point).temp) ∧
      (∀ x ∈ ([⟨0, 0⟩] : List Point), x.temp ≤ (⟨60, 50⟩ : Point).temp) ∧
      ((⟨60, 50⟩ : Point).temp < (⟨80, 100⟩ : Point).temp) :=
  ⟨⟨⟨_, rfl⟩, by decide, witness_tables_sound, by decide, rfl, by decide, rfl⟩, by decide, by decide,
    by decide, by decide, by decide, by decide⟩

/-- FANCURVE's stall speed waits for the fan's next update (R102, R166): the write leaves the one in force. -/
theorem test_stall_speed_waits :
    let d := { on with tst := { on.tst with
      fancurve := ⟨{ FanTab.default with stallSpeed := 500, stallCheckDuty := 90 }, FanTab.default⟩ } }
    ((fancurveWritten .fan1 d).fan .fan1).stallSpeed = 300 ∧
      ((fancurveWritten .fan1 d).fan .fan1).lowDuty = false ∧
      ((after (.fanUpdate .fan1) d).fan .fan1).stallSpeed = 500 ∧
      ((after (.fanUpdate .fan1) d).fan .fan1).lowDuty = true := by decide

/-- A stalled window as the first and as the third; a recovery as the third; a fan not stalled. -/
theorem witness_TachWindowsJudgeFans :
    let f : FanState := { on.tfu.fans.one with pulses := 9 }
    on.fanFitted .fan2 = true ∧ (∃ t, (on.fan .fan2).windowTimer = some t) ∧
      f.fault = false ∧ f.lowDuty = false ∧ min 30000 (f.pulses * 30) < f.stallSpeed ∧
      f.stallCount < 2 ∧ 2 ≤ ({ f with stallCount := 2 } : FanState).stallCount ∧
      ¬ (min 30000 (({ f with pulses := 10 } : FanState).pulses * 30) < f.stallSpeed) ∧
      ({ f with fault := true, recoveryCount := 2 } : FanState).fault = true ∧
      f.stallSpeed ≤ min 30000 (10 * 30) :=
  ⟨rfl, ⟨_, rfl⟩, rfl, rfl, by decide, by decide, by decide, by decide, rfl, by decide⟩

/-! ## Witnesses: posture, power, wakes -/

/-- The part with accepted levels of lid and fold, and their posture. -/
def posed (lid fold : Bool) (p : Posture) (d : Dev) : Dev :=
  { d with ppu := { d.ppu with lid := ⟨some lid, none⟩, fold := ⟨some fold, none⟩, posture := p } }

theorem witness_LidAndFoldGivePosture :
    (posed true false .closed off).ppu.lid.accepted ≠ some false ∧
      (posed false false .opened on).ppu.fold.accepted ≠ some true ∧
      (posed true false .closed (inPower .sleep)).WouldWake .lidOpen ∧
      (after (.lidFoldAccept (.lid false)) (posed true false .closed (inPower .sleep))).ppu.posture = .opened ∧
      (let d := raws (List.replicate 16 .resync) (scanning [143, 144] (posed false false .opened on))
       d.mse.scanState ≠ .gated ∧ d.mse.raw.length ≤ 16 ∧ d.mse.recs[143]? = some ⟨true, 0, false, false⟩ ∧
        d.mse.recs[144]? = some ⟨true, 0, false, false⟩) ∧ off.mse.scanState = .gated :=
  ⟨by decide, by decide, .inl ⟨rfl, rfl⟩, by decide, ⟨by decide, by decide, rfl, rfl⟩, rfl⟩

/-- A wake key at the last matrix position and at the first side button, as the lid closes; the lid opened in
SLEEP_ENTRY, its wake enabled and not. -/
theorem witness_posture_keys :
    (143 < 144 ∧ ¬ (144 < 144)) ∧
      (after (.lidFoldAccept (.lid true)) (posed false false .opened on)).ppu.posture = .closed ∧
      (let d := posed true false .closed (inPower .sleepEntry)
       d.ppu.lid.accepted ≠ some false ∧ d.ppu.power = .sleepEntry ∧ (d.wakeEntry .lidOpen).inSleep = true ∧
        ¬ d.WouldWake .lidOpen) ∧
      (({ off with tst := { off.tst with
        wake := List.replicate 7 ⟨false, true, false⟩ } } : Dev).wakeEntry .lidOpen).inSleep = false :=
  ⟨by decide, by decide, ⟨by decide, rfl, rfl, fun h => by rcases h with h | h <;> exact absurd h.1 (by decide)⟩,
    rfl⟩

theorem witness_PowerButtonIsTaken :
    (∀ p, (inPower p).ppu.button.accepted ≠ some true ∧ (inPower p).ppu.power = p) ∧
      (inPower .sleep).WouldWake .powerButton ∧ off.WouldWake .powerButton ∧
      ((inPower .sleepEntry).wakeEntry .powerButton).inSleep = true ∧
      (¬ ({ inPower .sleep with tst := { off.tst with
        wake := List.replicate 7 ⟨false, true, false⟩ } } : Dev).WouldWake .powerButton) ∧
      (({ inPower .sleepEntry with tst := { off.tst with
        wake := List.replicate 7 ⟨false, true, false⟩ } } : Dev).wakeEntry .powerButton).inSleep = false ∧
      (Debounce.accept true).accepted = some true :=
  ⟨fun _ => ⟨nofun, rfl⟩, .inl ⟨rfl, rfl⟩, .inr ⟨rfl, rfl⟩, rfl,
    fun h => by rcases h with h | h <;> exact absurd h (by decide), rfl, rfl⟩

/-- The three timers running, in every power state, with and without a restart pending. -/
theorem witness_ForcedOffPowersDown (p : PowerState) (r : Bool) :
    let d := { inPower p with
      ppu := { (inPower p).ppu with overrideTimer := some (Timer.ofMs 1), restartPending := r }
      chg := { off.chg with graceTimer := some (Timer.ofMs 1) }
      tfu := { off.tfu with graceTimer := some (Timer.ofMs 1) } }
    d.ppu.overrideTimer.isSome = true ∧ d.chg.graceTimer.isSome = true ∧ d.tfu.graceTimer.isSome = true ∧
      d.ppu.power = p ∧ d.ppu.restartPending = r := ⟨rfl, rfl, rfl, rfl, rfl⟩

/-- Each wait, the loss of power, and a rise in OFF. -/
theorem witness_PowerGoodEndsWaits :
    ((inPower .poweringUp).ppu.power = .poweringUp ∧ (inPower .poweringUp).pins.powerGood = false) ∧
      ((inPower .sleepEntry).ppu.power = .sleepEntry ∧ (inPower .sleepEntry).pins.powerGood = true) ∧
      ((inPower .poweringDown).ppu.power = .poweringDown ∧ (inPower .poweringDown).pins.powerGood = true) ∧
      (on.ppu.power = .on ∧ on.pins.powerGood = true) ∧
      (off.pins.powerGood ≠ true ∧ ¬ (off.ppu.power = .poweringUp ∧ true = true) ∧
        ¬ ((off.ppu.power = .sleepEntry ∨ off.ppu.power = .poweringDown ∨ off.ppu.power = .on) ∧
          true = false)) := by decide

/-- What a change of power state meets: a link that is UP; a poll timer and an allocation timer that run with the
interval of ON, and not; a low mark and a critical mark that stand as ON is entered; a fan in FAULT as OFF is. -/
theorem witness_Entered :
    let warm : Dev := { batteries 5 5 .poweringUp with tfu := { off.tfu with skin := ⟨60, .real⟩ } }
    on.pli.linkUp = true ∧ (warm.mon .a).pollTimer = some ⟨1000 * 1000, 1000 * 1000⟩ ∧
      warm.tst.power.pollOn = 1000 ∧ warm.tst.power.pollOther ≠ 1000 ∧
      warm.chg.allocTimer = some ⟨2000 * 1000, 2000 * 1000⟩ ∧ warm.tst.power.allocOn ≠ 2000 ∧
      (after (.powerGoodChange true) warm).chg.lowMark = true ∧
      (after (.powerGoodChange true) warm).chg.systemSoc = some 5 ∧
      (after (.powerGoodChange true) warm).tfu.critical = true ∧
      warm.tst.settings.noticeMask.getLsbD 12 = true ∧ warm.fanFitted .fan2 = true ∧
      ({ warm.fan .fan2 with fault := true } : FanState).fault = true := by decide

/-- The entry to SLEEP: on packs well charged; at the critical SoC and one above it; at the shutdown SoC and one above
it; with the wake enabled and not; with S one below its critical temperature, at it, and within the hysteresis of a
mark that stands. -/
theorem witness_sleep_entry :
    let d (soc : Nat) := batteries soc soc .sleepEntry
    let p := PowerTab.default
    let h := ThermalTab.default
    (∀ n, n ≤ 100 → (d n).ppu.power = .sleepEntry ∧ (d n).pins.powerGood = true) ∧
      (d 6).batterySoc = some 6 ∧ ¬ (6 ≤ p.criticalSoc) ∧ (d 5).batterySoc = some 5 ∧ 5 ≤ p.criticalSoc ∧
      p.shutdownSoc < 3 ∧ (d 2).batterySoc = some 2 ∧ 2 ≤ p.shutdownSoc ∧ off.batterySoc = none ∧
      ((d 5).wakeEntry .batteryCritical).inSleep = true ∧
      (({ d 5 with tst := { off.tst with
        wake := List.replicate 7 ⟨false, true, false⟩ } } : Dev).wakeEntry .batteryCritical).inSleep = false ∧
      ¬ ((h.skinCritical : Int) - 0 ≤ 59) ∧ (h.skinCritical : Int) - 0 ≤ 60 ∧
      (h.skinCritical : Int) - h.criticalHysteresis ≤ 55 ∧ (d 6).tfu.skin.cond ≠ .real ∧
      (skinAt 60 0 0).tfu.skin = ⟨60, .real⟩ :=
  ⟨fun _ _ => ⟨rfl, rfl⟩, by decide, by decide, by decide, by decide, by decide, by decide, by decide,
    by decide, by decide, by decide, by decide, by decide, by decide, by decide, rfl⟩

theorem witness_PowerTimersExpire :
    (∀ p, p = .poweringUp ∨ p = .poweringDown ∨ p = .sleepEntry →
      (inPower p).ppu.power = p ∧ (inPower p).ppu.transition.isSome = true) ∧
      ({ off.ppu with restartTimer := some (Timer.ofMs 1) } : Ppu).restartTimer.isSome = true :=
  ⟨fun _ h => by rcases h with rfl | rfl | rfl <;> decide, rfl⟩

/-- In ON with no request pending and with one; at the head of the receive queue the first value that is none of the
three, and a payload of two bytes. -/
theorem witness_PowerRequestIsAnswered :
    on.TakesInto 0 ∧ on.ppu.power = .on ∧ on.ppu.request = none ∧
      ({ on.ppu with request := some (.off, 1) } : Ppu).request ≠ none ∧
      freeSlot slot7.pli.slots = some 7 ∧
      ({ slot7.pli with rx := [⟨0, 8, 1, [3]⟩] } : Pli).rx = ⟨0, 8, 1, [3]⟩ :: [] ∧
      (∀ b : Byte, b = 0 ∨ b = 1 ∨ b = 2 → [(3 : Byte)] ≠ [b] ∧ [(0 : Byte), 0] ≠ [b]) :=
  ⟨⟨rfl, rfl, rfl⟩, rfl, rfl, by decide, rfl, rfl, fun b h => by rcases h with rfl | rfl | rfl <;> decide⟩

theorem witness_WakeLineIsTakenByItsEdge :
    (∀ p, (inPower p).wku.line.accepted ≠ some true) ∧ (inPower .sleep).WouldWake .wakeLine ∧
      (inPower .sleepEntry).ppu.power = .sleepEntry ∧
      ((inPower .sleepEntry).wakeEntry .wakeLine).inSleep = true ∧
      (¬ off.WouldWake .wakeLine) ∧ (¬ on.WouldWake .wakeLine) ∧ on.ppu.power ≠ .sleepEntry ∧
      (Debounce.accept true).accepted = some true :=
  ⟨fun _ => nofun, .inl ⟨rfl, rfl⟩, rfl, rfl,
    fun h => by rcases h with h | h <;> exact absurd h (by decide),
    fun h => by rcases h with h | h <;> exact absurd h (by decide), by decide, rfl⟩

/-- The flag and the masks at the ends of their ranges, and just beyond; WAKE locked and not; in ON a scan timer with
the period of ON and one with another. -/
theorem witness_WakeSetMasksFlags :
    on.TakesInto 0 ∧ on.tst.isLocked .wake = false ∧
      ({ on.tst with locked := List.replicate 11 true } : Tst).isLocked .wake = true ∧
      (2 : Byte).toNat ≤ 2 ∧ (127 : Byte).toNat < 128 ∧ (∃ e, on.tst.wake[6]? = some e) ∧
      2 < byteAt [3, 0, 0] 0 ∧ 127 < byteAt [0, 128, 0] 1 ∧ ([0, 0] : List Byte).length ≠ 3 ∧
      on.ppu.power = .on ∧ (Timer.ofMs 1).period = 500 * 2 ^ on.tst.scan.onPeriod ∧
      (Timer.ofMs 16).period ≠ 500 * 2 ^ on.tst.scan.onPeriod :=
  ⟨⟨rfl, rfl, rfl⟩, rfl, rfl, by decide, by decide, ⟨_, rfl⟩, by decide, by decide, by decide, rfl, rfl,
    by decide⟩

theorem witness_WakeStatusIsReadAndCleared :
    on.TakesInto 0 ∧ List.replicate 60 (0 : Byte) ≠ [] ∧ (List.replicate 60 (0 : Byte)).length ≤ 60 :=
  ⟨⟨rfl, rfl, rfl⟩, by decide, by decide⟩

/-! ## Witnesses: segments -/

/-- A write and a read in flight, a record waiting behind them (witness_TookFirst shows one that the arbiter takes). -/
theorem witness_PassThroughCompletionAnswers :
    let d (t : Txn) := withSeg .seg1 { busyWith t with
      queue := (busyWith t).queue ++ [{ hubRead with slot := none, order := 1 }] } (slot0 5 0 on)
    ((d hubWrite).seg .seg1).current = some { hubWrite with inFlight := true } ∧
      ((d hubRead).seg .seg1).current = some { hubRead with inFlight := true } ∧
      hubRead.requester = .hub ∧ hubRead.slot = some 0 ∧
      (d hubRead).pli.slots[0]? = some ⟨.waiting, 5, 0, 7, none⟩ ∧
      ([1, 2] : List Byte).length = (if hubRead.write then 0 else hubRead.length) ∧
      ((((d hubRead).seg .seg1).queue.filter fun u => !u.inFlight).map Txn.order).Nodup := by decide

/-- A recovery from FAULT and another, each sequence record, a PENDING one's slot WAITING, the mask bit of SEGMENT_EVENT
set. -/
theorem witness_RecoveryEndsInIdleOrFault :
    let d (q : Sequence) := withSeg .seg1 { segIn .recovering with
      queue := [hubRead], fromFault := true, sequence := q } (slot0 5 0 on)
    let w := withSeg .seg1 { segIn .recovering with sequence := .pending 0 } (slot0 5 2 on)
    (∀ q, ((d q).seg .seg1).state = .recovering ∧ ((d q).seg .seg1).fromFault = true ∧
      ((d q).seg .seg1).sequence = q ∧ ((d q).seg .seg1).queue = [hubRead] ∧
      (d q).pli.slots[0]? = some ⟨.waiting, 5, 0, 7, none⟩ ∧ (d q).tst = on.tst) ∧
    (Wait [hubRead] ∧ (∀ t ∈ [hubRead], t.requester = .hub) ∧ hubRead.slot = some 0 ∧
      on.tst.settings.noticeMask.getLsbD 14 = true) ∧
    ((w.seg .seg1).state = .recovering ∧ (w.seg .seg1).fromFault = false ∧ (w.seg .seg1).sequence = .pending 0 ∧
      w.pli.slots[0]? = some ⟨.waiting, 5, 2, 7, none⟩ ∧ (∀ h, h ≠ Seg.seg1 → (w.seg h).sequence ≠ .pending 0) ∧
      (w.seg .seg1).queue = [] ∧ (w.seg .seg1).drains = []) :=
  ⟨fun _ => ⟨rfl, rfl, rfl, rfl, rfl, rfl⟩, ⟨⟨by decide, by decide⟩, by decide, rfl, by decide⟩, rfl, rfl, rfl, rfl,
    fun h hg => by cases h; exacts [nofun, absurd rfl hg], rfl, rfl⟩

/-- A record of this requester that waits. -/
def recordOf : Requester → Txn
  | .hub => hubWrite
  | .charger => internalTxn 0 .charger true 0x09 0x22 [0, 5]
  | .pkm => internalTxn 1 .pkm false 0x0B 0x43 []
  | .input => internalTxn 1 .input false 0x09 0x30 []
  | .skin => internalTxn 2 .skin false 0x48 0 []

/-- A segment in a state with one record that waits for each of these requesters. -/
def holding (st : SegState) (ws : List Requester) : Segment := { segIn st with queue := ws.map recordOf }

/-- A pack in a state with a failure count whose read is out: of its poll cycle, or an orphan. -/
def beingRead (st : PackState) (failures : Nat) (orphan : Bool) : PackMonitor :=
  { packWith (telemetry 40 none) with
    record := { (packWith (telemetry 40 none)).record with state := st, failures := failures }
    cycle := if orphan then none else some ⟨.poll, 3, false⟩
    outstanding := true, orphan := orphan }

/-- The part in a power state, a segment with these records, pack A and what the CHG holds for it, the readers at work
and so many skin failures. -/
def atWork (p : PowerState) (g : Seg) (x : Segment) (m : PackMonitor) (c : ChargePack) (n : Nat) : Dev :=
  chargeA c (withSeg g x { inPower p with
    pkm := (inPower p).pkm.set false m
    chg := { (inPower p).chg with reader := .readingVoltage }
    tfu := { (inPower p).tfu with skinReading := true, skinFailures := n } })

/-- Queues with and without a record of each requester; the reader at work; one skin read; a DRAIN that the queue's write
makes up, one that it does not. -/
theorem witness_holds :
    (∀ st who, (holding st [who]).holds who = true ∧ (holding st [who, .hub]).OnlyWith who ∧
      ∀ w, w ≠ who → (holding st [who]).holds w = false) ∧
    (holding .busy [.skin, .hub]).OneSkinRead ∧
    (holding .busy [.skin, .hub]).Drains ⟨2, [0]⟩ ∧ ¬ (holding .busy [.skin, .hub]).Drains ⟨2, [0, 7]⟩ ∧
    (∀ p g x m c n, (atWork p g x m c n).chg.reader ≠ .idle ∧ on.chg.reader = .idle) ∧
    (atWork .on .seg1 (holding .busy [.skin]) noPack fastA 2).tfu.skinFailures = 2 := by
  refine ⟨fun st who => ⟨by cases who <;> rfl, ?_, fun w h => ?_⟩, ?_, ?_, ?_, fun _ _ _ _ _ _ => ⟨nofun, rfl⟩, rfl⟩
  · unfold Segment.OnlyWith; cases who <;> simp [holding, recordOf, internalTxn, hubWrite]
  · cases who <;> cases w <;> first | exact absurd rfl h | rfl
  · unfold Segment.OneSkinRead; decide
  · unfold Segment.Drains; decide
  · unfold Segment.Drains; decide

/-- A segment to hold with a DRAIN that its write makes up, and a HELD one whose sequence is PENDING with its slot
WAITING. -/
theorem witness_hold_and_release :
    let j := jammed .busy
    let w := withSeg .seg1 { segIn .held with sequence := .pending 0 } (slot0 5 2 on)
    (j.TakesInto 2 ∧ (j.seg .seg1).state ≠ .held ∧ (j.chp (packOf .seg1)).current = 0 ∧ j.ppu.power = .on ∧
      (j.seg .seg1).drains = [⟨1, [1]⟩] ∧ (j.seg .seg1).Drains ⟨1, [1]⟩ ∧ j.SlotClear 1 ∧
      (∀ t ∈ (j.seg .seg1).queue, t.slot ≠ some 1) ∧ j.pli.slots[1]? = some ⟨.waiting, 0, 14, 31, none⟩) ∧
    (w.TakesInto 1 ∧ (w.seg .seg1).state = .held ∧ w.SlotClear 1 ∧ (w.seg .seg1).sequence = .pending 0 ∧
      w.pli.slots[0]? = some ⟨.waiting, 5, 2, 7, none⟩ ∧ (∀ h, h ≠ Seg.seg1 → (w.seg h).sequence ≠ .pending 0) ∧
      (w.seg .seg1).queue = [] ∧ (w.seg .seg1).drains = []) := by
  refine ⟨⟨⟨rfl, rfl, rfl⟩, nofun, rfl, rfl, rfl, ?_, fun g => by cases g <;> exact nofun, by decide, rfl⟩,
    ⟨rfl, rfl, rfl⟩, rfl, fun g => by cases g <;> decide, rfl, rfl,
    fun h hg => by cases h; exacts [nofun, absurd rfl hg], rfl, rfl⟩
  unfold Segment.Drains
  decide

/-- HOLD: a read of a cycle, an orphan of an IDENTIFYING pack and of another, a charger pass, and states that meet
ChargeInv. -/
theorem witness_HoldsRequesters :
    let d (ws : List Requester) (m : PackMonitor) := atWork .on .seg0 (holding .recovering ws) m { fastA with
      current := 0, voltage := 0, writer := .writingCurrent, again := true } 0
    (∀ ws m, (d ws m).TakesInto 0 ∧ ((d ws m).seg .seg0).state ≠ .held ∧ ((d ws m).chp .a).current = 0 ∧
      (d ws m).ppu.power ≠ .sleep ∧ (d ws m).ChargeInv ∧ (d ws m).seg .seg0 = holding .recovering ws ∧
      (d ws m).mon (packOf .seg0) = m ∧ (d ws m).SlotClear 2) ∧
    (beingRead .ready 0 false).orphan = false ∧ (beingRead .ready 0 false).cycle.isSome ∧
    (∀ st, (beingRead st 0 true).orphan = true ∧ (beingRead st 0 true).cycle = none ∧
      (beingRead st 0 true).record.state = st) :=
  ⟨fun _ _ => ⟨⟨rfl, rfl, rfl⟩, nofun, rfl, nofun, fun k => by cases k <;> exact ⟨fun _ => rfl, fun _ => rfl, fun _ => rfl⟩,
    rfl, rfl, fun g => by cases g <;> exact nofun⟩, rfl, rfl, fun _ => ⟨rfl, rfl, rfl⟩⟩

/-- FAULT: a pack that this failure loses, in IDENTIFYING and in READY, by a cycle and as an orphan, and one that it does
not; a charger write alone at a READY pack, at another and at a stage FAULT; a record that stays in its state; SLEEP, with
one requester's records alone. -/
theorem witness_FailsRequesters :
    let d (p : PowerState) (ws : List Requester) (m : PackMonitor) (c : ChargePack) (n : Nat) :=
      atWork p .seg0 (holding .recovering ws) m c n
    let ended (d : Dev) := after (.recoveryEnd .seg0 false) d
    (∀ p ws m c n, ((d p ws m c n).seg .seg0).state = .recovering ∧ (d p ws m c n).ppu.power = p ∧
      (d p ws m c n).mon (packOf .seg0) = m ∧ (d p ws m c n).chp (packOf .seg0) = c ∧
      (d p ws m c n).seg .seg0 = holding .recovering ws ∧ (d p ws m c n).tfu.skinFailures = n) ∧
    (∀ st o, (beingRead st 2 o).record.failures = 2 ∧ (beingRead st 2 o).record.state = st ∧
      (beingRead st 2 o).orphan = o ∧ (beingRead st 2 o).cycle.isSome = !o) ∧
    ((ended (d .on [.pkm] (beingRead .ready 2 false) fastA 0)).mon .a).record.state = .commLost ∧
    ((ended (d .on [.pkm] (beingRead .identifying 2 true) fastA 0)).mon .a).record.state = .commLost ∧
    ((ended (d .on [.pkm] (beingRead .ready 1 false) fastA 0)).mon .a).record.state = .ready ∧
    ((ended (d .on [.charger] (beingRead .ready 0 true) fastA 0)).chp .a).stage = .fault ∧
    fastA.stage ≠ .fault ∧ ({ fastA with stage := .fault } : ChargePack).stage = .fault ∧ fastA.writer = .idle ∧
    ({ fastA with writer := .writingVoltage } : ChargePack).writer ≠ .idle ∧
    (withSeg .seg0 (segIn .fault) on).seg .seg0 = segIn .fault ∧ ¬ (segIn .fault).Takes :=
  ⟨fun _ _ _ _ _ => ⟨rfl, rfl, rfl, rfl, rfl, rfl⟩, fun _ o => ⟨rfl, rfl, rfl, by cases o <;> rfl⟩, by decide,
    by decide, by decide, by decide, by decide, rfl, rfl, nofun, rfl, fun h => h.2 rfl⟩

/-- A pack read and a pass-through write that a DRAIN waits for stand in the queue, a PT_SEQ_OPEN is PENDING. -/
theorem witness_FaultAnswersWhatWaits :
    let w : Txn := { hubWrite with slot := some 1, order := 4 }
    let d : Dev := withSeg .seg0 { segIn .recovering with
        queue := [internalTxn 1 .pkm false 11 9 [], w], sequence := .pending 2, drains := [⟨3, [4]⟩] }
      { on with pli := { on.pli with slots := [Slot.empty, ⟨.waiting, 4, 1, 7, none⟩,
        ⟨.waiting, 4, 2, 8, none⟩, ⟨.waiting, 0, 14, 9, none⟩] ++ List.replicate 4 Slot.empty } }
    (d.seg .seg0).state = .recovering ∧ (d.seg .seg0).queue = [internalTxn 1 .pkm false 11 9 [], w] ∧
      (∀ j h, h ≠ .seg0 → (d.seg h).sequence ≠ .pending j) ∧ d.ppu.power ≠ .sleep ∧
      (w.requester = .hub ∧ w.write = true ∧ w.slot = some 1 ∧ w.order = 4) ∧
      (d.seg .seg0).sequence = .pending 2 ∧ (d.seg .seg0).drains = [⟨3, [4]⟩] ∧
      d.pli.slots[1]? = some ⟨.waiting, 4, 1, 7, none⟩ ∧ d.pli.slots[2]? = some ⟨.waiting, 4, 2, 8, none⟩ ∧
      d.pli.slots[3]? = some ⟨.waiting, 0, 14, 9, none⟩ :=
  ⟨rfl, rfl, fun _ h hg => by cases h; exacts [absurd rfl hg, nofun], nofun,
    ⟨rfl, rfl, rfl, rfl⟩, rfl, rfl, rfl, rfl, rfl⟩

/-- The three actions and no entry; lengths 1, 2 and 32; each segment state; four class-3 records. -/
theorem witness_PassThroughIsJudged :
    (∀ a, (passing a).TakesInto 0 ∧ (passing a).SlotClear 0 ∧ (passing a).tst.filter.find?
      (fun e => e.valid && e.seg == .seg0 && e.address == (0x0B : Byte).toNat &&
        decide (e.first ≤ (0 : Byte).toNat ∧ (0 : Byte).toNat ≤ e.last) &&
        (e.access == .both || e.access == .read)) = some ⟨true, .seg0, 0x0B, 0, 255, .both, a⟩) ∧
      on.tst.filter.find? (fun e => e.valid) = none ∧
      (0x7F : Byte).toNat ≤ 127 ∧ (List.replicate 32 (0 : Byte)).length = 32 ∧
      (segIn .held).state = .held ∧ (segIn .fault).state = .fault ∧ (segIn .recovering).Takes ∧
      4 ≤ ((List.replicate 4 hubRead).filter fun t => t.cls == 3).length ∧
      ((List.replicate 3 hubRead).filter fun t => t.cls == 3).length < 4 ∧
      127 < byteAt [128, 0, 1] 0 ∧ 32 < byteAt [0, 0, 33] 2 ∧ byteAt [0, 0, 0] 2 = 0 ∧
      34 < (List.replicate 35 (0 : Byte)).length :=
  ⟨fun a => ⟨⟨rfl, rfl, rfl⟩, fun g => by cases g <;> exact nofun, by cases a <;> decide⟩, by decide,
    by decide, by decide, rfl, rfl, ⟨by decide, by decide⟩, by decide, by decide, by decide, by decide,
    by decide, by decide⟩

/-- The first and the last ITEMMAP entry, and a command byte that none holds. -/
theorem witness_ShadowAnswersFromRecord :
    0x4B ∉ packA.tst.itemmap ∧ packA.tst.itemmap[0]? = some 0x40 ∧ packA.tst.itemmap[7]? = some 0x47 ∧
      (∀ l < 7, packA.tst.itemmap[l]? ≠ some 0x47) ∧ packA.tst.itemmap[10]? = some 0x4A ∧
      (∀ l < 10, packA.tst.itemmap[l]? ≠ some 0x4A) ∧
      (packA.mon .a).record.telemetry = some (telemetry 40 (some 2500)) ∧
      (packA.mon .a).record.identity = some ⟨0, 3, 5000⟩ ∧ (packA.mon .b).record.telemetry = none ∧
      (packA.mon .b).record.identity = none := by decide

/-- Each segment state and sequence record; a member alone on an IDLE segment, and records that wait there for the
close; a payload that is too long. -/
theorem witness_SequencesOpenAndClose :
    let d (st : SegState) (q : Sequence) := withSeg .seg0 { segIn st with sequence := q } on
    let w : Dev := withSeg .seg0 { segIn .idle with
      queue := [{ hubRead with member := true }], sequence := .opened (Timer.ofMs 50) } on
    (∀ st q, (d st q).TakesInto 0 ∧ ((d st q).seg .seg0).state = st ∧ ((d st q).seg .seg0).sequence = q ∧
      ((d st q).seg .seg0).queue = []) ∧ Sequence.pending 1 ≠ .noSeq ∧
      List.replicate 60 (0 : Byte) ≠ [] ∧
    ((∀ t ∈ (w.seg .seg0).queue, t.cls = 3 → t.member = true) ∧ Wait (w.seg .seg0).queue ∧
      (w.seg .seg0).sequence = .opened (Timer.ofMs 50) ∧ (w.seg .seg0).state = .idle ∧
      w.tst.settings.noticeMask.getLsbD 14 = true) :=
  ⟨fun _ _ => ⟨⟨rfl, rfl, rfl⟩, rfl, rfl, rfl⟩, nofun, by decide, by decide, ⟨by decide, by decide⟩, rfl, rfl,
    by decide⟩

/-- A transaction in flight of each requester, by each way it ends, with each sequence record; one that is PENDING with
its slot WAITING, behind a class-3 record that is no member and without one; the hub's in SLEEP. -/
theorem witness_EndsBy :
    let d (g : Seg) (who : Requester) (left : List Txn) (q : Sequence) := withSeg g { segIn .busy with
      queue := { recordOf who with inFlight := true } :: left, sequence := q } (slot0 4 2 on)
    (∀ g who q, ∃ t, ((d g who [] q).seg g).current = some t ∧ t.requester = who ∧
      (∀ e, e = .addrNack ∨ e = .dataNack ∨ e = .ok (List.replicate (if t.write then 0 else t.length) 0) →
        t.EndsBy g e (.transactionComplete g e)) ∧ t.EndsBy g .timeout (.stretchTimeout g) ∧
      (who = .pkm → t.EndsBy g .timeout (.packItemCompletion (packOf g) .timeout)) ∧
      (who = .charger → t.EndsBy g .timeout (.chargerWriteCompletion (packOf g) .timeout)) ∧
      (who = .input → g = .seg0 → t.EndsBy g .timeout (.inputReadCompletion .timeout)) ∧
      (who = .skin → g = .seg1 → t.EndsBy g .timeout (.skinReadCompletion .timeout))) ∧
    (∀ who left q, (d .seg0 who left q).ppu.power ≠ .sleep ∧ ((d .seg0 who left q).seg .seg0).sequence = q ∧
      (∀ h, h ≠ Seg.seg0 → ((d .seg0 who left q).seg h).sequence ≠ .pending 0) ∧
      ((d .seg0 who left q).seg .seg0).drains = [] ∧
      (d .seg0 who left q).pli.slots[0]? = some ⟨.waiting, 4, 2, 7, none⟩) ∧
    (∀ t ∈ ((d .seg0 .pkm [{ hubRead with slot := some 1, order := 1 }] (.pending 0)).seg .seg0).queue,
      t.slot ≠ some 0) ∧
    ((((d .seg0 .pkm [{ hubRead with slot := some 1, order := 1 }] (.pending 0)).seg .seg0).queue.filter fun u =>
      !u.inFlight).any fun t => t.cls == 3 && !t.member) = true := by
  refine ⟨fun g who q => ⟨{ recordOf who with inFlight := true }, ?_⟩, fun who left q =>
    ⟨nofun, rfl, fun h hg => by cases h; exacts [absurd rfl hg, nofun], rfl, rfl⟩, by decide, by decide⟩
  refine ⟨by cases g <;> cases who <;> rfl, by cases who <;> rfl, ?_⟩
  cases g <;> cases who <;> simp [recordOf, Txn.EndsBy, internalTxn, hubWrite]

/-- Each segment state with an empty queue; a pack with a commanded current; a request that waits in slot 1 and a
PT_SEQ_OPEN that is PENDING in slot 2. -/
theorem witness_SegmentResetHoldsAndReleases :
    let d (st : SegState) := withSeg .seg0 (segIn st) on
    let w : Dev := withSeg .seg0 { busyWith hubRead with
        queue := [{ hubRead with slot := some 1, inFlight := true }], sequence := .pending 2 }
      { on with pli := { on.pli with slots :=
        [Slot.empty, ⟨.waiting, 4, 0, 7, none⟩, ⟨.waiting, 4, 2, 8, none⟩] ++ List.replicate 5 Slot.empty } }
    (∀ st, (d st).TakesInto 0 ∧ ((d st).seg .seg0).state = st ∧ ((d st).chp .a).current = 0 ∧
      ((d st).seg .seg0).queue = [] ∧ (d st).SlotClear 0) ∧
      ((chargeA fastA packA).chp .a).current ≠ 0 ∧ (chargeA fastA packA).TakesInto 0 ∧
      2 ≤ (2 : Byte).toNat ∧
    (w.TakesInto 0 ∧ w.ppu.power = .on ∧ w.SlotClear 0 ∧ w.SlotClear 1 ∧ (w.seg .seg0).drains = [] ∧
      (w.seg .seg0).sequence = .pending 2 ∧ (w.seg .seg1).sequence ≠ .pending 2 ∧
      (w.seg .seg0).queue = [{ hubRead with slot := some 1, inFlight := true }] ∧
      w.pli.slots[1]? = some ⟨.waiting, 4, 0, 7, none⟩ ∧ w.pli.slots[2]? = some ⟨.waiting, 4, 2, 8, none⟩) :=
  ⟨fun _ => ⟨⟨rfl, rfl, rfl⟩, rfl, rfl, rfl, fun g => by cases g <;> exact nofun⟩, by decide,
    ⟨rfl, rfl, rfl⟩, by decide, ⟨rfl, rfl, rfl⟩, rfl, fun g => by cases g <;> decide,
    fun g => by cases g <;> decide, rfl, rfl, nofun, rfl, rfl, rfl⟩

/-- No write queued, and one; a write in flight that two drains wait for, one of them for another write too. -/
theorem witness_DrainWaitsForWrites :
    (withSeg .seg0 (busyWith hubRead) on).TakesInto 0 ∧
      (∀ t ∈ ((withSeg .seg0 (busyWith hubRead) on).seg .seg0).queue, t.cls = 3 → t.write = false) ∧
      (withSeg .seg0 (busyWith hubWrite) on).TakesInto 0 ∧
      (∃ t ∈ ((withSeg .seg0 (busyWith hubWrite) on).seg .seg0).queue, t.cls = 3 ∧ t.write = true) ∧
      (∀ m : Byte, [(2 : Byte)] = [m] → 2 ≤ m.toNat) ∧
      (let u := withSeg .seg0 { busyWith { hubWrite with slot := some 1 } with
          drains := [⟨0, [0]⟩, ⟨2, [0, 5]⟩] } (slot0 0 14 on)
       (u.seg .seg0).current = some { hubWrite with slot := some 1, inFlight := true } ∧
        (⟨0, [0]⟩ : DrainEntry) ∈ (u.seg .seg0).drains ∧ (∀ o ∈ [0], o = hubWrite.order) ∧
        (some 1 : Option Nat) ≠ some 0 ∧ u.pli.slots[0]? = some ⟨.waiting, 0, 14, 7, none⟩) :=
  ⟨⟨rfl, rfl, rfl⟩, by decide, ⟨rfl, rfl, rfl⟩, by decide, fun m h => by cases h; decide, by decide⟩

/-! ## Witnesses: tables -/

/-- The last KEYMAP entry; a count of 14 entries of 4 bytes, which fills the 56 bytes; and spans just
beyond both limits. -/
theorem witness_TableReadAnswersEntries :
    on.TakesInto 0 ∧ on.tst.Sound ∧
      (0xBB : Byte).toNat + 256 * (1 : Byte).toNat + (1 : Byte).toNat ≤ TableId.keymap.entries ∧
      (14 : Byte).toNat * TableId.keymap.entrySize ≤ 56 ∧
      TableId.keymap.entries < u16At [2, 0xBC, 1, 1, 0] 1 + byteAt [2, 0xBC, 1, 1, 0] 3 ∧
      56 < byteAt [2, 0, 0, 15, 0] 3 * TableId.keymap.entrySize ∧ 1 < byteAt [1, 0, 0, 1, 2] 4 ∧
      11 < byteAt [12, 0, 0, 1, 0] 0 :=
  ⟨⟨rfl, rfl, rfl⟩, witness_tables_sound, by decide, by decide, by decide, by decide, by decide,
    by decide⟩

/-- A write of the first entry of every table; of the last KEYMAP entry, of an entry beyond it, and of no entry;
locked, reserved and neither; table ids 0 and 12, and no byte at all. -/
theorem witness_TableWritesStoreEntries :
    byteAt [] 0 = 0 ∧ byteAt [0, 0, 0, 1] 0 = 0 ∧ 11 < byteAt [12, 0, 0, 1] 0 ∧
    on.TakesInto 0 ∧ on.SlotClear 0 ∧ on.ppu.power = .on ∧ on.tst.Sound ∧
      (∀ t : TableId,
        let p : List Byte := [BitVec.ofNat 8 t.id, 0, 0, 1] ++ List.replicate t.entrySize 0
        byteAt p 0 = t.id ∧ p.length ≤ 60 ∧ p.length = 4 + byteAt p 3 * t.entrySize ∧ byteAt p 3 ≠ 0 ∧
          u16At p 1 + byteAt p 3 ≤ t.entries ∧ byteAt p 3 * t.entrySize ≤ 56 ∧
          on.tst.isLocked t = false ∧ on.tst.isReserved t = false ∧
          (on.tst.reserve t true).isReserved t = true ∧
          ({ on.tst with locked := List.replicate 11 true } : Tst).isLocked t = true) ∧
      u16At [2, 0xBB, 1, 1, 1, 5, 0, 0] 1 + 1 ≤ TableId.keymap.entries ∧
      ¬ (u16At [2, 0xBC, 1, 1, 1, 5, 0, 0] 1 + 1 ≤ TableId.keymap.entries) ∧ byteAt [2, 0, 0, 0] 3 = 0 ∧
      ((fanAt 60 10 70).fan .fan1).duty < ((fanAt 60 10 70).curve .fan1).minStart :=
  ⟨rfl, rfl, by decide, ⟨rfl, rfl, rfl⟩, fun g => by cases g <;> exact nofun, rfl, witness_tables_sound,
    fun t => by cases t <;> decide, by decide, by decide, by decide, by decide⟩

/-- The set of all eleven tables, and a set with a twelfth. -/
theorem witness_TableLockLocks :
    on.TakesInto 0 ∧ (7 : Byte).toNat < 8 ∧ on.tst.locked.length = 11 ∧ 8 ≤ byteAt [0, 8] 1 ∧
      ([0] : List Byte).length ≠ 2 :=
  ⟨⟨rfl, rfl, rfl⟩, by decide, rfl, by decide, by decide⟩

theorem witness_ReadEntriesWriteBack :
    Tst.reset.Sound ∧ 443 < TableId.keymap.entries ∧ 6 < TableId.wake.entries ∧ 0 < TableId.scan.entries ∧
      4000 < bitsAt (List.replicate 8 0 ++ [0xA1, 0x0F]) 64 16 ∧
      ¬ 4000 < bitsAt (List.replicate 8 0 ++ [0xA0, 0x0F]) 64 16 :=
  ⟨witness_tables_sound, by decide, by decide, by decide, by decide, by decide⟩

/-- R197: the default FILTER entry reads 0x10, 0, 0, 0, and an address written from 128 to 255 is stored as 127. -/
theorem test_filter_entry :
    readEntry .filter 23 on.tst = [0x10, 0, 0, 0] ∧
      readEntry .filter 0 (storeEntry .filter 0 [0x29, 0x80, 2, 1] on.tst).1 = [0x29, 0x7F, 2, 2] := by decide

/-! ## Witnesses: the link and the streams -/

/-- Byte strings of 3 and of 65 bytes, a payload of 60 bytes; receive queues with 5 and 6 frames; no slot
FREE; kinds and channels just beyond those listed. -/
theorem witness_FramesAreCheckedAndTaken :
    off.pli.linkUp = false ∧ on.pli.linkUp = true ∧ on.pli.rx = [] ∧
      (List.replicate 3 (0 : Byte)).length < 4 ∧ 64 < (List.replicate 65 (0 : Byte)).length ∧
      (List.replicate 60 (0 : Byte)).length ≤ 60 ∧ (List.replicate 5 (⟨0, 0, 0, []⟩ : Frame)).length < 6 ∧
      6 ≤ (List.replicate 6 (⟨0, 0, 0, []⟩ : Frame)).length ∧
      crc8 [0x07, 1, 0] ≠ 0 ∧ ¬ ((⟨0, 16, 0, []⟩ : Frame).channel = 3) ∧ 15 < (⟨0, 16, 0, []⟩ : Frame).kind ∧
      (∀ x ∈ List.replicate 8 (⟨.waiting, 4, 0, 0, none⟩ : Slot), x.state ≠ .free) ∧
      (slot7.pli.slots[7]? = some Slot.empty ∧
        ∀ j < 7, ∀ x, slot7.pli.slots[j]? = some x → x.state ≠ .free) ∧
      frameOf (.summaryRead 1) = some ⟨0, 12, 1, [3]⟩ := by
  refine ⟨rfl, rfl, rfl, by decide, by decide, by decide, by decide, by decide, by decide +kernel,
    by decide, by decide, by decide, ⟨rfl, fun j hj x hx => ?_⟩, rfl⟩
  have : j = 0 ∨ j = 1 ∨ j = 2 ∨ j = 3 ∨ j = 4 ∨ j = 5 ∨ j = 6 := by omega
  rcases this with rfl | rfl | rfl | rfl | rfl | rfl | rfl <;>
    (simp [slot7] at hx; subst hx; decide)

/-- A listed request with frames behind it that may be taken, and a TEMP_REPORT that needs no slot. -/
theorem witness_HeadTakable :
    let f : Frame := ⟨0, 12, 1, [3]⟩
    let g : Frame := ⟨3, 0, 2, [25, 0]⟩
    frameOf (.summaryRead 1) = some f ∧ frameOf (.tempReport 2 [25, 0]) = some g ∧
      ({ slot7 with pli := { slot7.pli with rx := [f, g] } } : Dev).HeadTakable ∧
      ({ on with pli := { on.pli with rx := [g, f], slots := [] } } : Dev).HeadTakable :=
  ⟨rfl, rfl, ⟨rfl, _, _, rfl, .inr ⟨Slot.empty, by decide, rfl⟩⟩, ⟨rfl, _, _, rfl, .inl ⟨rfl, rfl⟩⟩⟩

theorem witness_StatusIsRead :
    on.TakesInto 0 ∧ [(0 : Byte)] ≠ [] ∧ [(0 : Byte)].length ≤ 60 ∧
      (packA.mon .a).record.identity = some ⟨0, 3, 5000⟩ ∧ 1 ≤ 3 ∧
      (packA.mon .a).record.telemetry = some (telemetry 40 (some 2500)) ∧
      (packA.mon .b).record.identity = none ∧ (packA.mon .b).record.telemetry = none ∧
      (fanAt 60 10 70).tfu.die[0]? = some ⟨70, .real⟩ :=
  ⟨⟨rfl, rfl, rfl⟩, by decide, by decide, rfl, by decide, rfl, rfl, rfl, rfl⟩

/-- Something to send from every source, and nothing to send. -/
def sending : Dev :=
  { on with
    ktu := { on.ktu with queue := [⟨21, false, false, false⟩] }
    nsu := ⟨[.keyOverrun], 0, Pair.both { Stream.reset with slot := some ⟨0, false, false, false, []⟩ }⟩
    pli := { on.pli with
      readyOrder := [7], slots := on.pli.slots.set 7 ⟨.ready, 0, 6, 1, some ⟨.ok, false, []⟩⟩ } }

theorem witness_TransmitterPicksHighestPriority :
    on.offers = [] ∧ sending.pli.linkUp = true ∧ sending.pli.tx = none ∧
      sending.offers = [.response 7, .key, .notice, .battery, .thermal] ∧
      sending.pli.slots[7]? = some ⟨.ready, 0, 6, 1, some ⟨.ok, false, []⟩⟩ ∧
      sending.nsu.queue = [.keyOverrun] ∧
      (sending.stream .battery).slot = some ⟨0, false, false, false, []⟩ ∧
      (sending.stream .thermal).slot = some ⟨0, false, false, false, []⟩ ∧ off.pli.linkUp = false := by decide

theorem witness_SentResponseIsActedOn (c n : Nat) (r : Response) (v : PowerReq) :
    let d := { on with
      ppu := { on.ppu with request := some (v, 9) }
      pli := { on.pli with
        slots := on.pli.slots.set 7 ⟨.sending, c, n, 9, some r⟩, tx := some ⟨.response 7, []⟩ } }
    d.pli.tx = some ⟨.response 7, []⟩ ∧ d.pli.slots[7]? = some ⟨.sending, c, n, 9, some r⟩ ∧
      d.ppu.request = some (v, 9) ∧ d.pins.powerGood = true ∧ on.ppu.request = none ∧
      ({ on.pli with tx := some ⟨.notice, []⟩ } : Pli).tx = some ⟨.notice, []⟩ :=
  ⟨rfl, rfl, rfl, rfl, rfl, rfl⟩

/-- R180: a WAKE_STATUS_CLEAR that waits as a POWER_REQUEST is carried out has acted where its take comes first, and
has not where the link DOWN does. -/
theorem test_either_may_be_first :
    let d : Dev := { on with
      wku := { on.wku with powerFault := true }, pli := { on.pli with rx := [⟨0, 7, 3, []⟩] } }
    d.HeadTakable ∧
      (Config.takeFirst on.draws = true → (takeBefore 6 d).wku.powerFault = false) ∧
      (Config.takeFirst on.draws = false → (takeBefore 6 d).wku.powerFault = true) := by
  refine ⟨⟨rfl, _, _, rfl, .inr ⟨Slot.empty, by decide, rfl⟩⟩, fun h => ?_, fun h => ?_⟩
  · rw [takeBefore, if_pos (by decide)]
    dsimp only
    rw [if_pos h, takeBefore_of_not_mayTake _ _ (by decide)]
    decide
  · rw [takeBefore, if_pos (by decide)]
    dsimp only
    rw [if_neg (ne_true_of_eq_false h)]

/-- A stream with one expiry left and one RUNNING with two; the modes and the numbers at their ends. -/
theorem witness_StreamsRun :
    on.TakesInto 0 ∧ (on.stream .battery).running = false ∧
      (let z : Stream := ⟨true, 100, 1, false, 1, some (Timer.ofMs 100), none⟩
       ((on.setStream .thermal z).stream .thermal).running = true ∧
        1 ≤ ((on.setStream .thermal z).stream .thermal).remaining) ∧
      1 < byteAt [2, 0, 0, 0, 0, 0] 0 ∧ 1 < byteAt [0, 0, 0, 0, 0, 2] 5 ∧ ([] : List Byte).length ≠ 1 :=
  ⟨⟨rfl, rfl, rfl⟩, rfl, by decide, by decide, by decide, by decide⟩

/-! ## Witnesses: what every step keeps -/

/-- The part in ON, and at reset, meets the invariants, and a command that moves it steps. -/
theorem witness_StepKeepsLink :
    on.LinkInv ∧ on.PliInv ∧ off.LinkInv ∧ ∃ t, step ⟨on, [.identify 1 []]⟩ = .next t :=
  ⟨rfl, ⟨by decide, by decide, nofun⟩, rfl, _, rfl⟩

theorem witness_StepKeepsQueues :
    on.LinkInv ∧ on.NoticeInv ∧ on.KeysInv ∧
      ∃ t, step ⟨on, [.takeRawEvent]⟩ = .next t :=
  ⟨rfl, List.nodup_nil,
    ⟨List.length_replicate, by decide, nofun, List.length_replicate, by decide, by decide, nofun⟩, _, rfl⟩

/-- Classes 9 disabled and 0 and 15 enabled; in the queue 0 stands between others and 15 does not stand. -/
theorem witness_RaisedNotice :
    let n : Notice := .linkUp none .none false
    let q : List Notice := [.keyOverrun, n, .batteryCritical 3]
    (0xFDFF : BitVec 16).getLsbD (Notice.batteryCritical 3).cls = false ∧
      (0xFDFF : BitVec 16).getLsbD n.cls = true ∧ q = [.keyOverrun] ++ n :: [.batteryCritical 3] ∧
      (∀ x ∈ [Notice.keyOverrun] ++ [.batteryCritical 3], x.cls ≠ n.cls) ∧
      (0xFDFF : BitVec 16).getLsbD 15 = true ∧ (∀ m ∈ q, m.cls ≠ 15) :=
  ⟨by decide, by decide, rfl, by decide, by decide, by decide⟩

theorem witness_StepKeepsTablesSound :
    on.tst.Sound ∧ ∃ t, step ⟨on, [.tableWrite 3 [2, 0xBB, 1, 1, 1, 5, 0, 0]]⟩ = .next t :=
  ⟨witness_tables_sound, _, rfl⟩

theorem witness_StepKeepsChargeSafe :
    (chargeA fastA packA).ChargeInv ∧ ∃ t, step ⟨chargeA fastA packA, [.fastChargeExpiry .a]⟩ = .next t :=
  ⟨fun k => by cases k <;> decide, _, rfl⟩

theorem witness_LockedTablesKeepContent :
    let d := { on with tst := { on.tst with locked := List.replicate 11 true } }
    (∀ straps rest, [Instr.tableLock 1 [0, 0]] ≠ .powerOnReset straps :: rest) ∧
      (∀ rest, [Instr.tableLock 1 [0, 0]] ≠ .platformResetAssert :: rest) ∧
      d.tst.isLocked .settings = true ∧ off.pli.linkUp = false ∧
      ∃ t, step ⟨d, [.tableLock 1 [0, 0]]⟩ = .next t :=
  ⟨nofun, nofun, rfl, rfl, _, rfl⟩

end Sys2Proof.Tests
end

namespace Sys2Proof.Machine

/-! ## The part after a power-on reset -/

/-- The built-in defaults of the eleven tables lie within their ranges (R17, R22, R84, R85, R106, R107, R130, R152,
R171). -/
theorem reset_tst_sound : Tst.reset.Sound where
  scan := by simp [ScanTab.sound, within, Tst.reset, ScanTab.default]
  keymap := by
    refine ⟨by simp [Tst.reset, Config.positions], fun e he => ?_⟩
    obtain ⟨i, -, rfl⟩ := List.mem_map.1 he
    by_cases h : i < 148
    · simp [KeymapEntry.sound, KeymapEntry.default, Config.positions, h]; omega
    · simp [KeymapEntry.sound, KeymapEntry.default, Config.positions, h]
  profile := by
    refine ⟨List.length_replicate, fun p hp => ?_⟩
    rw [List.eq_of_mem_replicate hp]
    simp [ProfileTab.sound, ProfileTab.default, within, Band.sound]
  power := by constructor <;> simp [Tst.reset, PowerTab.default, within]
  adapter := ⟨List.length_replicate, fun x hx => by rw [List.eq_of_mem_replicate hx]; omega⟩
  itemmap := by decide
  fancurve := by
    have h : FanTab.default.Sound := by constructor <;> simp [FanTab.default, within]
    exact ⟨h, h⟩
  thermal := by constructor <;> simp [Tst.reset, ThermalTab.default, within]
  filter := by
    refine ⟨List.length_replicate, fun e he => ?_⟩
    rw [List.eq_of_mem_replicate he]
    simp [FilterEntry.sound, FilterEntry.default]
  wake := ⟨rfl, fun e he => by cases he; rfl⟩
  settings := by simp [SettingsTab.sound, within, Tst.reset, SettingsTab.default]
  flags := ⟨rfl, rfl⟩

/-- After a power-on reset the link is DOWN and the state OFF, whatever the lines. -/
theorem powerOn_linkInv (pins : Pins) : (Dev.powerOn pins).LinkInv := rfl

theorem powerOn_pliInv (pins : Pins) : (Dev.powerOn pins).PliInv where
  receive := Nat.zero_le _
  slots := rfl
  down _ := ⟨rfl, rfl, rfl, fun s hs => by rw [List.eq_of_mem_replicate hs]; rfl⟩

theorem powerOn_noticeInv (pins : Pins) : (Dev.powerOn pins).NoticeInv := List.nodup_nil

theorem powerOn_keysInv (pins : Pins) : (Dev.powerOn pins).KeysInv where
  positions := List.length_replicate
  raw := Nat.zero_le _
  overrun := nofun
  pressed := List.length_replicate
  held := Nat.zero_le _
  reports := Nat.zero_le _
  down _ := ⟨rfl, rfl, rfl⟩

theorem powerOn_chargeInv (pins : Pins) : (Dev.powerOn pins).ChargeInv := by
  intro k; cases k <;> exact ⟨fun _ => rfl, fun _ => rfl, fun _ => rfl⟩

/-- Settles O60: each invariant holds right after a power-on reset, on any lines. -/
theorem resetMeetsInvariants : Obligations.ResetMeetsInvariants :=
  ⟨powerOn_linkInv _, powerOn_pliInv _, powerOn_noticeInv _, powerOn_keysInv _, reset_tst_sound,
    powerOn_chargeInv _⟩

/-- Settles O2: each block at the value that its rule gives it; a statement over both packs, segments or streams is
read off member by member. -/
theorem powerOnResetLeaves : Obligations.PowerOnResetLeaves := by
  intro straps s
  refine ⟨powerOnEvent straps s.dev, rfl, rfl, rfl, rfl, rfl, fun k => ?_, fun k => ?_, rfl, rfl, rfl, rfl, rfl,
    rfl, rfl, rfl, fun g => ?_, rfl, rfl, rfl, rfl, fun x => ?_, rfl⟩
  · cases k
    case a =>
      rw [show (s.dev.pins.presence.get Pack.a.ix && (Pack.a == .a || straps.twoPacks)) =
        (true && s.dev.pins.presence.one) from Bool.and_comm _ true]
      exact ⟨rfl, rfl, rfl, rfl, rfl, rfl, rfl, rfl⟩
    case b =>
      rw [show (s.dev.pins.presence.get Pack.b.ix && (Pack.b == .a || straps.twoPacks)) =
        (straps.twoPacks && s.dev.pins.presence.two) from Bool.and_comm _ _]
      exact ⟨rfl, rfl, rfl, rfl, rfl, rfl, rfl, rfl⟩
  · cases k <;> rfl
  · cases g <;> rfl
  · cases x <;> rfl

end Sys2Proof.Machine

namespace Sys2Proof.Machine

/-! ## Orderly changes of the part

Between two moments of one event the pending summary loses no class, the notice queue keeps one notice of a class, and
the queues of the keyboard keep to their places.  Each operation is orderly, said once; an event is orderly by the
operations that it is made of. -/

/-- No class leaves the pending summary, and the queues keep to their places (R10, R12, R26, R34, R189). -/
structure Dev.Orderly (d e : Dev) : Prop where
  raised : ∀ c, d.Raised c → e.Raised c
  notices : d.NoticeInv → e.NoticeInv
  keys : d.KeysInv → e.KeysInv

namespace Dev

theorem Orderly.refl (d : Dev) : d.Orderly d := ⟨fun _ h => h, fun h => h, fun h => h⟩

theorem Orderly.trans {d e f : Dev} (h : d.Orderly e) (k : e.Orderly f) : d.Orderly f :=
  ⟨fun c x => k.raised c (h.raised c x), fun x => k.notices (h.notices x), fun x => k.keys (h.keys x)⟩

/-- The places of the keyboard's queues depend on the MSE, the KTU and the link state alone. -/
theorem KeysInv.congr {d e : Dev} (h : d.KeysInv) (hm : e.mse = d.mse) (hk : e.ktu = d.ktu)
    (hl : e.pli.linkUp = d.pli.linkUp) : e.KeysInv := by
  exact ⟨hm ▸ h.positions, hm ▸ h.raw, hm ▸ h.overrun, hk ▸ h.pressed, hk ▸ h.held, hk ▸ h.reports,
    by rw [hl, hk]; exact h.down⟩

/-- What leaves the notices, the MSE, the KTU and the link state as they are is orderly. -/
theorem Orderly.frame {d e f : Dev} (h : d.Orderly e) (hf : f.nsu.queue = e.nsu.queue ∧
    f.nsu.summary = e.nsu.summary ∧ f.mse = e.mse ∧ f.ktu = e.ktu ∧ f.pli.linkUp = e.pli.linkUp) :
    d.Orderly f := by
  obtain ⟨hq, hs, hm, hk, hl⟩ := hf
  refine h.trans ⟨fun c x => ?_, fun x => ?_, fun x => x.congr hm hk hl⟩
  · unfold Raised; rw [hs]; exact x
  · unfold NoticeInv; rw [hq]; exact x

theorem Orderly.ite {d a b : Dev} {p : Prop} [Decidable p] (ha : p → d.Orderly a) (hb : ¬ p → d.Orderly b) :
    d.Orderly (if p then a else b) := by
  split
  · exact ha ‹_›
  · exact hb ‹_›

end Dev

/-! ### The CHG, the TFU and the segments: what they do raises notices at most -/

section
variable {d e : Dev}

theorem raise_orderly (n : Notice) (h : d.Orderly e) : d.Orderly (raise n e) := by
  refine h.trans ⟨fun c => raise_keeps_raised n e c, fun x => ?_, fun x => x.congr ?_ ?_ ?_⟩
  · unfold Dev.NoticeInv raise
    rw [setNsu_nsu, Nsu.raise]
    dsimp only
    split
    · exact coalesce_nodup n _ x
    · exact x
  all_goals simp

theorem setChg_orderly (x : Chg) (h : d.Orderly e) : d.Orderly (e.setChg x) := h.frame (by simp)

theorem setTfu_orderly (x : Tfu) (h : d.Orderly e) : d.Orderly (e.setTfu x) := h.frame (by simp)

theorem setFan_orderly (f : Fan) (x : FanState) (h : d.Orderly e) : d.Orderly (e.setFan f x) :=
  h.frame (by simp)

theorem allocate_orderly (h : d.Orderly e) : d.Orderly (allocate e) := h.frame (by simp)

theorem stageChange_orderly (k : Pack) (new : Stage) (h : d.Orderly e) :
    d.Orderly (stageChange k new e) :=
  allocate_orderly (raise_orderly _ (h.frame (by simp)))

theorem faultPack_orderly (k : Pack) (h : d.Orderly e) : d.Orderly (faultPack k e).1 :=
  stageChange_orderly k .fault h

theorem startPasses_orderly (n : Nat) (ks : List Pack) (h : d.Orderly e) :
    d.Orderly (startPasses n ks e) := by
  induction n generalizing ks e with
  | zero => cases ks <;> exact h
  | succ n ih =>
    cases ks with
    | nil => exact h
    | cons k ks =>
      have hp : d.Orderly (startPass k e).1 := h.frame (by simp)
      simp only [startPasses]
      split
      · exact ih _ (faultPack_orderly k hp)
      · exact ih _ hp

theorem writeChanged_orderly (b : Dev) (h : d.Orderly e) : d.Orderly (writeChanged b e) :=
  startPasses_orderly _ _ h

theorem allocateAndWrite_orderly (h : d.Orderly e) : d.Orderly (allocateAndWrite e) :=
  writeChanged_orderly _ (h.frame (by simp))

theorem changeStage_orderly (k : Pack) (new : Stage) (h : d.Orderly e) :
    d.Orderly (changeStage k new e) :=
  writeChanged_orderly _ (stageChange_orderly k new h)

theorem settlePass_orderly (k : Pack) {r : Dev × Bool} (h : d.Orderly r.1) :
    d.Orderly (settlePass k r) := by
  unfold settlePass
  split
  · exact startPasses_orderly _ _ (faultPack_orderly k h)
  · exact h

theorem chargerCompleted_orderly (k : Pack) (c : Completion) (h : d.Orderly e) :
    d.Orderly (chargerCompleted k c e) := by
  unfold chargerCompleted
  dsimp only
  split
  · split <;> exact settlePass_orderly k (h.frame (by simp))
  · exact h.frame (by simp)
  all_goals
    split
    · exact settlePass_orderly k (h.frame (by simp))
    · split <;> exact settlePass_orderly k (h.frame (by simp))

theorem inputFailed_orderly (h : d.Orderly e) : d.Orderly (inputFailed e) :=
  allocateAndWrite_orderly (h.frame (by simp))

theorem issueInput_orderly (c : Nat) (st : InputReader) (h : d.Orderly e) :
    d.Orderly (issueInput c st e) := by
  unfold issueInput
  dsimp only
  split
  · exact h.frame (by simp)
  · exact inputFailed_orderly (h.frame (by simp))

theorem inputCompleted_orderly (c : Completion) (h : d.Orderly e) : d.Orderly (inputCompleted c e) := by
  unfold inputCompleted
  split
  · exact issueInput_orderly _ _ h
  · exact allocateAndWrite_orderly (h.frame (by simp))
  · exact h
  · exact h
  · exact inputFailed_orderly h

theorem sampleComplete_orderly (k : Pack) (h : d.Orderly e) : d.Orderly (sampleComplete k e) := by
  exact allocateAndWrite_orderly (.ite (fun _ => h.frame (by simp)) fun _ =>
    changeStage_orderly k _ (h.frame (by simp)))

theorem packGone_orderly (k : Pack) (removal : Bool) (h : d.Orderly e) :
    d.Orderly (packGone k removal e) := by
  exact startPasses_orderly _ _ (.ite (fun _ => h.frame (by simp)) fun _ => stageChange_orderly k _ h)

theorem checkFastCharge_orderly (k : Pack) (h : d.Orderly e) : d.Orderly (checkFastCharge k e) := by
  unfold checkFastCharge
  split
  · exact changeStage_orderly k .fault h
  · exact h

theorem batteryCrossing_orderly (h : d.Orderly e) : d.Orderly (batteryCrossing e) :=
  setChg_orderly _ (raise_orderly _ h)

theorem chgPower_orderly (h : d.Orderly e) : d.Orderly (chgPower e) := by
  have hw : d.Orderly (watchCompute (retimeAllocation e)) := h.frame (by simp)
  unfold chgPower
  dsimp only
  split
  · split
    · exact batteryCrossing_orderly hw
    · exact hw
  · exact hw.frame (by simp)

theorem zoneChange_orderly (z : Nat) (h : d.Orderly e) : d.Orderly (zoneChange z e) := by
  unfold zoneChange
  refine raise_orderly _ (writeChanged_orderly _ ?_)
  split <;> exact h.frame (by simp)

theorem evalZone_orderly (h : d.Orderly e) : d.Orderly (evalZone e) := by
  unfold evalZone
  dsimp only
  split
  · exact h
  · exact zoneChange_orderly _ h

theorem raiseCritical_orderly (h : d.Orderly e) : d.Orderly (raiseCritical e) := raise_orderly _ h

theorem criticalCrossing_orderly (h : d.Orderly e) : d.Orderly (criticalCrossing e) :=
  setTfu_orderly _ (raiseCritical_orderly h)

theorem fanStateChange_orderly (f : Fan) (b : Bool) (h : d.Orderly e) :
    d.Orderly (fanStateChange f b e) :=
  allocateAndWrite_orderly (raise_orderly _ (h.frame (by simp)))

theorem fanFaultEntry_orderly (f : Fan) (h : d.Orderly e) : d.Orderly (fanFaultEntry f e) :=
  fanStateChange_orderly f true (h.frame (by simp))

theorem judgeStall_orderly (f : Fan) (low : Bool) (rpm : Nat) (h : d.Orderly e) :
    d.Orderly (judgeStall f low rpm e) :=
  .ite (fun _ => fanFaultEntry_orderly f h) fun _ => setFan_orderly f _ h

theorem judgeRecovery_orderly (f : Fan) (rpm : Nat) (h : d.Orderly e) :
    d.Orderly (judgeRecovery f rpm e) :=
  .ite (fun _ => fanStateChange_orderly f false h) fun _ => setFan_orderly f _ h

theorem startWindow_orderly (f : Fan) (h : d.Orderly e) : d.Orderly (startWindow f e) :=
  h.frame (by simp)

theorem tachWindowEvent_orderly (f : Fan) (h : d.Orderly e) : d.Orderly (tachWindowEvent f e) := by
  unfold tachWindowEvent
  split
  · exact h
  · exact startWindow_orderly f (.ite (fun _ => judgeRecovery_orderly f _ (setFan_orderly f _ h))
      fun _ => judgeStall_orderly f _ _ (setFan_orderly f _ h))

theorem offRecovery_orderly (f : Fan) (h : d.Orderly e) : d.Orderly (offRecovery f e) := by
  unfold offRecovery
  split
  · exact fanStateChange_orderly f false h
  · exact h

theorem fansOff_orderly (h : d.Orderly e) : d.Orderly (fansOff e) :=
  offRecovery_orderly .fan2 (offRecovery_orderly .fan1 (h.frame (by simp)))

theorem tfuPower_orderly (h : d.Orderly e) : d.Orderly (tfuPower e) := by
  have hc : d.Orderly (computeCritical (hostPower e)) := h.frame (by simp)
  have hp : d.Orderly (criticalPower (hostPower e)) := by
    unfold criticalPower
    dsimp only
    split
    · split
      · exact criticalCrossing_orderly hc
      · exact hc
    · exact hc.frame (by simp)
  unfold tfuPower
  dsimp only
  split
  · exact fansOff_orderly hp
  · exact hp

end
end Sys2Proof.Machine

namespace Sys2Proof.Machine

/-! ### The scan timer, the link state and the power state -/

/-- What a retimed scan timer leaves of the MSE (R3, R4). -/
theorem retime_frame (m : Mse) (period : Option Nat) :
    (m.retime period).raw = m.raw ∧ (m.retime period).overrun = m.overrun ∧
      (m.retime period).scanState = m.scanState ∧ (m.retime period).recs.length = m.recs.length := by
  unfold Mse.retime
  split
  · exact ⟨rfl, rfl, rfl, List.length_map _⟩
  · exact ⟨rfl, rfl, rfl, rfl⟩
  · exact ⟨rfl, rfl, rfl, rfl⟩
  · split <;> exact ⟨rfl, rfl, rfl, rfl⟩

section
variable {d e : Dev}

theorem setPins_orderly (x : Pins) (h : d.Orderly e) : d.Orderly (e.setPins x) := h.frame (by simp)

theorem setPpu_orderly (x : Ppu) (h : d.Orderly e) : d.Orderly (e.setPpu x) := h.frame (by simp)

theorem setWku_orderly (x : Wku) (h : d.Orderly e) : d.Orderly (e.setWku x) := h.frame (by simp)

theorem setPkm_orderly (x : Pair PackMonitor) (h : d.Orderly e) : d.Orderly (e.setPkm x) :=
  h.frame (by simp)

theorem setMon_orderly (k : Pack) (x : PackMonitor) (h : d.Orderly e) : d.Orderly (e.setMon k x) :=
  h.frame (by simp)

/-- An MSE that keeps its records and its raw events in their places is orderly. -/
theorem setMse_orderly {x : Mse} (h : d.Orderly e)
    (hx : e.KeysInv → x.recs.length = 148 ∧ x.raw.length ≤ 16 ∧ (x.overrun = true → x.raw.length = 16)) :
    d.Orderly (e.setMse x) :=
  h.trans ⟨fun _ y => y, fun y => y, fun y =>
    ⟨(hx y).1, (hx y).2.1, (hx y).2.2, y.pressed, y.held, y.reports, y.down⟩⟩

/-- A KTU that keeps its records, held codes and reports in their places is orderly; with the link DOWN it has none
of the last two and no restatement. -/
theorem setKtu_orderly {x : Ktu} (h : d.Orderly e)
    (hx : e.KeysInv → x.recs.length = 148 ∧ x.held.length ≤ 16 ∧ x.queue.length ≤ 32 ∧
      (e.pli.linkUp = false → x.queue = [] ∧ x.held = [] ∧ x.restate = .idle)) :
    d.Orderly (e.setKtu x) :=
  h.trans ⟨fun _ y => y, fun y => y, fun y =>
    ⟨y.positions, y.raw, y.overrun, (hx y).1, (hx y).2.1, (hx y).2.2.1, (hx y).2.2.2⟩⟩

/-- A KTU with the same held codes, reports and restatement and as many records is orderly. -/
theorem setKtu_orderly_of_same {x : Ktu} (h : d.Orderly e) (hr : x.recs.length = e.ktu.recs.length)
    (hh : x.held = e.ktu.held) (hq : x.queue = e.ktu.queue) (ht : x.restate = e.ktu.restate) :
    d.Orderly (e.setKtu x) :=
  setKtu_orderly h fun y =>
    ⟨hr.trans y.pressed, hh ▸ y.held, hq ▸ y.reports, fun z => by rw [hq, hh, ht]; exact y.down z⟩

theorem mseRetime_orderly (h : d.Orderly e) : d.Orderly (mseRetime e) := by
  obtain ⟨hw, ho, -, hr⟩ := retime_frame e.mse e.scanPeriod
  exact setMse_orderly h fun y => ⟨hr.trans y.positions, hw ▸ y.raw, by rw [hw, ho]; exact y.overrun⟩

theorem relayer_orderly (h : d.Orderly e) : d.Orderly (relayer e) :=
  setKtu_orderly_of_same h rfl rfl rfl rfl

/-- The link DOWN empties the keyboard's queues (R38). -/
theorem linkDown_orderly (h : d.Orderly e) : d.Orderly (linkDown e) := by
  have hn : (linkDown e).nsu.queue = e.nsu.queue ∧ (linkDown e).nsu.summary = e.nsu.summary := by
    simp [linkDown, linkDownRest, nsuLinkDown]
  refine h.trans ⟨fun c x => ?_, fun x => ?_, fun x => ?_⟩
  · unfold Dev.Raised; rw [hn.2]; exact x
  · unfold Dev.NoticeInv; rw [hn.1]; exact x
  · have hm : (linkDown e).mse = e.mse := by simp
    refine ⟨hm ▸ x.positions, hm ▸ x.raw, hm ▸ x.overrun, ?_, Nat.zero_le _, Nat.zero_le _,
      fun _ => ⟨rfl, rfl, rfl⟩⟩
    simpa [linkDown, ktuLinkDown, relayer] using x.pressed

/-- A wake key delivered into an empty KTU makes two reports at most and one held code at most (R41). -/
theorem deliver_places (u : Ktu) (w : WakeKey) (hq : u.queue = []) (hh : u.held = []) :
    (u.deliver w).recs.length = u.recs.length ∧ (u.deliver w).held.length ≤ 16 ∧
      (u.deliver w).queue.length ≤ 32 := by
  unfold Ktu.deliver
  dsimp only
  split <;> simp [Ktu.report, Ktu.setRec, hq, hh]

/-- The NSU's link UP puts LINK_UP at the head, which stands once (R190). -/
theorem nsuLinkUp_orderly (h : d.Orderly e) : d.Orderly (nsuLinkUp e) := by
  refine h.trans ⟨fun c x => ?_, fun x => ?_, fun x => x.congr (by simp) (by simp) (by simp)⟩
  · simp only [Dev.Raised, nsuLinkUp, setNsu_nsu, BitVec.getLsbD_or] at x ⊢
    simp [x]
  · unfold Dev.NoticeInv nsuLinkUp at *
    have hs : ((e.nsu.queue.filter fun m => m.cls != e.wku.summary.cls).map Notice.cls).Nodup :=
      x.sublist (List.filter_sublist.map _)
    simp only [setNsu_nsu]
    split
    · refine List.nodup_cons.2 ⟨fun hm => ?_, hs⟩
      obtain ⟨m, hm, hc⟩ := List.mem_map.1 hm
      simp [hc] at hm
    · exact hs

/-- The link UP delivers a wake key into queues that are empty (R41). -/
theorem linkUp_orderly (h : d.Orderly e) (hl : e.pli.linkUp = false) : d.Orderly (linkUp e) := by
  obtain ⟨hr, hn, -⟩ := nsuLinkUp_orderly (.refl (e.setPli { e.pli with
    linkUp := true, seqKey := 0, seqNotice := 0, seqBattery := 0, seqThermal := 0 }))
  unfold linkUp ktuLinkUp
  split
  · exact h.trans ⟨hr, hn, fun x => ⟨x.positions, x.raw, x.overrun, x.pressed, x.held, x.reports, nofun⟩⟩
  · rename_i w _
    refine relayer_orderly (h.trans ⟨hr, hn, fun x => ?_⟩)
    obtain ⟨hq, hh, -⟩ := x.down hl
    obtain ⟨h1, h2, h3⟩ := deliver_places e.ktu w hq hh
    exact ⟨x.positions, x.raw, x.overrun, h1.trans x.pressed, h2, h3, nofun⟩

theorem relink_orderly (h : d.Orderly e) : d.Orderly (relink e) := by
  refine .ite (fun c => linkUp_orderly h ?_) fun _ => .ite (fun _ => linkDown_orderly h) fun _ => h
  simpa using (Bool.and_eq_true_iff.1 c).2

theorem powerTo_orderly (st : PowerState) (h : d.Orderly e) : d.Orderly (powerTo st e) :=
  relink_orderly (tfuPower_orderly (chgPower_orderly
    (setPkm_orderly _ (mseRetime_orderly (setPpu_orderly _ h)))))

theorem riseUp_orderly (h : d.Orderly e) : d.Orderly (riseUp e) :=
  .ite (fun _ => powerTo_orderly .on (powerTo_orderly .poweringUp h)) fun _ => powerTo_orderly .poweringUp h

theorem reachOff_orderly (h : d.Orderly e) : d.Orderly (reachOff e) :=
  .ite (fun _ => setPpu_orderly _ (powerTo_orderly .off h)) fun _ => powerTo_orderly .off h

theorem powerDown_orderly (c : Cause) (h : d.Orderly e) : d.Orderly (powerDown c e) := by
  have hp : d.Orderly (powerTo .poweringDown (handCause c (e.setPpu { e.ppu with
      cause := c, wakeLatch := false }))) :=
    powerTo_orderly _ (setWku_orderly _ (setPpu_orderly _ h))
  exact .ite (fun _ => hp) fun _ => reachOff_orderly hp

theorem forcedOff_orderly (c : Cause) (h : d.Orderly e) : d.Orderly (forcedOff c e) := by
  unfold forcedOff
  split
  case h_5 | h_6 => exact .ite (fun _ => setWku_orderly _ (setPpu_orderly _ h)) fun _ => h
  all_goals exact powerDown_orderly c (setPpu_orderly _ h)

theorem takeWake_orderly (h : d.Orderly e) : d.Orderly (takeWake e) := riseUp_orderly (setPpu_orderly _ h)

theorem offerWake_orderly (w : WakeSource) (h : d.Orderly e) : d.Orderly (offerWake w e) := by
  unfold offerWake
  split
  · exact .ite (fun _ => setWku_orderly _ (setPpu_orderly _ h)) fun _ => h
  · exact .ite (fun _ => takeWake_orderly (setWku_orderly _ h)) fun _ => h
  · exact .ite (fun _ => takeWake_orderly (setWku_orderly _ h)) fun _ => h
  all_goals exact h

theorem watchSleep_orderly (b : Bool) (h : d.Orderly e) : d.Orderly (watchSleep b e) := by
  have hw : d.Orderly (if b then offerWake .batteryCritical
      (raise (.batteryCritical (e.chg.systemSoc.getD 0)) e) else e) :=
    .ite (fun _ => offerWake_orderly _ (raise_orderly _ h)) fun _ => h
  exact .ite (fun _ => forcedOff_orderly _ hw) fun _ => hw

theorem batteryWatch_orderly (h : d.Orderly e) : d.Orderly (batteryWatch e) := by
  have hw : d.Orderly (watchCompute e) := h.frame (by simp)
  unfold batteryWatch
  dsimp only
  split
  · exact .ite (fun _ => setChg_orderly _ hw) fun _ => .ite (fun _ => hw) fun _ => batteryCrossing_orderly hw
  · exact watchSleep_orderly _ hw
  all_goals exact hw

theorem criticalWatch_orderly (h : d.Orderly e) : d.Orderly (criticalWatch e) := by
  have hw : d.Orderly (computeCritical e) := h.frame (by simp)
  unfold criticalWatch
  dsimp only
  split
  · exact .ite (fun _ => setTfu_orderly _ hw) fun _ => .ite (fun _ => hw) fun _ => criticalCrossing_orderly hw
  · exact .ite (fun _ => forcedOff_orderly _ (raiseCritical_orderly hw)) fun _ => hw
  all_goals exact hw

theorem enterSleep_orderly (h : d.Orderly e) : d.Orderly (enterSleep e) := by
  have hw : d.Orderly (sleepCrossings (powerTo .sleep e)) :=
    .ite (fun _ => forcedOff_orderly _ (raiseCritical_orderly (watchSleep_orderly _ (powerTo_orderly _ h))))
      fun _ => watchSleep_orderly _ (powerTo_orderly _ h)
  exact .ite (fun _ => .ite (fun _ => takeWake_orderly (setPpu_orderly _ hw)) fun _ => setPpu_orderly _ hw)
    fun _ => hw

theorem enterSleepEntry_orderly (h : d.Orderly e) : d.Orderly (enterSleepEntry e) :=
  .ite (fun _ => powerTo_orderly _ h) fun _ => enterSleep_orderly (powerTo_orderly _ h)

theorem lossOfPower_orderly (h : d.Orderly e) : d.Orderly (lossOfPower e) :=
  powerTo_orderly _ (powerTo_orderly _ (setWku_orderly _ (setWku_orderly _ (setPpu_orderly _ h))))

end
end Sys2Proof.Machine

namespace Sys2Proof.Machine

/-! ## The raw event queue and the records of a scan -/

/-- Changes placed in the raw event queue: the first that fit, and the overrun mark when some do not (R10, R11). -/
theorem pushAll_eq (m : Mse) (es : List RawEntry) (h : m.raw.length ≤ 16) :
    m.pushAll es = { m with
      raw := (m.raw ++ es).take 16, overrun := m.overrun || decide (16 < (m.raw ++ es).length) } := by
  induction es generalizing m with
  | nil => simp [Mse.pushAll, List.take_of_length_le h, Nat.not_lt.mpr h]
  | cons x es ih =>
    have hstep : m.pushAll (x :: es) = (m.push x).pushAll es := rfl
    rw [hstep, Mse.push]
    split <;> rename_i hc <;> simp only [Config.rawQueueSize] at hc
    · rw [ih _ (by simp; omega)]
      simp
    · have hl : m.raw.length = 16 := by omega
      rw [ih { m with overrun := true } h]
      simp [hl]

/-- The raw event queue holds to its place whatever is placed in it (R10, R11). -/
theorem pushAll_places (m : Mse) (es : List RawEntry) (h : m.raw.length ≤ 16)
    (ho : m.overrun = true → m.raw.length = 16) :
    (m.pushAll es).recs = m.recs ∧ (m.pushAll es).raw.length ≤ 16 ∧
      ((m.pushAll es).overrun = true → (m.pushAll es).raw.length = 16) := by
  rw [pushAll_eq m es h]
  refine ⟨rfl, by simp, fun hc => ?_⟩
  simp only [Bool.or_eq_true, decide_eq_true_eq, List.length_append] at hc
  simp only [List.length_take, List.length_append]
  rcases hc with hc | hc
  · have := ho hc; omega
  · omega

/-- A scan keeps every position's record in its place (R5). -/
theorem scanRecs_length (t : ScanTab) (side : Bool) (st : ScanState) (raw : BitVec 148) (recs : List PosRec) :
    (scanRecs t side st raw recs).1.length = recs.length := by
  simp [scanRecs]

/-- What the last part of a scan leaves of the MSE (R13). -/
theorem scan_eq (t : ScanTab) (side : Bool) (raw : BitVec 148) (m : Mse) :
    m.scan t side raw =
      { Mse.pushAll { m with recs := (scanRecs t side m.scanState raw m.recs).1 }
          (scanRecs t side m.scanState raw m.recs).2 with
        scanState := (m.scan t side raw).scanState } := by
  unfold Mse.scan
  dsimp only
  split <;> rfl

section
variable {d e : Dev}

theorem scanEvent_orderly (raw : BitVec 148) (h : d.Orderly e) : d.Orderly (scanEvent raw e) := by
  unfold scanEvent
  split
  · exact h
  · refine setMse_orderly (setPins_orderly _ h) fun y => ?_
    dsimp only
    rw [scan_eq]
    obtain ⟨h1, h2, h3⟩ := pushAll_places { e.mse with
      recs := (scanRecs e.tst.scan e.profile.sideButtons e.mse.scanState raw e.mse.recs).1 }
      (scanRecs e.tst.scan e.profile.sideButtons e.mse.scanState raw e.mse.recs).2 y.raw y.overrun
    exact ⟨by rw [← y.positions]; exact (congrArg List.length h1).trans (scanRecs_length ..), h2, h3⟩

/-! ### The events of the power state machine and of the wakes -/

theorem takePosture_places (p : Posture) (m : Mse) (h : m.raw.length ≤ 16)
    (ho : m.overrun = true → m.raw.length = 16) :
    (m.takePosture p).recs.length = m.recs.length ∧ (m.takePosture p).raw.length ≤ 16 ∧
      ((m.takePosture p).overrun = true → (m.takePosture p).raw.length = 16) := by
  unfold Mse.takePosture
  split
  · exact ⟨rfl, h, ho⟩
  · split <;> exact ⟨rfl, h, ho⟩
  all_goals
    split
    · exact ⟨rfl, h, ho⟩
    · obtain ⟨h1, h2, h3⟩ := pushAll_places { m with
        recs := m.recs.zipIdx.map fun x => if isMatrix x.2 then PosRec.up else x.1, scanState := .gated }
        (gatingReleases m.recs) h ho
      exact ⟨by rw [h1]; simp, h2, h3⟩

theorem ktuPosture_orderly (p : Posture) (h : d.Orderly e) : d.Orderly (ktuPosture p e) := by
  unfold ktuPosture
  split
  case h_3 => exact h
  all_goals
    exact .ite (fun _ => setKtu_orderly_of_same h (by simp [Ktu.setRec]) rfl rfl rfl) fun _ => h

theorem postureChange_orderly (p : Posture) (h : d.Orderly e) : d.Orderly (postureChange p e) := by
  have hm : d.Orderly ((e.setPpu { e.ppu with posture := p }).setMse (e.mse.takePosture p)) :=
    setMse_orderly (setPpu_orderly _ h) fun y => by
      obtain ⟨h1, h2, h3⟩ := takePosture_places p e.mse y.raw y.overrun
      exact ⟨h1.trans y.positions, h2, h3⟩
  have hr := raise_orderly (.posture e.ppu.posture p) (ktuPosture_orderly p hm)
  exact .ite (fun _ => offerWake_orderly _ hr) fun _ => hr

theorem lidFoldEvent_orderly (x : LidFold) (h : d.Orderly e) : d.Orderly (lidFoldEvent x e) := by
  have hp {f : Dev} (hf : d.Orderly f) : d.Orderly (derivePosture f) :=
    .ite (fun _ => hf) fun _ => postureChange_orderly _ hf
  unfold lidFoldEvent
  split <;> exact .ite (fun _ => h) fun _ => hp (setPpu_orderly _ (setPins_orderly _ h))

theorem powerGoodEvent_orderly (b : Bool) (h : d.Orderly e) : d.Orderly (powerGoodEvent b e) := by
  have hp : d.Orderly (e.setPins { e.pins with powerGood := b }) := setPins_orderly _ h
  unfold powerGoodEvent
  refine .ite (fun _ => h) fun _ => ?_
  dsimp only
  split
  · exact powerTo_orderly _ hp
  · exact enterSleep_orderly hp
  · exact reachOff_orderly hp
  · exact lossOfPower_orderly hp
  · exact hp

theorem powerUpTimeoutEvent_orderly (h : d.Orderly e) : d.Orderly (powerUpTimeoutEvent e) :=
  .ite (fun _ => powerTo_orderly _ (setWku_orderly _ h)) fun _ => h

theorem powerDownTimeoutEvent_orderly (h : d.Orderly e) : d.Orderly (powerDownTimeoutEvent e) := by
  unfold powerDownTimeoutEvent
  refine .ite (fun _ => h) fun _ => ?_
  split
  case h_1 | h_2 => exact powerTo_orderly _ (setWku_orderly _ (setPpu_orderly _ h))
  all_goals exact h

theorem restartEvent_orderly (h : d.Orderly e) : d.Orderly (restartEvent e) :=
  .ite (fun _ => riseUp_orderly (setPpu_orderly _ h)) fun _ => h

theorem shortPressEvent_orderly (h : d.Orderly e) : d.Orderly (shortPressEvent e) := by
  unfold shortPressEvent
  refine .ite (fun _ => h) fun _ => ?_
  dsimp only
  split
  · exact raise_orderly _ (setPpu_orderly _ (setPins_orderly _ h))
  case h_5 | h_6 => exact setPpu_orderly _ (setPins_orderly _ h)
  all_goals exact offerWake_orderly _ (setPpu_orderly _ (setPins_orderly _ h))

theorem overrideEvent_orderly (h : d.Orderly e) : d.Orderly (overrideEvent e) :=
  .ite (fun _ => forcedOff_orderly _ (setPpu_orderly _ h)) fun _ => h

theorem wakeLineEvent_orderly (h : d.Orderly e) : d.Orderly (wakeLineEvent e) :=
  .ite (fun _ => h) fun _ => offerWake_orderly _ (setWku_orderly _ (setPins_orderly _ h))

theorem batteryGraceEvent_orderly (h : d.Orderly e) : d.Orderly (batteryGraceEvent e) :=
  .ite (fun _ => forcedOff_orderly _ (setChg_orderly _ h)) fun _ => h

theorem criticalGraceEvent_orderly (h : d.Orderly e) : d.Orderly (criticalGraceEvent e) :=
  .ite (fun _ => forcedOff_orderly _ (setTfu_orderly _ h)) fun _ => h

theorem adapterEvent_orderly (b : Bool) (c : BitVec 4) (h : d.Orderly e) : d.Orderly (adapterEvent b c e) :=
  .ite (fun _ => h) fun _ => batteryWatch_orderly (allocateAndWrite_orderly (offerWake_orderly _
    (raise_orderly _ (setChg_orderly _ (setPpu_orderly _ (setPins_orderly _ h))))))

/-! ### The events of the packs, of the CHG and of the TFU -/

theorem enterCommLost_orderly (k : Pack) (h : d.Orderly e) : d.Orderly (enterCommLost k e) :=
  raise_orderly _ (batteryWatch_orderly (packGone_orderly k false (setMon_orderly k _ h)))

theorem abortCycle_orderly (k : Pack) (h : d.Orderly e) : d.Orderly (abortCycle k e) :=
  .ite (fun _ => enterCommLost_orderly k (setMon_orderly k _ h)) fun _ => setMon_orderly k _ h

theorem enterUnsupported_orderly (k : Pack) (h : d.Orderly e) : d.Orderly (enterUnsupported k e) :=
  raise_orderly _ (setTfu_orderly _ (setMon_orderly k _ h))

theorem commitSample_orderly (k : Pack) (h : d.Orderly e) : d.Orderly (commitSample k e) := by
  have hw := batteryWatch_orderly (sampleComplete_orderly k (setTfu_orderly
    { e.tfu with
      pack := e.tfu.pack.set k.ix (some (wholeDegrees (stagedTelemetry (e.mon k).staged).temperature)) }
    (setMon_orderly k { (e.mon k).endCycle with
      record := (e.mon k).record.commit (stagedTelemetry (e.mon k).staged)
      ageTick := some (Timer.ofMs Config.ageTickMs) } h)))
  exact .ite (fun _ => raise_orderly _ hw) fun _ => hw

theorem issueItem_orderly (k : Pack) (c : Cycle) (h : d.Orderly e) : d.Orderly (issueItem k c e) := by
  have hs (t : Txn) (f : Dev) (hf : d.Orderly f) : d.Orderly (submit (segOf k) t f).1 := hf.frame (by simp)
  unfold issueItem
  dsimp only
  split
  · exact setMon_orderly k _ (hs _ _ (setMon_orderly k _ h))
  · exact setMon_orderly k _ (hs _ _ (setMon_orderly k _ h))
  · exact abortCycle_orderly k (hs _ _ (setMon_orderly k _ h))

theorem beginCycle_orderly (k : Pack) (c : CycleKind) (h : d.Orderly e) : d.Orderly (beginCycle k c e) :=
  issueItem_orderly k _ (setMon_orderly k _ h)

theorem finishCycle_orderly (k : Pack) (c : CycleKind) (h : d.Orderly e) : d.Orderly (finishCycle k c e) := by
  cases c
  case identify =>
    exact .ite (fun _ => beginCycle_orderly k .poll (setMon_orderly k _ h)) fun _ =>
      enterUnsupported_orderly k h
  case poll => exact commitSample_orderly k h

theorem itemRead_orderly (k : Pack) (c : Cycle) (data : List Byte) (h : d.Orderly e) :
    d.Orderly (itemRead k c data e) :=
  .ite (fun _ => issueItem_orderly k _ (setMon_orderly k _ h)) fun _ =>
    finishCycle_orderly k _ (setMon_orderly k _ h)

theorem packCompleted_orderly (k : Pack) (c : Completion) (h : d.Orderly e) :
    d.Orderly (packCompleted k c e) := by
  have hf (x : PackMonitor) : d.Orderly (e.setMon k x) := setMon_orderly k x h
  unfold packCompleted
  refine .ite (fun _ => .ite (fun _ => beginCycle_orderly k .identify (hf _)) fun _ => hf _) fun _ => ?_
  dsimp only
  split
  · exact hf _
  · split
    · exact itemRead_orderly k _ _ (hf _)
    · exact setMon_orderly k _ (hf _)
    all_goals exact .ite (fun _ => abortCycle_orderly k (hf _)) fun _ => issueItem_orderly k _ (hf _)

theorem presenceEvent_orderly (k : Pack) (h : d.Orderly e) : d.Orderly (presenceEvent k e) :=
  .ite (fun _ => h) fun _ =>
    .ite (fun _ => raise_orderly _ (setMon_orderly k _ (setPins_orderly _ h))) fun _ =>
      beginCycle_orderly k .identify (raise_orderly _ (setMon_orderly k _ (setPins_orderly _ h)))

theorem removalEvent_orderly (k : Pack) (h : d.Orderly e) : d.Orderly (removalEvent k e) :=
  .ite (fun _ => raise_orderly _ (batteryWatch_orderly (packGone_orderly k true
    (setTfu_orderly _ (setMon_orderly k _ (setPins_orderly _ h)))))) fun _ => h

theorem pollEvent_orderly (k : Pack) (h : d.Orderly e) : d.Orderly (pollEvent k e) := by
  unfold pollEvent
  split
  · exact h
  · exact .ite (fun _ => beginCycle_orderly k _ (setMon_orderly k _ h)) fun _ => setMon_orderly k _ h

theorem allocationEvent_orderly (h : d.Orderly e) : d.Orderly (allocationEvent e) := by
  unfold allocationEvent
  split
  · exact h
  · exact .ite (fun _ => issueInput_orderly _ _ (setChg_orderly _ h)) fun _ => setChg_orderly _ h

theorem fastChargeEvent_orderly (k : Pack) (h : d.Orderly e) : d.Orderly (fastChargeEvent k e) :=
  .ite (fun _ => changeStage_orderly k .fault h) fun _ => h

theorem refreshEvent_orderly (h : d.Orderly e) : d.Orderly (refreshEvent e) := by
  unfold refreshEvent
  split
  · exact h
  · exact startPasses_orderly _ _ (setChg_orderly _ h)

theorem skinFailed_orderly (h : d.Orderly e) : d.Orderly (skinFailed e) :=
  .ite (fun _ => criticalWatch_orderly (evalZone_orderly (raise_orderly _
    (setTfu_orderly _ (setTfu_orderly _ h))))) fun _ => setTfu_orderly _ h

theorem skinCompleted_orderly (c : Completion) (h : d.Orderly e) : d.Orderly (skinCompleted c e) := by
  cases c
  case ok => exact criticalWatch_orderly (evalZone_orderly (setTfu_orderly _ h))
  all_goals exact skinFailed_orderly h

theorem skinTimerEvent_orderly (h : d.Orderly e) : d.Orderly (skinTimerEvent e) := by
  have hs (t : Txn) (x : Tfu) : d.Orderly (submit .seg1 t (e.setTfu x)).1 := h.frame (by simp)
  unfold skinTimerEvent
  split
  · exact h
  · refine .ite (fun _ => setTfu_orderly _ h) fun _ => ?_
    dsimp only
    split
    · exact setTfu_orderly _ (hs _ _)
    · exact skinFailed_orderly (hs _ _)

theorem hostTimeoutEvent_orderly (h : d.Orderly e) : d.Orderly (hostTimeoutEvent e) := by
  unfold hostTimeoutEvent
  split
  · exact criticalWatch_orderly (raise_orderly _ (setTfu_orderly _ h))
  all_goals exact h

theorem takeTempReport_orderly (p : List Byte) (h : d.Orderly e) : d.Orderly (takeTempReport p e) :=
  .ite (fun _ => criticalWatch_orderly (setTfu_orderly _ h)) fun _ => h

/-! ### The events of the segments -/

theorem deliver_orderly (g : Seg) (t : Txn) (c : Completion) (h : d.Orderly e) :
    d.Orderly (deliver g t c e) := by
  unfold deliver
  split
  · exact chargerCompleted_orderly _ c h
  · exact packCompleted_orderly _ c h
  · exact inputCompleted_orderly c h
  · exact skinCompleted_orderly c h
  · exact h.frame (by simp)

theorem setSeg_orderly (g : Seg) (x : Segment) (h : d.Orderly e) : d.Orderly (e.setSeg g x) :=
  h.frame (by simp)

theorem arbitrate_orderly (g : Seg) (h : d.Orderly e) : d.Orderly (arbitrate g e) := h.frame (by simp)

theorem finishTxn_orderly (g : Seg) (t : Txn) (c : Completion) (h : d.Orderly e) :
    d.Orderly (finishTxn g t c e) :=
  arbitrate_orderly g (setSeg_orderly g _ (deliver_orderly g t c (setSeg_orderly g _ (setPins_orderly _ h))))

theorem timeoutTxn_orderly (g : Seg) (t : Txn) (h : d.Orderly e) : d.Orderly (timeoutTxn g t e) :=
  deliver_orderly g t .timeout (setSeg_orderly g _ (h.frame (f := showStretch g e) (by simp)))

theorem endTxn_orderly (g : Seg) (t : Txn) (x : BusEnd) (h : d.Orderly e) : d.Orderly (endTxn g t x e) := by
  cases x
  case ok => exact .ite (fun _ => finishTxn_orderly g t _ h) fun _ => h
  case timeout => exact timeoutTxn_orderly g t h
  all_goals exact finishTxn_orderly g t _ h

theorem transactionEvent_orderly (g : Seg) (x : BusEnd) (h : d.Orderly e) :
    d.Orderly (transactionEvent g x e) := by
  unfold transactionEvent
  split
  · exact h
  · exact .ite (fun _ => endTxn_orderly g _ x h) fun _ => h

theorem completionFor_orderly (g : Seg) (who : Requester) (x : BusEnd) (h : d.Orderly e) :
    d.Orderly (completionFor g who x e) := by
  unfold completionFor
  split
  · exact h
  · exact .ite (fun _ => endTxn_orderly g _ x h) fun _ => h

theorem stretchEvent_orderly (g : Seg) (h : d.Orderly e) : d.Orderly (stretchEvent g e) := by
  unfold stretchEvent
  split
  · exact h
  · exact timeoutTxn_orderly g _ h

theorem deliverAll_orderly (g : Seg) (c : Completion) (q : List Txn) (h : d.Orderly e) :
    d.Orderly (deliverAll g c q e) := by
  induction q generalizing e with
  | nil => exact h
  | cons t q ih => exact ih (deliver_orderly g t c h)

theorem stopSequence_orderly (g : Seg) (st : Status) (h : d.Orderly e) : d.Orderly (stopSequence g st e) :=
  h.frame (by simp)

theorem enterFault_orderly (g : Seg) (h : d.Orderly e) : d.Orderly (enterFault g e) :=
  raise_orderly _ (stopSequence_orderly g _ (deliverAll_orderly g _ _ (setSeg_orderly g _ h)))

theorem recovered_orderly (g : Seg) (h : d.Orderly e) : d.Orderly (recovered g e) :=
  arbitrate_orderly g (setSeg_orderly g _ (.ite (fun _ => raise_orderly _ (setSeg_orderly g _ h)) fun _ =>
    setSeg_orderly g _ h))

theorem recoveryEvent_orderly (g : Seg) (b : Bool) (h : d.Orderly e) : d.Orderly (recoveryEvent g b e) :=
  .ite (fun _ => .ite (fun _ => recovered_orderly g (setPins_orderly _ h)) fun _ =>
    enterFault_orderly g (setPins_orderly _ h)) fun _ => h

theorem enterHeld_orderly (g : Seg) (h : d.Orderly e) : d.Orderly (enterHeld g e) :=
  allocateAndWrite_orderly (stopSequence_orderly g _ (deliverAll_orderly g _ _ (setSeg_orderly g _ h)))

theorem sequenceIdleEvent_orderly (g : Seg) (h : d.Orderly e) : d.Orderly (sequenceIdleEvent g e) := by
  unfold sequenceIdleEvent
  split
  · exact arbitrate_orderly g (raise_orderly _ (setSeg_orderly g _ h))
  all_goals exact h

end
end Sys2Proof.Machine

namespace Sys2Proof.Machine

/-! ## The KTU's queues at work -/

/-- The KTU's records, held codes and key reports within their places (R25, R26, R34). -/
structure Ktu.InPlace (u : Ktu) : Prop where
  pressed : u.recs.length = 148
  held : u.held.length ≤ 16
  reports : u.queue.length ≤ 32

namespace Ktu

theorem full_eq_false (u : Ktu) : u.full = false ↔ u.queue.length < 32 := by
  rw [Ktu.full, decide_eq_false_iff_not, Nat.not_le]; rfl

theorem InPlace.setRec {u : Ktu} (h : u.InPlace) (p : Nat) (r : Option KeyRec) : (u.setRec p r).InPlace :=
  ⟨by simpa [Ktu.setRec] using h.pressed, h.held, h.reports⟩

/-- A report made while the queue has room. -/
theorem InPlace.report {u : Ktu} (h : u.InPlace) (hq : u.queue.length < 32) (c : Nat) (r s : Bool) :
    (u.report c r s).InPlace :=
  ⟨h.pressed, h.held, by simpa [Ktu.report] using hq⟩

/-- A press of a code reports, at most, a code that is not held yet (R26, R27). -/
theorem InPlace.pressCode {u : Ktu} (h : u.InPlace) (p c : Nat) (s : Bool)
    (hq : u.wouldReport c = true → u.queue.length < 32) : (u.pressCode p c s).InPlace := by
  unfold Ktu.pressCode
  split
  · exact ⟨(h.setRec p _).pressed, by simpa using h.held, h.reports⟩
  · split
    · rename_i hn hl
      refine InPlace.report (u := { u.setRec p _ with held := u.held ++ [(c, 1)] })
        ⟨(h.setRec p _).pressed, by simpa [Config.heldSize] using hl, h.reports⟩ (hq ?_) _ _ _
      simp [Ktu.wouldReport, hn, hl]
    · exact ⟨(h.setRec p _).pressed, h.held, h.reports⟩

/-- A release of a code makes one report at most (R26). -/
theorem InPlace.releaseCode {u : Ktu} (h : u.InPlace) (hq : u.queue.length < 32) (c : Nat) (s : Bool) :
    (u.releaseCode c s).InPlace := by
  unfold Ktu.releaseCode
  split
  · exact InPlace.report (u := { u with held := u.held.filter fun h => h.1 != c })
      ⟨h.pressed, (List.length_filter_le ..).trans h.held, h.reports⟩ hq _ _ _
  · exact ⟨h.pressed, by simpa using h.held, h.reports⟩

theorem InPlace.setRecs {u : Ktu} (h : u.InPlace) (ps : List Nat) (r : Option KeyRec) :
    (ps.foldl (fun u p => u.setRec p r) u).InPlace := by
  induction ps generalizing u with
  | nil => exact h
  | cons p ps ih => exact ih (h.setRec p r)

end Ktu

section
variable {d e : Dev}

/-- With the link UP a KTU within its places is orderly. -/
theorem setKtu_orderly_up {x : Ktu} (h : d.Orderly e) (hl : e.pli.linkUp = true)
    (hx : e.ktu.InPlace → x.InPlace) : d.Orderly (e.setKtu x) :=
  setKtu_orderly h fun y =>
    have hp := hx ⟨y.pressed, y.held, y.reports⟩
    ⟨hp.pressed, hp.held, hp.reports, fun z => by simp [hl] at z⟩

/-- A KTU that replaces one record keeps its queues. -/
theorem setRec_orderly (p : Nat) (r : Option KeyRec) (h : d.Orderly e) :
    d.Orderly (e.setKtu (e.ktu.setRec p r)) :=
  setKtu_orderly_of_same h (by simp [Ktu.setRec]) rfl rfl rfl

theorem setTst_orderly (x : Tst) (h : d.Orderly e) : d.Orderly (e.setTst x) := h.frame (by simp)

theorem setStream_orderly (i : StreamId) (x : Stream) (h : d.Orderly e) : d.Orderly (e.setStream i x) :=
  h.frame (by simp)

/-! ### Changes taken with the link UP -/

theorem batteryReport_orderly (h : d.Orderly e) : d.Orderly (batteryReport e) := setStream_orderly _ _ h

theorem streamEvent_orderly (i : StreamId) (h : d.Orderly e) : d.Orderly (streamEvent i e) :=
  .ite (fun _ => setStream_orderly i _ (setStream_orderly i _ h)) fun _ => h

theorem switchChanged_orderly (x : Switch) (h : d.Orderly e) : d.Orderly (switchChanged x e) := by
  cases x
  case ceiling => exact allocateAndWrite_orderly h
  case boost => exact h
  case fnLock => exact relayer_orderly h

theorem toggleAction_orderly (x : Switch) (h : d.Orderly e) : d.Orderly (toggleAction x e) :=
  .ite (fun _ => raise_orderly _ h) fun _ =>
    switchChanged_orderly x (raise_orderly _ (setTst_orderly _ h))

theorem performAction_orderly (n : Nat) (h : d.Orderly e) : d.Orderly (performAction n e) := by
  unfold performAction
  split
  case h_4 => exact raise_orderly _ h
  case h_5 => exact batteryReport_orderly h
  case h_6 => exact h
  all_goals exact toggleAction_orderly _ h

theorem pressUsed_orderly (p : Nat) (u : Used) (s : Bool) (h : d.Orderly e) (hl : e.pli.linkUp = true)
    (hq : ∀ c, u = .code c → e.ktu.wouldReport c = true → e.ktu.queue.length < 32) :
    d.Orderly (pressUsed p u s e) := by
  cases u
  case code c => exact setKtu_orderly_up h hl fun y => y.pressCode p c s (hq c rfl)
  case fn => exact relayer_orderly (setRec_orderly p _ h)
  all_goals exact setRec_orderly p _ h

theorem pressUp_orderly (p : Nat) (h : d.Orderly e) (hl : e.pli.linkUp = true)
    (hq : e.ktu.queue.length < 32) : d.Orderly (pressUp p e) := by
  unfold pressUp
  split
  · exact h
  · refine .ite (fun _ => setRec_orderly p _ h) fun _ => ?_
    have hp := pressUsed_orderly p (e.lookupActive p) false h hl fun _ _ _ => hq
    dsimp only
    split
    · exact performAction_orderly _ hp
    all_goals exact hp

theorem releaseUp_orderly (p : Nat) (s : Bool) (h : d.Orderly e) (hl : e.pli.linkUp = true)
    (hq : e.ktu.queue.length < 32) : d.Orderly (releaseUp p s e) := by
  unfold releaseUp
  split
  · exact h
  · refine relayer_orderly (setKtu_orderly_up h hl fun y => Ktu.InPlace.setRec ?_ p none)
    split
    · exact y.releaseCode hq _ s
    · exact y

/-! ### The restatement -/

theorem setRestate_orderly (r : Restatement) (h : d.Orderly e) (hl : e.pli.linkUp = true) :
    d.Orderly (setRestate r e) :=
  setKtu_orderly_up h hl fun y => ⟨y.pressed, y.held, y.reports⟩

theorem restateLayer_orderly (h : d.Orderly e) (hl : e.pli.linkUp = true) : d.Orderly (restateLayer e) :=
  relayer_orderly (setKtu_orderly_up
    (relayer_orderly (setKtu_orderly_up h hl fun y => ⟨by simpa using y.pressed, Nat.zero_le _, y.reports⟩))
    hl fun y => y.setRecs _ _)

theorem visit_orderly (p : Nat) (h : d.Orderly e) (hl : e.pli.linkUp = true) : d.Orderly (visit p e) := by
  have hu (hq : ∀ c, e.lookupActive p = .code c → e.ktu.wouldReport c = true → e.ktu.queue.length < 32) :
      d.Orderly (setRestate (.pressing (p + 1)) (pressUsed p (e.lookupActive p) true e)) :=
    setRestate_orderly _ (pressUsed_orderly p _ true h hl hq) (by simpa using hl)
  unfold visit
  refine .ite (fun _ => ?_) fun _ => setRestate_orderly _ h hl
  dsimp only
  split
  · rename_i c hc
    refine .ite (fun _ => setRestate_orderly _ h hl) fun hn => hc ▸ hu fun x hx hr => ?_
    obtain rfl : c = x := by simpa [hc] using hx
    simpa [hr, Ktu.full_eq_false] using hn
  all_goals
    rename_i hc
    exact hc ▸ hu fun x hx => by simp [hc] at hx

theorem restateMove_orderly (h : d.Orderly e) (hl : e.pli.linkUp = true) : d.Orderly (restateMove e).1 := by
  unfold restateMove
  split
  · exact h
  · split
    · exact restateLayer_orderly h hl
    · split
      · exact h
      · rename_i hf
        exact setRestate_orderly _ (setKtu_orderly_up h hl fun y =>
          y.report (e.ktu.full_eq_false.mp (by simpa using hf)) _ _ _) hl
  · split
    · exact visit_orderly _ h hl
    · exact setRestate_orderly _ h hl
  · split
    · exact h
    · rename_i hf
      exact setRestate_orderly _ (setKtu_orderly_up h hl fun y =>
        y.pressCode _ _ _ fun _ => e.ktu.full_eq_false.mp (by simpa using hf)) hl

theorem restateRun_orderly (n : Nat) (h : d.Orderly e) (hl : e.pli.linkUp = true) :
    d.Orderly (restateRun n e) := by
  induction n generalizing e with
  | zero => exact h
  | succ n ih =>
    have hm := restateMove_orderly h hl
    exact .ite (fun _ => ih hm (by simpa using hl)) fun _ => hm

theorem beginRestatement_orderly (h : d.Orderly e) (hl : e.pli.linkUp = true) :
    d.Orderly (beginRestatement e) :=
  restateRun_orderly _ (setRestate_orderly _ h hl) hl

/-! ### Changes taken with the link DOWN -/

theorem swallowPress_orderly (p : Nat) (h : d.Orderly e) : d.Orderly (swallowPress p e) :=
  setRec_orderly p _ h

theorem slotPress_orderly (p c : Nat) (h : d.Orderly e) : d.Orderly (slotPress p c e) :=
  setKtu_orderly_of_same h (by simp [Ktu.setRec]) rfl rfl rfl

theorem pressDown_orderly (p : Nat) (h : d.Orderly e) : d.Orderly (pressDown p e) := by
  unfold pressDown
  split
  · exact h
  · refine .ite (fun _ => offerWake_orderly _ ?_) fun _ => swallowPress_orderly p h
    split
    · exact slotPress_orderly p _ h
    · exact swallowPress_orderly p h

theorem markReleased_orderly (s : Bool) (h : d.Orderly e) : d.Orderly (markReleased s e) :=
  setKtu_orderly_of_same h rfl rfl rfl rfl

theorem releaseDown_orderly (p : Nat) (s : Bool) (h : d.Orderly e) : d.Orderly (releaseDown p s e) := by
  unfold releaseDown
  split
  · exact h
  · exact .ite (fun _ => markReleased_orderly s h) fun _ => setRec_orderly p _ h

theorem resyncDown_orderly (h : d.Orderly e) : d.Orderly (resyncDown e) := by
  have hr : d.Orderly (e.setKtu { e.ktu with
      recs := e.ktu.recs.zipIdx.map fun x => resyncRec e.mse x.2 x.1 }) :=
    setKtu_orderly_of_same h (by simp) rfl rfl rfl
  unfold resyncDown
  dsimp only
  split
  · exact hr
  · exact .ite (fun _ => hr) fun _ => markReleased_orderly false hr

/-! ### The head of the raw event queue -/

/-- The head taken leaves a place free, which a RESYNC takes when the overrun mark is set (R12). -/
theorem removeRaw_orderly (h : d.Orderly e) : d.Orderly (removeRaw e) := by
  refine .ite (fun ho => raise_orderly _ (setMse_orderly h fun y => ⟨y.positions, ?_, fun x => by simp at x⟩))
    fun ho => setMse_orderly h fun y => ⟨y.positions, ?_, fun x => absurd x ho⟩
  · have := y.overrun ho
    simp only [List.length_append, List.length_tail, List.length_singleton]
    omega
  · exact (List.length_tail ▸ Nat.sub_le _ _).trans y.raw

theorem takeEntry_orderly (x : RawEntry) (h : d.Orderly e)
    (hq : e.pli.linkUp = true → e.ktu.queue.length < 32) : d.Orderly (takeEntry x e) := by
  unfold takeEntry
  split
  · exact pressUp_orderly _ h ‹_› (hq ‹_›)
  · exact releaseUp_orderly _ _ h ‹_› (hq ‹_›)
  · exact beginRestatement_orderly h ‹_›
  · exact pressDown_orderly _ h
  · exact releaseDown_orderly _ _ h
  · exact resyncDown_orderly h

theorem takeRawEvent_orderly (h : d.Orderly e) : d.Orderly (takeRawEvent e) := by
  unfold takeRawEvent
  split
  · exact h
  · refine .ite (fun hm => takeEntry_orderly _ (removeRaw_orderly h) fun hl => ?_) fun _ => h
    rw [(removeRaw_frame e).2.2.2.1]
    have hl : e.pli.linkUp = true := by simpa using hl
    simp only [Dev.mayTakeRaw, hl, Bool.not_true, Bool.false_or, Bool.and_eq_true, Bool.not_eq_true'] at hm
    exact e.ktu.full_eq_false.mp hm.2

end

/-- A restatement runs with the link UP alone (R38), so it goes on in order. -/
theorem resumeEvent_orderly {d : Dev} (h : d.KeysInv) : d.Orderly (resumeEvent d) := by
  have hl : d.ktu.restate ≠ .idle → d.pli.linkUp = true := fun hn =>
    Bool.eq_true_of_not_eq_false fun hc => hn (h.down hc).2.2
  unfold resumeEvent
  split
  · exact .refl d
  all_goals
    rename_i hr
    exact restateRun_orderly _ (.refl d) (hl (by simp [hr]))

end Sys2Proof.Machine

namespace Sys2Proof.Machine

/-! ## Requests, frames and resets -/

/-- The queues keep to their places; a summary read and a platform reset empty the pending summary (R174, R191), so
these are not orderly. -/
structure Dev.Keeps (d e : Dev) : Prop where
  notices : d.NoticeInv → e.NoticeInv
  keys : d.KeysInv → e.KeysInv

theorem Dev.Orderly.keeps {d e : Dev} (h : d.Orderly e) : d.Keeps e := ⟨h.notices, h.keys⟩

theorem Dev.Keeps.trans {d e f : Dev} (h : d.Keeps e) (k : e.Keeps f) : d.Keeps f :=
  ⟨fun x => k.notices (h.notices x), fun x => k.keys (h.keys x)⟩

theorem Dev.Keeps.orderly {d e f : Dev} (h : d.Keeps e) (k : e.Orderly f) : d.Keeps f := h.trans k.keeps

section
variable {d e : Dev}

theorem answerWith_orderly (i : Nat) (r : Response) (h : d.Orderly e) : d.Orderly (answerWith i r e) :=
  h.frame (by simp)

theorem answer_orderly (i : Nat) (r : Status) (h : d.Orderly e) : d.Orderly (answer i r e) :=
  answerWith_orderly i _ h

theorem answerData_orderly (i : Nat) (b : List Byte) (h : d.Orderly e) : d.Orderly (answerData i b e) :=
  answerWith_orderly i _ h

theorem badRequest_orderly (i : Nat) (h : d.Orderly e) : d.Orderly (badRequest i e) := answer_orderly i _ h

/-! ### The keyboard, the tables and the wakes -/

theorem reqKeyResync_orderly (p : List Byte) (i : Nat) (h : d.Orderly e) (hl : e.pli.linkUp = true) :
    d.Orderly (reqKeyResync p i e) :=
  .ite (fun _ => badRequest_orderly i h) fun _ =>
    .ite (fun _ => beginRestatement_orderly (answer_orderly i _ h) (by simpa using hl)) fun _ =>
      answer_orderly i _ h

theorem reqTableRead_orderly (p : List Byte) (i : Nat) (h : d.Orderly e) :
    d.Orderly (reqTableRead p i e) := by
  unfold reqTableRead
  split
  · exact badRequest_orderly i h
  · exact .ite (fun _ => answerData_orderly i _ (setTst_orderly _ h)) fun _ => badRequest_orderly i h

theorem fancurveWritten_orderly (f : Fan) (h : d.Orderly e) : d.Orderly (fancurveWritten f e) :=
  .ite (fun _ => setFan_orderly f _ h) fun _ => h

theorem settingsWritten_orderly (old : SettingsTab) (h : d.Orderly e) :
    d.Orderly (settingsWritten old e) :=
  have ha : d.Orderly (if old.ceilingEnable != e.tst.settings.ceilingEnable ||
      old.ceiling != e.tst.settings.ceiling then allocateAndWrite e else e) :=
    .ite (fun _ => allocateAndWrite_orderly h) fun _ => h
  .ite (fun _ => relayer_orderly ha) fun _ => ha

theorem handOn_orderly (t : TableId) (first count : Nat) (old : SettingsTab) (h : d.Orderly e) :
    d.Orderly (handOn t first count old e) := by
  cases t
  case scan | wake => exact mseRetime_orderly h
  case keymap | itemmap | filter => exact h
  case profile => exact checkFastCharge_orderly .b (checkFastCharge_orderly .a (allocateAndWrite_orderly h))
  case power =>
    exact allocateAndWrite_orderly (setChg_orderly _ (setChg_orderly _ (setPkm_orderly _ h)))
  case adapter => exact allocateAndWrite_orderly h
  case fancurve =>
    have hf : d.Orderly (if first = 0 then fancurveWritten .fan1 e else e) :=
      .ite (fun _ => fancurveWritten_orderly .fan1 h) fun _ => h
    exact .ite (fun _ => fancurveWritten_orderly .fan2 hf) fun _ => hf
  case thermal => exact criticalWatch_orderly (evalZone_orderly (setTfu_orderly _ h))
  case settings => exact settingsWritten_orderly old h

theorem applyWrite_orderly (t : TableId) (p : List Byte) (i : Nat) (h : d.Orderly e) :
    d.Orderly (applyWrite t p i e) :=
  answerWith_orderly i _ (handOn_orderly t _ _ _ (setTst_orderly _ h))

theorem reqTableWrite_orderly (p : List Byte) (i : Nat) (h : d.Orderly e) :
    d.Orderly (reqTableWrite p i e) := by
  unfold reqTableWrite
  split
  · exact badRequest_orderly i h
  · exact .ite (fun _ => badRequest_orderly i h) fun _ => .ite (fun _ => answer_orderly i _ h) fun _ =>
      applyWrite_orderly _ p i h

theorem reqTableWriteCond_orderly (p : List Byte) (i : Nat) (h : d.Orderly e) :
    d.Orderly (reqTableWriteCond p i e) := by
  unfold reqTableWriteCond
  split
  · exact badRequest_orderly i h
  · have ht : d.Orderly (e.setTst (e.tst.reserve ‹_› false)) := setTst_orderly _ h
    exact .ite (fun _ => badRequest_orderly i ht) fun _ => .ite (fun _ => answer_orderly i _ ht) fun _ =>
      .ite (fun _ => applyWrite_orderly _ p i ht) fun _ => answer_orderly i _ ht

theorem reqTableLock_orderly (p : List Byte) (i : Nat) (h : d.Orderly e) :
    d.Orderly (reqTableLock p i e) :=
  .ite (fun _ => answer_orderly i _ (setTst_orderly _ h)) fun _ => badRequest_orderly i h

theorem reqWakeSet_orderly (p : List Byte) (i : Nat) (h : d.Orderly e) : d.Orderly (reqWakeSet p i e) :=
  .ite (fun _ => .ite (fun _ => answer_orderly i _ h) fun _ =>
    answerWith_orderly i _ (mseRetime_orderly (setTst_orderly _ h))) fun _ => badRequest_orderly i h

theorem reqWakeStatusRead_orderly (p : List Byte) (i : Nat) (h : d.Orderly e) :
    d.Orderly (reqWakeStatusRead p i e) :=
  .ite (fun _ => answerData_orderly i _ h) fun _ => badRequest_orderly i h

theorem reqWakeStatusClear_orderly (p : List Byte) (i : Nat) (h : d.Orderly e) :
    d.Orderly (reqWakeStatusClear p i e) :=
  .ite (fun _ => answer_orderly i _ (setWku_orderly _ h)) fun _ => badRequest_orderly i h

/-! ### The power state, the charge and the segments -/

theorem reqPowerRequest_orderly (p : List Byte) (i : Nat) (h : d.Orderly e) :
    d.Orderly (reqPowerRequest p i e) := by
  unfold reqPowerRequest
  split
  · split
    · exact .ite (fun _ => answer_orderly i _ (setPpu_orderly _ h)) fun _ => answer_orderly i _ h
    · exact badRequest_orderly i h
  · exact badRequest_orderly i h

theorem clearFault_orderly (k : Pack) (h : d.Orderly e) : d.Orderly (clearFault k e) :=
  .ite (fun _ => changeStage_orderly k .none h) fun _ => h

theorem reqChargeClear_orderly (p : List Byte) (i : Nat) (h : d.Orderly e) :
    d.Orderly (reqChargeClear p i e) := by
  unfold reqChargeClear
  split
  · split
    · exact answer_orderly i _ (clearFault_orderly .a h)
    · exact answer_orderly i _ (clearFault_orderly .b h)
    · exact badRequest_orderly i h
  · exact badRequest_orderly i h

theorem holdSegment_orderly (g : Seg) (i : Nat) (h : d.Orderly e) : d.Orderly (holdSegment g i e) :=
  .ite (fun _ => answer_orderly i _ h) fun _ => .ite (fun _ => answer_orderly i _ h) fun _ =>
    answer_orderly i _ (enterHeld_orderly g h)

theorem releaseSegment_orderly (g : Seg) (i : Nat) (h : d.Orderly e) :
    d.Orderly (releaseSegment g i e) := by
  unfold releaseSegment
  split
  · exact answer_orderly i _ (arbitrate_orderly g (allocateAndWrite_orderly (setSeg_orderly g _ h)))
  · exact answer_orderly i _ (setSeg_orderly g _ h)
  all_goals exact answer_orderly i _ h

theorem reqSegmentReset_orderly (p : List Byte) (i : Nat) (h : d.Orderly e) :
    d.Orderly (reqSegmentReset p i e) := by
  unfold reqSegmentReset
  split
  · split
    · exact holdSegment_orderly _ i h
    · exact releaseSegment_orderly _ i h
    · exact badRequest_orderly i h
  · exact badRequest_orderly i h

theorem reqDrain_orderly (p : List Byte) (i : Nat) (h : d.Orderly e) : d.Orderly (reqDrain p i e) := by
  unfold reqDrain
  split
  · split
    · exact .ite (fun _ => answer_orderly i _ h) fun _ => setSeg_orderly _ _ h
    · exact badRequest_orderly i h
  · exact badRequest_orderly i h

theorem passOn_orderly (g : Seg) (t : Txn) (i : Nat) (h : d.Orderly e) : d.Orderly (passOn g t i e) := by
  unfold passOn
  split
  · exact answer_orderly i _ h
  · exact answer_orderly i _ h
  all_goals exact .ite (fun _ => answer_orderly i _ h) fun _ => h.frame (by simp)

theorem judgePass_orderly (g : Seg) (w : Bool) (a c n : Nat) (b : List Byte) (i : Nat) (h : d.Orderly e) :
    d.Orderly (judgePass g w a c n b i e) := by
  unfold judgePass
  split
  · exact answer_orderly i _ h
  · exact .ite (fun _ => answerWith_orderly i _ h) fun _ => answer_orderly i _ h
  · exact passOn_orderly g _ i h

theorem reqPtRead_orderly (g : Seg) (p : List Byte) (i : Nat) (h : d.Orderly e) :
    d.Orderly (reqPtRead g p i e) := by
  unfold reqPtRead
  split
  · exact .ite (fun _ => judgePass_orderly g _ _ _ _ _ i h) fun _ => badRequest_orderly i h
  · exact badRequest_orderly i h

theorem reqPtWrite_orderly (g : Seg) (p : List Byte) (i : Nat) (h : d.Orderly e) :
    d.Orderly (reqPtWrite g p i e) := by
  unfold reqPtWrite
  split
  · exact .ite (fun _ => judgePass_orderly g _ _ _ _ _ i h) fun _ => badRequest_orderly i h
  · exact badRequest_orderly i h

theorem openSequence_orderly (g : Seg) (i : Nat) (h : d.Orderly e) : d.Orderly (openSequence g i e) := by
  unfold openSequence
  split
  · exact answer_orderly i _ h
  · exact answer_orderly i _ h
  all_goals exact arbitrate_orderly g (setSeg_orderly g _ h)

theorem reqPtSeqOpen_orderly (g : Seg) (p : List Byte) (i : Nat) (h : d.Orderly e) :
    d.Orderly (reqPtSeqOpen g p i e) := by
  unfold reqPtSeqOpen
  refine .ite (fun _ => badRequest_orderly i h) fun _ => ?_
  split
  · exact openSequence_orderly g i h
  all_goals exact answer_orderly i _ h

theorem reqPtSeqClose_orderly (g : Seg) (p : List Byte) (i : Nat) (h : d.Orderly e) :
    d.Orderly (reqPtSeqClose g p i e) := by
  unfold reqPtSeqClose
  refine .ite (fun _ => badRequest_orderly i h) fun _ => ?_
  split
  · exact arbitrate_orderly g (answer_orderly i _ (setSeg_orderly g _ h))
  all_goals exact answer_orderly i _ h

/-! ### The NSU -/

theorem reqIdentify_orderly (p : List Byte) (i : Nat) (h : d.Orderly e) : d.Orderly (reqIdentify p i e) :=
  .ite (fun _ => answerData_orderly i _ h) fun _ => badRequest_orderly i h

theorem reqStreamStart_orderly (p : List Byte) (i : Nat) (h : d.Orderly e) :
    d.Orderly (reqStreamStart p i e) := by
  unfold reqStreamStart
  split
  · exact .ite (fun _ => .ite (fun _ => answer_orderly i _ h) fun _ =>
      answerWith_orderly i _ (setStream_orderly _ _ h)) fun _ => badRequest_orderly i h
  · exact badRequest_orderly i h

theorem reqStreamStop_orderly (p : List Byte) (i : Nat) (h : d.Orderly e) :
    d.Orderly (reqStreamStop p i e) := by
  unfold reqStreamStop
  split
  · split
    · exact answer_orderly i _ (setStream_orderly _ _ h)
    · exact badRequest_orderly i h
  · exact badRequest_orderly i h

/-- A summary read empties the pending summary alone (R191). -/
theorem readSummary_keeps (i : Nat) (h : d.Orderly e) : d.Keeps (readSummary i e) :=
  h.keeps.trans ⟨fun x => x, fun x => x.congr rfl rfl (by simp [readSummary])⟩

theorem reqStatusRead_keeps (p : List Byte) (i : Nat) (h : d.Orderly e) : d.Keeps (reqStatusRead p i e) := by
  unfold reqStatusRead
  split
  · split
    case h_4 => exact readSummary_keeps i h
    case h_5 => exact (badRequest_orderly i h).keeps
    all_goals exact (answerData_orderly i _ h).keeps
  · exact (badRequest_orderly i h).keeps

/-! ### The receive queue -/

theorem setPli_orderly {x : Pli} (h : d.Orderly e) (hx : x.linkUp = e.pli.linkUp := by rfl) :
    d.Orderly (e.setPli x) := h.frame ⟨rfl, rfl, rfl, rfl, hx⟩

theorem answerControl_keeps (k : Nat) (p : List Byte) (i : Nat) (h : d.Orderly e)
    (hl : e.pli.linkUp = true) : d.Keeps (answerControl k p i e) := by
  unfold answerControl
  split
  · exact (reqIdentify_orderly p i h).keeps
  · exact (reqTableRead_orderly p i h).keeps
  · exact (reqTableWrite_orderly p i h).keeps
  · exact (reqTableWriteCond_orderly p i h).keeps
  · exact (reqTableLock_orderly p i h).keeps
  · exact (reqWakeSet_orderly p i h).keeps
  · exact (reqWakeStatusRead_orderly p i h).keeps
  · exact (reqWakeStatusClear_orderly p i h).keeps
  · exact (reqPowerRequest_orderly p i h).keeps
  · exact (reqChargeClear_orderly p i h).keeps
  · exact (reqStreamStart_orderly p i h).keeps
  · exact (reqStreamStop_orderly p i h).keeps
  · exact reqStatusRead_keeps p i h
  · exact (reqSegmentReset_orderly p i h).keeps
  · exact (reqDrain_orderly p i h).keeps
  · exact (reqKeyResync_orderly p i h hl).keeps
  · exact (answer_orderly i _ h).keeps

theorem answerPass_orderly (g : Seg) (k : Nat) (p : List Byte) (i : Nat) (h : d.Orderly e) :
    d.Orderly (answerPass g k p i e) := by
  unfold answerPass
  split
  · exact reqPtRead_orderly g p i h
  · exact reqPtWrite_orderly g p i h
  · exact reqPtSeqOpen_orderly g p i h
  · exact reqPtSeqClose_orderly g p i h
  · exact answer_orderly i _ h

theorem answerFrame_keeps (f : Frame) (i : Nat) (h : d.Orderly e) (hl : e.pli.linkUp = true) :
    d.Keeps (answerFrame f i e) := by
  unfold answerFrame
  split
  · exact answerControl_keeps _ _ i h hl
  · exact (answerPass_orderly .seg0 _ _ i h).keeps
  · exact (answerPass_orderly .seg1 _ _ i h).keeps
  · exact (answer_orderly i _ h).keeps

theorem waitBehind_keeps (rest : List Frame) (h : d.Keeps e) : d.Keeps (waitBehind rest e) := by
  unfold waitBehind
  split
  · exact h.orderly (setPli_orderly (.refl e))
  · exact h

theorem takeHead_keeps (h : d.Orderly e) : d.Keeps (takeHead e) := by
  unfold takeHead
  split
  · rename_i hl
    split
    · exact waitBehind_keeps _ (takeTempReport_orderly _ (setPli_orderly h)).keeps
    · split
      · exact h.keeps
      · exact waitBehind_keeps _ (answerFrame_keeps _ _ (setPli_orderly h) hl)
  · exact h.keeps

theorem appendFrame_orderly (f : Frame) (h : d.Orderly e) : d.Orderly (appendFrame f e) :=
  .ite (fun _ => setPli_orderly h) fun _ => raise_orderly _ h

theorem receiveEvent_orderly (b : List Byte) (h : d.Orderly e) : d.Orderly (receiveEvent b e) := by
  unfold receiveEvent
  refine .ite (fun _ => ?_) fun _ => h
  split
  · exact appendFrame_orderly _ h
  · exact raise_orderly _ h

theorem requestEvent_keeps (f : Frame) (h : d.Orderly e) : d.Keeps (requestEvent f e) := by
  unfold requestEvent
  split
  · split
    · exact (raise_orderly _ h).keeps
    · split
      · exact takeHead_keeps (appendFrame_orderly f h)
      · exact (appendFrame_orderly f h).keeps
  · exact h.keeps

/-! ### The transmitter -/

/-- A frame begun takes from the front of a queue at most (R186). -/
theorem beginFrame_keeps (x : TxSource) : d.Keeps (beginFrame x d) := by
  cases x
  case response i => exact (setPli_orderly (.refl d)).keeps
  case key =>
    refine ⟨fun h => h, fun h => ⟨h.positions, h.raw, h.overrun, h.pressed, h.held, ?_, fun hl => ?_⟩⟩
    · exact (List.length_drop ▸ Nat.sub_le _ _).trans h.reports
    · obtain ⟨hq, hh, hr⟩ := h.down hl
      exact ⟨by simp [beginFrame, hq], hh, hr⟩
  case notice =>
    unfold beginFrame
    dsimp only
    split
    · exact (Dev.Orderly.refl d).keeps
    · rename_i hq
      exact ⟨fun h => (List.nodup_cons.mp (by simpa [Dev.NoticeInv, hq] using h)).2,
        fun h => h.congr rfl rfl rfl⟩
  all_goals
    unfold beginFrame
    dsimp only
    split
    · exact (Dev.Orderly.refl d).keeps
    · exact (setPli_orderly (setStream_orderly _ _ (.refl d))).keeps

theorem choiceEvent_keeps (b : Bool) (d : Dev) : d.Keeps (choiceEvent b d) := by
  have hp : d.Keeps (d.setPins { d.pins with txPermit := b }) := (setPins_orderly _ (.refl d)).keeps
  unfold choiceEvent
  dsimp only
  split
  · split
    · exact hp
    · exact hp.trans (beginFrame_keeps _)
  · exact hp

theorem carryOut_orderly (v : PowerReq) (h : d.Orderly e) : d.Orderly (carryOut v e) := by
  cases v
  case sleep => exact enterSleepEntry_orderly (setPpu_orderly _ h)
  case off => exact powerDown_orderly _ (setPpu_orderly _ h)
  case restart => exact powerDown_orderly _ (setPpu_orderly _ (setPpu_orderly _ h))

theorem responseSent_orderly (sl : Slot) (h : d.Orderly e) : d.Orderly (responseSent sl e) := by
  have hf : d.Orderly (if sl.okTo 0 && sl.carriedFlag then e.setPli { e.pli with powerOn := false } else e) :=
    .ite (fun _ => setPli_orderly h) fun _ => h
  unfold responseSent
  dsimp only
  split
  · exact hf
  · exact .ite (fun _ => carryOut_orderly _ hf) fun _ => hf

theorem takeBefore_keeps (n : Nat) (d : Dev) : d.Keeps (takeBefore n d) := by
  induction n generalizing d with
  | zero => exact (Dev.Orderly.refl d).keeps
  | succ n ih =>
    have hd : d.Orderly { d with draws := d.draws + 1 } := (Dev.Orderly.refl d).frame ⟨rfl, rfl, rfl, rfl, rfl⟩
    obtain h | ⟨-, h | h⟩ := takeBefore_cases n d <;> rw [h]
    · exact (Dev.Orderly.refl d).keeps
    · exact hd.keeps
    · exact (takeHead_keeps hd).trans (ih _)

theorem frameSentEvent_keeps (d : Dev) : d.Keeps (frameSentEvent d) := by
  unfold frameSentEvent
  split
  · exact (Dev.Orderly.refl d).keeps
  · dsimp only
    split
    · refine Dev.Keeps.orderly ?_ (responseSent_orderly _ (.refl _))
      split
      · exact (setPli_orderly (setPli_orderly (.refl d))).keeps.trans (takeBefore_keeps _ _)
      · exact (setPli_orderly (setPli_orderly (.refl d))).keeps
    all_goals exact (setPli_orderly (.refl d)).keeps

/-! ### Resets and the passage of time -/

/-- The KTU after a platform reset has no reports, no held codes and no restatement (R41). -/
theorem ktuPlatformReset_keysInv (h : d.KeysInv) (hm : e.mse = d.mse) (hk : e.ktu = d.ktu) :
    (ktuPlatformReset e).KeysInv where
  positions := by simpa [hm] using h.positions
  raw := by simpa [hm] using h.raw
  overrun := by simpa [hm] using h.overrun
  pressed := (List.length_map _).trans (hk ▸ h.pressed)
  held := Nat.zero_le _
  reports := Nat.zero_le _
  down := fun _ => ⟨rfl, rfl, rfl⟩

/-- A platform reset empties the keyboard's queues and the notices (R185). -/
theorem resetAssertEvent_keeps (d : Dev) : d.Keeps (resetAssertEvent d) := by
  unfold resetAssertEvent
  split
  · exact (Dev.Orderly.refl d).keeps
  · exact ⟨fun _ => List.nodup_nil, fun h => ktuPlatformReset_keysInv h (by simp) (by simp)⟩

theorem resetReleaseEvent_orderly (h : d.Orderly e) : d.Orderly (resetReleaseEvent e) :=
  .ite (fun _ => relink_orderly (setPins_orderly _ h)) fun _ => h

theorem powerOnEvent_keeps (b : Profile) (d : Dev) : d.Keeps (powerOnEvent b d) :=
  ⟨fun _ => powerOn_noticeInv { d.pins with straps := b }, fun _ =>
    (powerOn_keysInv { d.pins with straps := b }).congr rfl rfl rfl⟩

theorem tick_orderly (d : Dev) : d.Orderly d.tick :=
  ⟨fun _ h => h, fun h => h, fun h => ⟨h.positions, h.raw, h.overrun, h.pressed, h.held, h.reports, h.down⟩⟩

theorem buttonReleaseEvent_orderly (h : d.Orderly e) : d.Orderly (buttonReleaseEvent e) :=
  .ite (fun _ => setPpu_orderly _ (setPins_orderly _ h)) fun _ => h

theorem wakeLineInactiveEvent_orderly (h : d.Orderly e) : d.Orderly (wakeLineInactiveEvent e) :=
  .ite (fun _ => setWku_orderly _ (setPins_orderly _ h)) fun _ => h

theorem fanUpdateEvent_orderly (f : Fan) (h : d.Orderly e) : d.Orderly (fanUpdateEvent f e) :=
  h.frame (by simp)

theorem tachPulseEvent_orderly (f : Fan) (h : d.Orderly e) : d.Orderly (tachPulseEvent f e) :=
  .ite (fun _ => setFan_orderly f _ h) fun _ => h

theorem ageEvent_orderly (k : Pack) (h : d.Orderly e) : d.Orderly (ageEvent k e) := by
  unfold ageEvent
  split
  · exact h
  · exact setMon_orderly k _ h

end

/-! ## Every step -/

theorem keeps_of_run {s t : State} {f : Dev → Dev} (h : s.run f = .next t) (hf : s.dev.Keeps (f s.dev)) :
    s.dev.Keeps t.dev := by
  cases h
  exact hf

theorem keeps_of_orderly_run {s t : State} {f : Dev → Dev} (h : s.run f = .next t)
    (hf : s.dev.Orderly s.dev → s.dev.Orderly (f s.dev)) : s.dev.Keeps t.dev :=
  keeps_of_run h (hf (.refl _)).keeps

/-- A request command is the arrival of the request's frame, a completion is a transaction's end, and every other
command is one event (R175, R177). -/
theorem exec_keeps (c : Instr) {s t : State} (h : exec c s = .next t) : s.dev.Keeps t.dev := by
  cases c
  case powerOnReset b => exact keeps_of_run h (powerOnEvent_keeps b _)
  case platformResetAssert => exact keeps_of_run h (resetAssertEvent_keeps _)
  case platformResetRelease => exact keeps_of_orderly_run h resetReleaseEvent_orderly
  case scan raw => exact keeps_of_orderly_run h (scanEvent_orderly raw)
  case takeRawEvent => exact keeps_of_orderly_run h takeRawEvent_orderly
  case restatementResume =>
    exact keeps_of_run h ⟨fun x => by simpa [Dev.NoticeInv] using x, fun x => (resumeEvent_orderly x).keys x⟩
  case presenceActive k => exact keeps_of_orderly_run h (presenceEvent_orderly k)
  case packRemoval k => exact keeps_of_orderly_run h (removalEvent_orderly k)
  case pollTimerExpiry k => exact keeps_of_orderly_run h (pollEvent_orderly k)
  case ageTick k => exact keeps_of_orderly_run h (ageEvent_orderly k)
  case packItemCompletion k x => exact keeps_of_orderly_run h (completionFor_orderly _ _ x)
  case inputReadCompletion x => exact keeps_of_orderly_run h (completionFor_orderly _ _ x)
  case chargerWriteCompletion k x => exact keeps_of_orderly_run h (completionFor_orderly _ _ x)
  case skinReadCompletion x => exact keeps_of_orderly_run h (completionFor_orderly _ _ x)
  case adapterPresentAccept b k => exact keeps_of_orderly_run h (adapterEvent_orderly b k)
  case allocationTimerExpiry => exact keeps_of_orderly_run h allocationEvent_orderly
  case fastChargeExpiry k => exact keeps_of_orderly_run h (fastChargeEvent_orderly k)
  case chargerRefreshExpiry => exact keeps_of_orderly_run h refreshEvent_orderly
  case batteryGraceExpiry => exact keeps_of_orderly_run h batteryGraceEvent_orderly
  case hostReportTimeout => exact keeps_of_orderly_run h hostTimeoutEvent_orderly
  case skinReadTimerExpiry => exact keeps_of_orderly_run h skinTimerEvent_orderly
  case criticalGraceExpiry => exact keeps_of_orderly_run h criticalGraceEvent_orderly
  case fanUpdate f => exact keeps_of_orderly_run h (fanUpdateEvent_orderly f)
  case tachPulse f => exact keeps_of_orderly_run h (tachPulseEvent_orderly f)
  case tachWindowEnd f => exact keeps_of_orderly_run h (tachWindowEvent_orderly f)
  case lidFoldAccept x => exact keeps_of_orderly_run h (lidFoldEvent_orderly x)
  case shortPress => exact keeps_of_orderly_run h shortPressEvent_orderly
  case buttonRelease => exact keeps_of_orderly_run h buttonReleaseEvent_orderly
  case overrideExpiry => exact keeps_of_orderly_run h overrideEvent_orderly
  case powerGoodChange b => exact keeps_of_orderly_run h (powerGoodEvent_orderly b)
  case powerUpTimeout => exact keeps_of_orderly_run h powerUpTimeoutEvent_orderly
  case powerDownTimeout => exact keeps_of_orderly_run h powerDownTimeoutEvent_orderly
  case restartTimerExpiry => exact keeps_of_orderly_run h restartEvent_orderly
  case wakeLineAccept => exact keeps_of_orderly_run h wakeLineEvent_orderly
  case wakeLineInactiveAccept => exact keeps_of_orderly_run h wakeLineInactiveEvent_orderly
  case transactionComplete g x => exact keeps_of_orderly_run h (transactionEvent_orderly g x)
  case stretchTimeout g => exact keeps_of_orderly_run h (stretchEvent_orderly g)
  case recoveryEnd g b => exact keeps_of_orderly_run h (recoveryEvent_orderly g b)
  case sequenceIdleExpiry g => exact keeps_of_orderly_run h (sequenceIdleEvent_orderly g)
  case frameReceived b => exact keeps_of_orderly_run h (receiveEvent_orderly b)
  case requestTake => exact keeps_of_run h (takeHead_keeps (.refl _))
  case transmitChoice b => exact keeps_of_run h (choiceEvent_keeps b _)
  case frameSent => exact keeps_of_run h (frameSentEvent_keeps _)
  case streamPeriodExpiry i => exact keeps_of_orderly_run h (streamEvent_orderly i)
  all_goals exact keeps_of_run h (requestEvent_keeps _ (.refl _))

/-- With no command waiting the part takes up a command of its own, or a tick passes (log entry 3). -/
theorem idle_keeps (s : State) : s.dev.Keeps s.idle.dev := by
  unfold State.idle
  split
  · exact (Dev.Orderly.refl _).keeps
  · exact (tick_orderly _).keeps

theorem step_keeps {s t : State} (h : step s = .next t) : s.dev.Keeps t.dev := by
  unfold step at h
  split at h
  · cases h
    exact idle_keeps s
  · rename_i c rest _
    exact exec_keeps c (s := { s with pending := rest }) h

/-! ## A notice raised (R189) -/

/-- With no notice of its class standing, a notice goes to the tail. -/
theorem coalesce_of_none (n : Notice) (q : List Notice) (h : ∀ m ∈ q, m.cls ≠ n.cls) :
    coalesce n q = q ++ [n] := by
  have hn : ¬ (q.any fun m => m.cls == n.cls) = true := by simpa using h
  simp [coalesce, hn]

/-- A notice takes the place of the one of its class that stands. -/
theorem coalesce_of_standing (n m : Notice) (before after : List Notice) (hm : m.cls = n.cls)
    (h : ∀ x ∈ before ++ after, x.cls ≠ n.cls) : coalesce n (before ++ m :: after) = before ++ n :: after := by
  have keep (l : List Notice) (hl : ∀ x ∈ l, x.cls ≠ n.cls) :
      l.map (fun x => if x.cls = n.cls then n else x) = l :=
    (List.map_congr_left fun x hx => by simp [hl x hx]).trans (List.map_id l)
  simp only [List.mem_append] at h
  simp [coalesce, hm, keep before fun x hx => h x (.inl hx), keep after fun x hx => h x (.inr hx)]

/-- Settles O56: the queues keep to their places event by event, each event by the operations that it is made of. -/
theorem stepKeepsQueues : Obligations.StepKeepsQueues := by
  refine ⟨fun s t _ hn hk h => ⟨(step_keeps h).notices hn, (step_keeps h).keys hk⟩, fun n d => rfl,
    fun mask n u => ⟨rfl, fun j _ => ?_, fun hm => ?_, fun hm => ⟨fun h => ?_, fun before m after hq hm' h => ?_⟩⟩⟩
  · simp [Nsu.raise, BitVec.getLsbD_or, BitVec.getLsbD_twoPow, n.cls_lt, eq_comm (a := n.cls)]
  · simp [Nsu.raise, hm]
  · simp [Nsu.raise, hm, coalesce_of_none n u.queue h]
  · simp [Nsu.raise, hm, hq, coalesce_of_standing n m before after hm' h]

end Sys2Proof.Machine

namespace Sys2Proof.Machine

/-! ## What a change of power state makes of the blocks (R116) -/

/-! ### Notices that stand -/

/-- A notice stays in the queue when one of another class is raised (R189). -/
theorem raise_keeps_notice {n m : Notice} {d : Dev} (h : n ∈ d.nsu.queue) (hc : n.cls ≠ m.cls) :
    n ∈ (raise m d).nsu.queue := by
  simp only [raise, setNsu_nsu, Nsu.raise, coalesce]
  split
  · split
    · exact List.mem_map.mpr ⟨n, h, by simp [hc]⟩
    · exact List.mem_append_left _ h
  · exact h

/-- A notice whose class is enabled stands in the queue once it is raised (R189). -/
theorem raise_queues (n : Notice) (d : Dev) (h : d.tst.settings.noticeMask.getLsbD n.cls = true) :
    n ∈ (raise n d).nsu.queue := by
  simp only [raise, setNsu_nsu, Nsu.raise, h, if_true, coalesce]
  split
  · rename_i ha
    obtain ⟨m, hm, hc⟩ := List.any_eq_true.mp ha
    exact List.mem_map.mpr ⟨m, hm, by simp [hc]⟩
  · simp

/-! ### Commanded values and headroom aside, the CHG as it was -/

/-- The CHG less what an allocation and the write passes change: the headroom and the packs (R72, R78). -/
def Chg.core (c : Chg) : Chg := { c with headroom := 0, packs := ⟨ChargePack.reset, ChargePack.reset⟩ }

theorem Chg.core_eq_iff (c e : Chg) :
    e.core = c.core ↔ e = { c with headroom := e.headroom, packs := e.packs } := by
  cases c; cases e
  simp [Chg.core]

/-- The headroom comes from the adapter record, the input sample and the tables (R73). -/
theorem headroom_congr {d e : Dev} (hc : e.chg.core = d.chg.core) (ht : e.tst = d.tst) :
    e.headroom = d.headroom := by
  have hc := (Chg.core_eq_iff _ _).mp hc
  unfold Dev.headroom Dev.systemPower Dev.budget Dev.ratedPower Chg.fallback
  rw [hc, ht]

@[simp] theorem startPass_core (k : Pack) (d : Dev) : (startPass k d).1.chg.core = d.chg.core := by
  unfold startPass issueWrite passDead
  dsimp only
  split
  · split <;> simp [setWriter, setAgain, Chg.core]
  · rfl

@[simp] theorem startPass_headroom (k : Pack) (d : Dev) : (startPass k d).1.chg.headroom = d.chg.headroom := by
  unfold startPass issueWrite passDead
  dsimp only
  split
  · split <;> simp [setWriter, setAgain]
  · rfl

@[simp] theorem faultPack_core (k : Pack) (d : Dev) : (faultPack k d).1.chg.core = d.chg.core := rfl

theorem faultPack_headroom (k : Pack) (d : Dev) : (faultPack k d).1.chg.headroom = d.headroom := rfl

@[simp] theorem startPasses_core (n : Nat) (ks : List Pack) (d : Dev) :
    (startPasses n ks d).chg.core = d.chg.core := by
  induction n generalizing ks d with
  | zero => cases ks <;> rfl
  | succ n ih => cases ks <;> simp only [startPasses]; split <;> simp [ih]

theorem startPasses_headroom (n : Nat) (ks : List Pack) (d : Dev) (h : d.chg.headroom = d.headroom) :
    (startPasses n ks d).chg.headroom = d.headroom := by
  induction n generalizing ks d with
  | zero => cases ks <;> exact h
  | succ n ih =>
    cases ks with
    | nil => exact h
    | cons k ks =>
      have hp : (startPass k d).1.headroom = d.headroom := headroom_congr (by simp) (by simp)
      simp only [startPasses]
      split
      · have hf : (faultPack k (startPass k d).1).1.headroom = d.headroom :=
          (headroom_congr (by simp) (by simp)).trans hp
        exact (ih _ _ ((faultPack_headroom ..).trans (hp.trans hf.symm))).trans hf
      · exact (ih _ _ (by simp [h, hp])).trans hp

theorem startPasses_keeps_notice {n : Notice} (hn : n.cls ≠ 7) (m : Nat) (ks : List Pack) (d : Dev)
    (h : n ∈ d.nsu.queue) : n ∈ (startPasses m ks d).nsu.queue := by
  induction m generalizing ks d with
  | zero => cases ks <;> exact h
  | succ m ih =>
    cases ks with
    | nil => exact h
    | cons k ks =>
      have hp : n ∈ (startPass k d).1.nsu.queue := by simpa using h
      simp only [startPasses]
      split
      · exact ih _ _ (raise_keeps_notice (m := .chargeStage k _ .fault) hp hn)
      · exact ih _ _ hp

@[simp] theorem allocateAndWrite_core (d : Dev) : (allocateAndWrite d).chg.core = d.chg.core :=
  startPasses_core ..

theorem allocateAndWrite_headroom (d : Dev) : (allocateAndWrite d).chg.headroom = d.headroom :=
  startPasses_headroom _ _ (allocate d) rfl

theorem allocateAndWrite_keeps_notice {n : Notice} (hn : n.cls ≠ 7) {d : Dev} (h : n ∈ d.nsu.queue) :
    n ∈ (allocateAndWrite d).nsu.queue :=
  startPasses_keeps_notice hn _ _ (allocate d) h

/-! ### The fans at the entry to OFF (R99, R105) -/

/-- A fitted fan at the entry to OFF: duty 0, the low-duty mark with it, and OK (R99, R103, R105). -/
def FanState.stopped (x : FanState) : FanState :=
  { x with
    duty := 0, fault := false, lowDuty := x.lowDuty || decide (0 < x.stallCheckDuty)
    stallCount := if x.fault then 0 else x.stallCount
    recoveryCount := if x.fault then 0 else x.recoveryCount }

@[simp] theorem fanFitted_congr {d e : Dev} (h : e.profile = d.profile) (f : Fan) :
    e.fanFitted f = d.fanFitted f := by
  cases f
  · rfl
  · exact congrArg Profile.twoFans h

theorem setFittedDuty_fan (f g : Fan) (v : Nat) (d : Dev) : (setFittedDuty f v d).fan g =
    if f = g ∧ d.fanFitted g = true then
      { d.fan g with duty := v, lowDuty := (d.fan g).lowDuty || decide (v < (d.fan g).stallCheckDuty) }
    else d.fan g := by
  unfold setFittedDuty setDuty markLowDuty
  by_cases h : f = g
  · subst h
    cases hf : d.fanFitted f <;> simp
  · cases hf : d.fanFitted f <;> simp [fan_setFan_if, h]

/-- The TFU of a changed fan is that of the fan alone: the allocation that follows leaves it. -/
theorem offRecovery_tfu (f : Fan) (d : Dev) : (offRecovery f d).tfu =
    if d.fanFitted f = true ∧ (d.fan f).fault = true then
      (d.setFan f { d.fan f with fault := false, stallCount := 0, recoveryCount := 0 }).tfu
    else d.tfu := by
  unfold offRecovery fanStateChange
  split <;> simp_all

theorem offRecovery_fan (f g : Fan) (d : Dev) : (offRecovery f d).fan g =
    if f = g ∧ d.fanFitted g = true ∧ (d.fan g).fault = true then
      { d.fan g with fault := false, stallCount := 0, recoveryCount := 0 }
    else d.fan g := by
  have hf : (offRecovery f d).fan g = (d.setTfu (offRecovery f d).tfu).fan g := rfl
  rw [hf, offRecovery_tfu]
  split
  · rename_i h
    have hs (x : FanState) : (d.setTfu (d.setFan f x).tfu).fan g = (d.setFan f x).fan g := rfl
    rw [hs, fan_setFan_if]
    by_cases hg : f = g
    · subst hg; simp [h]
    · simp [hg]
  · rename_i h
    rw [if_neg (by rintro ⟨rfl, hg⟩; exact h hg)]
    rfl

@[simp] theorem offRecovery_core (f : Fan) (d : Dev) : (offRecovery f d).chg.core = d.chg.core := by
  unfold offRecovery fanStateChange
  split <;> simp

@[simp] theorem offRecovery_headroom (f : Fan) (d : Dev) : (offRecovery f d).headroom = d.headroom :=
  headroom_congr (by simp) (by simp)

theorem offRecovery_of_ok {f : Fan} {d : Dev} (h : d.fanFitted f = true → (d.fan f).fault = false) :
    offRecovery f d = d := by
  unfold offRecovery
  split
  · simp_all
  · rfl

/-- A fan in FAULT at the entry to OFF is told, and an allocation runs (R77, R105). -/
theorem offRecovery_of_fault {f : Fan} {d : Dev} (hf : d.fanFitted f = true) (h : (d.fan f).fault = true) :
    (offRecovery f d).Raised 10 ∧ (offRecovery f d).chg.headroom = (offRecovery f d).headroom := by
  have he : offRecovery f d = fanStateChange f false d := by simp [offRecovery, hf, h]
  refine ⟨?_, ?_⟩
  · rw [he]
    exact (allocateAndWrite_orderly (.refl _)).raised 10 (raise_raised (.fanFault f false) _ (Notice.cls_lt _))
  · rw [offRecovery_headroom, he]
    exact (allocateAndWrite_headroom _).trans (headroom_congr (by simp) (by simp))

theorem offRecovery_keeps_headroom (f : Fan) {d : Dev} (h : d.chg.headroom = d.headroom) :
    (offRecovery f d).chg.headroom = (offRecovery f d).headroom := by
  by_cases hf : d.fanFitted f = true ∧ (d.fan f).fault = true
  · exact (offRecovery_of_fault hf.1 hf.2).2
  · rw [offRecovery_of_ok fun x => by simpa using fun y => hf ⟨x, y⟩]
    exact h

theorem offRecovery_keeps_notice {n : Notice} (h7 : n.cls ≠ 7) (h10 : n.cls ≠ 10) (f : Fan) {d : Dev}
    (h : n ∈ d.nsu.queue) : n ∈ (offRecovery f d).nsu.queue := by
  unfold offRecovery
  split
  · exact allocateAndWrite_keeps_notice h7 (raise_keeps_notice h h10)
  · exact h

/-- The duties at the entry to OFF, before a fan in FAULT returns (R99). -/
def dutiesOff (d : Dev) : Dev := setFittedDuty .fan2 0 (setFittedDuty .fan1 0 d)

theorem fansOff_eq (d : Dev) : fansOff d = offRecovery .fan2 (offRecovery .fan1 (dutiesOff d)) := rfl

theorem dutiesOff_frame (d : Dev) : (dutiesOff d).profile = d.profile ∧ (dutiesOff d).chg = d.chg ∧
    (dutiesOff d).tst = d.tst ∧ (dutiesOff d).nsu = d.nsu := by simp [dutiesOff]

theorem dutiesOff_fan (f : Fan) (d : Dev) : (dutiesOff d).fan f =
    if d.fanFitted f = true then
      { d.fan f with duty := 0, lowDuty := (d.fan f).lowDuty || decide (0 < (d.fan f).stallCheckDuty) }
    else d.fan f := by
  unfold dutiesOff
  rw [setFittedDuty_fan, setFittedDuty_fan]
  have hf (g : Fan) : (setFittedDuty .fan1 0 d).fanFitted g = d.fanFitted g := fanFitted_congr (by simp) g
  cases f <;> simp [hf]

theorem fansOff_fan (f : Fan) (d : Dev) :
    (fansOff d).fan f = if d.fanFitted f = true then (d.fan f).stopped else d.fan f := by
  have hf (g : Fan) : (dutiesOff d).fanFitted g = d.fanFitted g := fanFitted_congr (by simp [dutiesOff]) g
  have hr (g : Fan) : (offRecovery .fan1 (dutiesOff d)).fanFitted g = d.fanFitted g :=
    (fanFitted_congr (by simp) g).trans (hf g)
  rw [fansOff_eq, offRecovery_fan, offRecovery_fan, dutiesOff_fan]
  cases hp : d.fanFitted f
  · simp [hr, hf, hp]
  · cases hx : (d.fan f).fault <;> cases f <;> simp [hr, hf, hp, hx, FanState.stopped]

theorem fansOff_tfu (d : Dev) : (fansOff d).tfu = { d.tfu with fans := (fansOff d).tfu.fans } := by
  have hd (f : Fan) (v : Nat) (d : Dev) :
      (setFittedDuty f v d).tfu = { d.tfu with fans := (setFittedDuty f v d).tfu.fans } := by
    unfold setFittedDuty setDuty markLowDuty
    split <;> rfl
  have hr (f : Fan) (d : Dev) : (offRecovery f d).tfu = { d.tfu with fans := (offRecovery f d).tfu.fans } := by
    rw [offRecovery_tfu]
    split <;> rfl
  rw [fansOff, hr, hr, hd, hd]

@[simp] theorem fansOff_core (d : Dev) : (fansOff d).chg.core = d.chg.core := by
  rw [fansOff_eq, offRecovery_core, offRecovery_core, (dutiesOff_frame d).2.1]

/-- With no fitted fan in FAULT the entry to OFF leaves the CHG and the segments (R105). -/
theorem fansOff_of_ok {d : Dev} (h : ∀ f, d.fanFitted f = true → (d.fan f).fault = false) :
    fansOff d = dutiesOff d := by
  have hf : ∀ f, (dutiesOff d).fanFitted f = true → ((dutiesOff d).fan f).fault = false := fun f hf => by
    have hf : d.fanFitted f = true := (fanFitted_congr (dutiesOff_frame d).1 f).symm.trans hf
    rw [dutiesOff_fan, if_pos hf]
    exact h f hf
  rw [fansOff_eq, offRecovery_of_ok (hf .fan1), offRecovery_of_ok (hf .fan2)]

/-- With a fitted fan in FAULT the entry to OFF tells FAN_FAULT and runs an allocation (R77, R105). -/
theorem fansOff_of_fault {d : Dev} {f : Fan} (hf : d.fanFitted f = true) (h : (d.fan f).fault = true) :
    (fansOff d).Raised 10 ∧ (fansOff d).chg.headroom = (fansOff d).headroom := by
  have hd : ((dutiesOff d).fan f).fault = true := by rw [dutiesOff_fan, if_pos hf]; exact h
  have hp : (dutiesOff d).fanFitted f = true := (fanFitted_congr (dutiesOff_frame d).1 f).trans hf
  rw [fansOff_eq]
  cases f
  · obtain ⟨hr, hh⟩ := offRecovery_of_fault hp hd
    exact ⟨(offRecovery_orderly .fan2 (.refl _)).raised 10 hr, offRecovery_keeps_headroom .fan2 hh⟩
  · refine offRecovery_of_fault ((fanFitted_congr (by simp) _).trans hp) ?_
    rw [offRecovery_fan, if_neg (by simp)]
    exact hd

theorem fansOff_keeps_notice {n : Notice} (h7 : n.cls ≠ 7) (h10 : n.cls ≠ 10) {d : Dev}
    (h : n ∈ d.nsu.queue) : n ∈ (fansOff d).nsu.queue :=
  offRecovery_keeps_notice h7 h10 .fan2 (offRecovery_keeps_notice h7 h10 .fan1 (by
    rw [← (dutiesOff_frame d).2.2.2] at h; exact h))

/-! ### The critical mark (R96, R97) -/

theorem hotSource_isSome (d : Dev) (margin : Nat) :
    (d.tfu.hotSource d.tst.thermal margin).isSome = true ↔ d.HotBy margin := by
  unfold Tfu.hotSource Dev.HotBy
  simp only [Option.isSome_map, List.find?_isSome, Prod.exists, List.mem_zipIdx_iff_getElem?,
    Bool.and_eq_true, beq_iff_eq, decide_eq_true_eq]
  exact ⟨fun ⟨x, i, hx, hc, hv⟩ => ⟨i, x, hx, hc, hv⟩, fun ⟨i, x, hx, hc, hv⟩ => ⟨x, i, hx, hc, hv⟩⟩

/-- The mark follows the sources wherever it is what an evaluation gives from the mark before (R96). -/
theorem markFollows_of_next {d : Dev} {was : Bool}
    (h : d.tfu.critical = nextCritical d.tst.thermal { d.tfu with critical := was }) : d.MarkFollows was := by
  have hs (m : Nat) : ({ d.tfu with critical := was } : Tfu).hotSource d.tst.thermal m =
      d.tfu.hotSource d.tst.thermal m := rfl
  rw [nextCritical, hs, hs] at h
  exact ⟨fun h0 => by rw [h, if_pos ((hotSource_isSome d 0).mpr h0)],
    fun h1 => by
      have hz : ¬ d.HotBy 0 := fun ⟨i, x, hx, hc, hv⟩ => h1 ⟨i, x, hx, hc, by omega⟩
      rw [h, if_neg (mt (hotSource_isSome d 0).mp hz), if_neg (mt (hotSource_isSome d _).mp h1)],
    fun h0 h1 => by
      rw [h, if_neg (mt (hotSource_isSome d 0).mp h0), if_pos ((hotSource_isSome d _).mpr h1)]⟩

/-- With D0 to D3 ABSENT, S alone can hold the critical mark (R97). -/
theorem criticalSource_of_dies_gone (th : ThermalTab) {t : Tfu} (h : t.die = List.replicate 4 Source.gone) :
    criticalSource th t = (4, t.skin.value) := by
  have hs (m : Nat) : t.hotSource th m = none ∨ t.hotSource th m = some (4, t.skin.value) := by
    have he : t.hotSource th m = if t.skin.cond = .real ∧ (th.criticalOf 4 : Int) - m ≤ t.skin.value then
        some (4, t.skin.value) else none := by
      simp [Tfu.hotSource, Tfu.heatSources, h, List.replicate, Source.gone, List.zipIdx, List.find?_cons]
      split <;> simp_all
    rw [he]
    split
    · exact .inr rfl
    · exact .inl rfl
  unfold criticalSource
  rcases hs 0 with h0 | h0 <;> rcases hs th.criticalHysteresis with h1 | h1 <;> simp [h0, h1]

end Sys2Proof.Machine

namespace Sys2Proof.Machine

/-! ### The battery watch (R82) -/

/-- The full capacity of a READY pack; 0 of any other (R82). -/
def Dev.readyCapacity (d : Dev) (k : Pack) : Nat :=
  match (d.mon k).record.state, (d.mon k).record.telemetry with
  | .ready, some t => t.fullCapacity
  | _, _ => 0

theorem batterySoc_eq (d : Dev) : d.batterySoc =
    if d.chg.adapter.isSome ∨ d.readyCapacity .a + d.readyCapacity .b = 0 then none
    else some ((d.soc .a * d.readyCapacity .a + d.soc .b * d.readyCapacity .b) /
      (d.readyCapacity .a + d.readyCapacity .b)) := by
  have hs (k : Pack) : d.soc k = (match (d.mon k).record.telemetry with | some t => t.soc | none => 0) := by
    unfold Dev.soc
    cases (d.mon k).record.telemetry <;> rfl
  rw [hs, hs]
  rfl

theorem socShare_eq (d : Dev) (k : Pack) :
    d.socShare k = (d.soc k * d.readyCapacity k, d.readyCapacity k) := by
  unfold Dev.socShare Dev.soc Dev.readyCapacity
  dsimp only
  generalize (d.mon k).record.state = st, (d.mon k).record.telemetry = t
  cases st <;> cases t <;> simp

/-- The system SoC as the records give it is what the watch computes (R82). -/
theorem computeSoc_eq_batterySoc (d : Dev) : d.computeSoc = d.batterySoc := by
  unfold Dev.computeSoc
  simp only [socShare_eq, batterySoc_eq, Bool.or_eq_true, beq_iff_eq]

theorem batterySoc_congr {d e : Dev} (hs : ∀ k, (e.mon k).record.state = (d.mon k).record.state)
    (ht : ∀ k, (e.mon k).record.telemetry = (d.mon k).record.telemetry) (ha : e.chg.adapter = d.chg.adapter) :
    e.batterySoc = d.batterySoc := by
  have hr (k : Pack) : e.readyCapacity k = d.readyCapacity k := by
    unfold Dev.readyCapacity; rw [hs, ht]
  have hc (k : Pack) : e.soc k = d.soc k := by unfold Dev.soc; rw [ht]
  rw [batterySoc_eq, batterySoc_eq, ha, hr, hr, hc, hc]

theorem socAtOrBelow_iff (soc : Option Nat) (level : Nat) :
    socAtOrBelow soc level = true ↔ ∃ x, soc = some x ∧ x ≤ level := by
  cases soc <;> simp [socAtOrBelow]

/-- The stale test changes the stale mark alone (R45). -/
theorem retime_record (ms : Nat) (m : PackMonitor) :
    (m.retime ms).record.state = m.record.state ∧ (m.retime ms).record.telemetry = m.record.telemetry := by
  unfold PackMonitor.retime staleTest
  split
  · exact ⟨rfl, rfl⟩
  · split
    · exact ⟨rfl, rfl⟩
    · dsimp only
      split <;> exact ⟨rfl, rfl⟩

theorem retimePolls_mon (d : Dev) (k : Pack) : (retimePolls d).mon k = (d.mon k).retime d.pollInterval := by
  cases k <;> rfl

/-- The poll timer and the record under a new poll interval, in the words of R45 and R53. -/
theorem retime_eq (ms : Nat) (m : PackMonitor) : m.retime ms = (match m.pollTimer with
    | none => m
    | some t => if t.period = ms * 1000 then m
      else { m with
        pollTimer := some ⟨ms * 1000, ms * 1000⟩
        record := { m.record with stale := m.record.stale ||
          (m.record.telemetry.isSome && decide (3 * ms < m.record.age * 1000)) } }) := by
  unfold PackMonitor.retime staleTest Timer.ofMs
  cases m.pollTimer with
  | none => rfl
  | some t =>
    dsimp only
    split
    · rfl
    · cases h : m.record.telemetry.isSome && decide (3 * ms < m.record.age * 1000) <;> simp

/-! ### The CHG and the TFU at a change of power state -/

theorem chgPower_chg (d : Dev) : (chgPower d).chg = { d.chg with
    allocTimer := d.chg.allocTimer.map (Timer.retime d.allocInterval)
    systemSoc := d.batterySoc
    lowMark := socAtOrBelow d.batterySoc d.tst.power.criticalSoc
    graceTimer := if d.ppu.power ≠ .on then none
      else if socAtOrBelow d.batterySoc d.tst.power.criticalSoc then
        some (Timer.ofMs d.tst.power.batteryGrace) else d.chg.graceTimer } := by
  have hs : (retimeAllocation d).computeSoc = d.batterySoc :=
    (computeSoc_eq_batterySoc _).trans (batterySoc_congr (fun _ => rfl) (fun _ => rfl) rfl)
  unfold chgPower watchCompute
  rw [hs]
  by_cases hp : d.ppu.power = .on
  · cases hl : socAtOrBelow d.batterySoc d.tst.power.criticalSoc <;>
      simp [retimeAllocation, hp, hl, batteryCrossing]
  · simp [retimeAllocation, hp, stopBatteryGrace]

/-- A low mark at the entry to ON is a crossing (R82). -/
theorem chgPower_tells {d : Dev} (hp : d.ppu.power = .on) (hl : (chgPower d).chg.lowMark = true) :
    (chgPower d).Raised 9 ∧ (d.tst.settings.noticeMask.getLsbD 9 = true →
      ∀ x, (chgPower d).chg.systemSoc = some x → .batteryCritical x ∈ (chgPower d).nsu.queue) := by
  have he : chgPower d = batteryCrossing (watchCompute (retimeAllocation d)) := by
    rw [chgPower_chg] at hl
    have hs : (retimeAllocation d).computeSoc = d.batterySoc :=
      (computeSoc_eq_batterySoc _).trans (batterySoc_congr (fun _ => rfl) (fun _ => rfl) rfl)
    have hm : (watchCompute (retimeAllocation d)).chg.lowMark = true := by
      simp only [watchCompute, hs]
      exact hl
    simp [chgPower, hm, hp]
  rw [he]
  refine ⟨raise_raised (.batteryCritical _) _ (Notice.cls_lt _), fun hn x hx => ?_⟩
  have hx : (watchCompute (retimeAllocation d)).chg.systemSoc = some x := hx
  have := raise_queues (.batteryCritical x) (watchCompute (retimeAllocation d)) hn
  simpa [batteryCrossing, hx] using this

theorem chgPower_headroom_packs (d : Dev) :
    (chgPower d).chg.headroom = d.chg.headroom ∧ (chgPower d).chg.packs = d.chg.packs := by
  rw [chgPower_chg]; exact ⟨rfl, rfl⟩

/-- The TFU at a change of power state, before the fans (R90, R96 to R98). -/
def heatPower (d : Dev) : Dev := criticalPower (hostPower d)

theorem heatPower_tfu (d : Dev) : (heatPower d).tfu = { d.tfu with
    die := List.replicate 4 Source.gone
    hostTimer := if d.ppu.power = .on then .running (Timer.ofMs d.tst.thermal.hostTimeout) else .stopped
    critical := nextCritical d.tst.thermal { d.tfu with die := List.replicate 4 Source.gone }
    graceTimer := if d.ppu.power ≠ .on then none
      else if nextCritical d.tst.thermal { d.tfu with die := List.replicate 4 Source.gone } then
        some (Timer.ofMs d.tst.thermal.criticalGrace) else d.tfu.graceTimer } := by
  have hn : nextCritical d.tst.thermal (hostPower d).tfu =
      nextCritical d.tst.thermal { d.tfu with die := List.replicate 4 Source.gone } := rfl
  unfold heatPower criticalPower computeCritical
  rw [(hostPower_frame d).2.2.2.2.2.2.2.2.2.2.1, hn]
  by_cases hp : d.ppu.power = .on
  · cases hc : nextCritical d.tst.thermal { d.tfu with die := List.replicate 4 Source.gone } <;>
      simp [hp, criticalCrossing, hostPower]
  · simp [hp, hostPower]

/-- A critical mark that is SET at the entry to ON is a crossing, held by the skin (R97). -/
theorem heatPower_tells {d : Dev} (hp : d.ppu.power = .on) (hc : (heatPower d).tfu.critical = true) :
    (heatPower d).Raised 12 ∧ (d.tst.settings.noticeMask.getLsbD 12 = true →
      .thermalCritical 4 d.tfu.skin.value ∈ (heatPower d).nsu.queue) := by
  have hm : (computeCritical (hostPower d)).tfu.critical = true := by
    rw [heatPower_tfu] at hc
    exact hc
  have he : heatPower d = criticalCrossing (computeCritical (hostPower d)) := by
    simp [heatPower, criticalPower, hm, hp]
  have hs : raiseCritical (computeCritical (hostPower d)) =
      raise (.thermalCritical 4 d.tfu.skin.value) (computeCritical (hostPower d)) := by
    unfold raiseCritical
    rw [criticalSource_of_dies_gone _ rfl]
    rfl
  rw [he]
  unfold criticalCrossing
  rw [hs]
  exact ⟨raise_raised _ _ (Notice.cls_lt _), fun hn => raise_queues _ _ hn⟩

theorem heatPower_keeps_notice {n : Notice} (hn : n.cls ≠ 12) {d : Dev} (h : n ∈ d.nsu.queue) :
    n ∈ (heatPower d).nsu.queue := by
  have h : n ∈ (computeCritical (hostPower d)).nsu.queue := h
  unfold heatPower criticalPower
  dsimp only
  split
  · split
    · exact raise_keeps_notice h hn
    · exact h
  · exact h

/-! ### The link at a change of power state -/

theorem linkUp_keeps_notice {n : Notice} (hn : n.cls ≠ 0) {d : Dev} (h : n ∈ d.nsu.queue) :
    n ∈ (linkUp d).nsu.queue := by
  have hq (d : Dev) (h : n ∈ d.nsu.queue) : n ∈ (nsuLinkUp d).nsu.queue := by
    have hf : n ∈ d.nsu.queue.filter fun m => m.cls != d.wku.summary.cls :=
      List.mem_filter.mpr ⟨h, by simpa [Wku.summary, Notice.cls] using hn⟩
    unfold nsuLinkUp
    dsimp only [setNsu_nsu]
    split
    · exact List.mem_cons_of_mem _ hf
    · exact hf
  rw [linkUp, (ktuLinkUp_frame _).2.2.2.2.2.2.2.2.2.2.2.2]
  exact hq _ h

theorem relink_keeps_notice {n : Notice} (hn : n.cls ≠ 0) {d : Dev} (h : n ∈ d.nsu.queue) :
    n ∈ (relink d).nsu.queue := by
  unfold relink
  split
  · exact linkUp_keeps_notice hn h
  · split
    · simpa [linkDown, linkDownRest, nsuLinkDown] using h
    · exact h

/-! ### A change of power state, whole -/

/-- The power state changed, and the MSE, the PKM and the CHG told of it (R116). -/
def chargeTold (st : PowerState) (d : Dev) : Dev :=
  chgPower (retimePolls (mseRetime (d.setPpu { d.ppu with power := st, transition := d.transitionFor st })))

/-- The power state changed, and every block told of it but the PLI (R116). -/
def blocksTold (st : PowerState) (d : Dev) : Dev := tfuPower (chargeTold st d)

theorem powerTo_eq (st : PowerState) (d : Dev) : powerTo st d = relink (blocksTold st d) := rfl

theorem chargeTold_frame (st : PowerState) (d : Dev) :
    (chargeTold st d).tfu = d.tfu ∧ (chargeTold st d).ppu.power = st ∧ (chargeTold st d).tst = d.tst ∧
      (chargeTold st d).profile = d.profile := by
  simp [chargeTold]

theorem chargeTold_mon (st : PowerState) (d : Dev) (k : Pack) : (chargeTold st d).mon k =
    (d.mon k).retime (if st = .on then d.tst.power.pollOn else d.tst.power.pollOther) := by
  have h : (chargeTold st d).mon k = (retimePolls (mseRetime (d.setPpu { d.ppu with
      power := st, transition := d.transitionFor st }))).mon k := by
    unfold Dev.mon chargeTold
    rw [(chgPower_frame _).2.2.2.2.2.1]
  rw [h, retimePolls_mon]
  rfl

/-- The TFU at a change of power state: the heat, and at the entry to OFF the fans (R99). -/
theorem tfuPower_eq (d : Dev) :
    tfuPower d = if d.ppu.power = .off then fansOff (heatPower d) else heatPower d := by
  have hp : (heatPower d).ppu.power = d.ppu.power := by simp [heatPower]
  rw [← hp]
  rfl

theorem tfuPower_core (d : Dev) : (tfuPower d).chg.core = d.chg.core := by
  have hh : (heatPower d).chg = d.chg := by simp [heatPower]
  rw [tfuPower_eq]
  split <;> simp [hh]

theorem tfuPower_tfu (d : Dev) : (tfuPower d).tfu = { (heatPower d).tfu with fans := (tfuPower d).tfu.fans } := by
  rw [tfuPower_eq]
  split
  · exact fansOff_tfu _
  · rfl

theorem tfuPower_fan (f : Fan) (d : Dev) : (tfuPower d).fan f =
    if d.ppu.power = .off ∧ d.fanFitted f = true then (d.fan f).stopped else d.fan f := by
  have hf : (heatPower d).fan f = d.fan f := by unfold Dev.fan; rw [heatPower_tfu]
  have hp : (heatPower d).fanFitted f = d.fanFitted f := fanFitted_congr (by simp [heatPower]) f
  rw [tfuPower_eq]
  by_cases h : d.ppu.power = .off
  · simp [h, fansOff_fan, hf, hp]
  · simp [h, hf]

/-- A fitted fan in FAULT at the entry to OFF is told, with an allocation (R105). -/
theorem tfuPower_recovers {d : Dev} (hp : d.ppu.power = .off)
    (h : ∃ f, d.fanFitted f = true ∧ (d.fan f).fault = true) :
    (tfuPower d).Raised 10 ∧ (tfuPower d).chg.headroom = (tfuPower d).headroom := by
  obtain ⟨f, hf, hx⟩ := h
  rw [tfuPower_eq, if_pos hp]
  refine fansOff_of_fault (f := f) ((fanFitted_congr (by simp [heatPower]) f).trans hf) ?_
  unfold Dev.fan
  rw [heatPower_tfu]
  exact hx

/-- With no recovery the commanded values stay as they are (R105). -/
theorem tfuPower_commands {d : Dev}
    (h : d.ppu.power ≠ .off ∨ ∀ f, d.fanFitted f = true → (d.fan f).fault = false) :
    (tfuPower d).chg = d.chg := by
  have hh : (heatPower d).chg = d.chg := by simp [heatPower]
  rw [tfuPower_eq]
  split
  · rename_i hp
    rw [fansOff_of_ok, (dutiesOff_frame _).2.1, hh]
    intro f hf
    have hx : (heatPower d).fan f = d.fan f := by unfold Dev.fan; rw [heatPower_tfu]
    rw [hx]
    exact (h.resolve_left (absurd hp)) f ((fanFitted_congr (by simp [heatPower]) f).symm.trans hf)
  · exact hh

theorem tfuPower_keeps_notice {n : Notice} (h7 : n.cls ≠ 7) (h10 : n.cls ≠ 10) {d : Dev}
    (h : n ∈ (heatPower d).nsu.queue) : n ∈ (tfuPower d).nsu.queue := by
  rw [tfuPower_eq]
  split
  · exact fansOff_keeps_notice h7 h10 h
  · exact h

theorem tfuPower_raised {d : Dev} {c : Nat} (h : (heatPower d).Raised c) : (tfuPower d).Raised c := by
  rw [tfuPower_eq]
  split
  · exact (fansOff_orderly (.refl _)).raised c h
  · exact h

theorem chargeTold_chg (st : PowerState) (d : Dev) : (chargeTold st d).chg = { d.chg with
    allocTimer := d.chg.allocTimer.map
      (Timer.retime (if st = .on then d.tst.power.allocOn else d.tst.power.allocOther))
    systemSoc := d.batterySoc
    lowMark := socAtOrBelow d.batterySoc d.tst.power.criticalSoc
    graceTimer := if st ≠ .on then none
      else if socAtOrBelow d.batterySoc d.tst.power.criticalSoc then
        some (Timer.ofMs d.tst.power.batteryGrace) else d.chg.graceTimer } := by
  have hs : (retimePolls (mseRetime (d.setPpu { d.ppu with power := st, transition := d.transitionFor st }))).batterySoc
      = d.batterySoc :=
    batterySoc_congr (fun k => by rw [retimePolls_mon]; exact (retime_record ..).1)
      (fun k => by rw [retimePolls_mon]; exact (retime_record ..).2) rfl
  unfold chargeTold
  rw [chgPower_chg, hs]
  rfl

theorem chargeTold_batterySoc (st : PowerState) (d : Dev) : (chargeTold st d).batterySoc = d.batterySoc :=
  batterySoc_congr (fun k => by rw [chargeTold_mon]; exact (retime_record ..).1)
    (fun k => by rw [chargeTold_mon]; exact (retime_record ..).2) (by rw [chargeTold_chg])

theorem blocksTold_frame (st : PowerState) (d : Dev) :
    (blocksTold st d).pkm = (chargeTold st d).pkm ∧ (blocksTold st d).tst = d.tst ∧
      (blocksTold st d).profile = d.profile := by
  simp [blocksTold, chargeTold]

theorem blocksTold_chg (st : PowerState) (d : Dev) : (blocksTold st d).chg = { (chargeTold st d).chg with
    headroom := (blocksTold st d).chg.headroom, packs := (blocksTold st d).chg.packs } :=
  (Chg.core_eq_iff _ _).mp (tfuPower_core _)

theorem blocksTold_batterySoc (st : PowerState) (d : Dev) : (blocksTold st d).batterySoc = d.batterySoc := by
  have hm (k : Pack) : (blocksTold st d).mon k = (chargeTold st d).mon k := by
    unfold Dev.mon; rw [(blocksTold_frame st d).1]
  exact (batterySoc_congr (fun k => by rw [hm]) (fun k => by rw [hm]) (by rw [blocksTold_chg])).trans
    (chargeTold_batterySoc st d)

theorem blocksTold_watch (st : PowerState) (d : Dev) : (blocksTold st d).chg.systemSoc = d.batterySoc ∧
    (blocksTold st d).chg.lowMark = socAtOrBelow d.batterySoc d.tst.power.criticalSoc := by
  rw [blocksTold_chg, chargeTold_chg]
  exact ⟨rfl, rfl⟩

/-- A low mark that stands at the entry to ON is told (R82). -/
theorem blocksTold_low (d : Dev) (hl : (blocksTold .on d).chg.lowMark = true) :
    (blocksTold .on d).Raised 9 ∧ (d.tst.settings.noticeMask.getLsbD 9 = true →
      ∀ x, (blocksTold .on d).chg.systemSoc = some x → .batteryCritical x ∈ (blocksTold .on d).nsu.queue) := by
  have he : (chargeTold .on d).chg.lowMark = (blocksTold .on d).chg.lowMark ∧
      (chargeTold .on d).chg.systemSoc = (blocksTold .on d).chg.systemSoc := by
    rw [blocksTold_chg]
    exact ⟨rfl, rfl⟩
  obtain ⟨hr, hn⟩ := chgPower_tells
    (d := retimePolls (mseRetime (d.setPpu { d.ppu with power := .on, transition := d.transitionFor .on })))
    rfl (he.1.trans hl)
  refine ⟨(tfuPower_orderly (.refl (chargeTold .on d))).raised 9 hr, fun hm x hx => ?_⟩
  exact tfuPower_keeps_notice (by simp [Notice.cls]) (by simp [Notice.cls])
    (heatPower_keeps_notice (by simp [Notice.cls]) (hn hm x (he.2.trans hx)))

/-- A critical mark that is SET at the entry to ON is told (R97). -/
theorem blocksTold_hot (d : Dev) (hc : (blocksTold .on d).tfu.critical = true) :
    (blocksTold .on d).Raised 12 ∧ (d.tst.settings.noticeMask.getLsbD 12 = true →
      .thermalCritical 4 (blocksTold .on d).tfu.skin.value ∈ (blocksTold .on d).nsu.queue) := by
  obtain ⟨htfu, hpower, htst, -⟩ := chargeTold_frame .on d
  have he : (heatPower (chargeTold .on d)).tfu.critical = (blocksTold .on d).tfu.critical ∧
      (chargeTold .on d).tfu.skin = (blocksTold .on d).tfu.skin := by
    unfold blocksTold
    rw [tfuPower_tfu, heatPower_tfu]
    exact ⟨rfl, rfl⟩
  obtain ⟨hr, hn⟩ := heatPower_tells hpower (he.1.trans hc)
  rw [htst, he.2] at hn
  exact ⟨tfuPower_raised hr, fun hm =>
    tfuPower_keeps_notice (by simp [Notice.cls]) (by simp [Notice.cls]) (hn hm)⟩

/-- The TFU after a change of power state, its fans aside (R90, R96, R97). -/
theorem blocksTold_tfu (st : PowerState) (d : Dev) : (blocksTold st d).tfu = { d.tfu with
    die := List.replicate 4 Source.gone
    hostTimer := if st = .on then .running (Timer.ofMs d.tst.thermal.hostTimeout) else .stopped
    critical := nextCritical d.tst.thermal { d.tfu with die := List.replicate 4 Source.gone }
    graceTimer := if st ≠ .on then none
      else if nextCritical d.tst.thermal { d.tfu with die := List.replicate 4 Source.gone } then
        some (Timer.ofMs d.tst.thermal.criticalGrace) else d.tfu.graceTimer
    fans := (blocksTold st d).tfu.fans } := by
  obtain ⟨ht, hp, hs, -⟩ := chargeTold_frame st d
  unfold blocksTold
  rw [tfuPower_tfu, heatPower_tfu, ht, hp, hs]

/-- A change of power state is taken by the PKM, the CHG and the TFU (R116). -/
theorem blocksTold_entered (st : PowerState) (d : Dev) : d.Entered (blocksTold st d) st := by
  obtain ⟨htfu, hpower, htst, hprofile⟩ := chargeTold_frame st d
  have hfit (f : Fan) : (chargeTold st d).fanFitted f = d.fanFitted f := fanFitted_congr hprofile f
  have hfan (f : Fan) : (chargeTold st d).fan f = d.fan f := by unfold Dev.fan; rw [htfu]
  constructor
  case polls =>
    intro k
    have hm : (blocksTold st d).mon k = (chargeTold st d).mon k := by
      unfold Dev.mon; rw [(blocksTold_frame st d).1]
    exact (hm.trans (chargeTold_mon st d k)).trans (retime_eq _ _)
  case watch =>
    obtain ⟨hs, hl⟩ := blocksTold_watch st d
    exact ⟨hs.trans (blocksTold_batterySoc st d).symm,
      by rw [hl, hs, (blocksTold_frame st d).2.1, socAtOrBelow_iff]⟩
  case charge =>
    rw [blocksTold_chg, chargeTold_chg]
    rfl
  case low =>
    rintro rfl hl
    exact blocksTold_low d hl
  case heat =>
    rw [blocksTold_tfu]
  case dies =>
    rw [blocksTold_tfu]
    rfl
  case mark =>
    refine markFollows_of_next ?_
    rw [blocksTold_tfu, (blocksTold_frame st d).2.1]
    rfl
  case hot =>
    rintro rfl hc
    exact blocksTold_hot d hc
  case fans =>
    intro f
    rw [blocksTold, tfuPower_fan, hpower, hfit, hfan]
    rfl
  case recovers =>
    intro hp hf
    refine tfuPower_recovers (hpower.trans hp) ?_
    simpa only [hfit, hfan] using hf
  case commands =>
    intro h
    have hc : (blocksTold st d).chg = (chargeTold st d).chg :=
      tfuPower_commands (by simpa only [hpower, hfit, hfan] using h)
    rw [hc, chargeTold_chg]
    exact ⟨rfl, rfl⟩
  case frame => exact (blocksTold_frame st d).2

/-- What a later state shows of one that a change of power state has reached: the blocks that the change is read from,
the classes raised, and in ON the notices but LINK_UP. -/
structure Dev.ShownBy (d e : Dev) (p : PowerState) : Prop where
  pkm : e.pkm = d.pkm
  chg : e.chg = d.chg
  tfu : e.tfu = d.tfu
  tst : e.tst = d.tst
  profile : e.profile = d.profile
  raised : ∀ c, d.Raised c → e.Raised c
  notices : p = .on → ∀ n ∈ d.nsu.queue, n.cls ≠ 0 → n ∈ e.nsu.queue

/-- A change of power state is read as well from a state that shows the one reached. -/
theorem Dev.Entered.shown {d e f : Dev} {p : PowerState} (h : d.Entered e p) (hs : e.ShownBy f p) :
    d.Entered f p := by
  have hmon (k : Pack) : f.mon k = e.mon k := by unfold Dev.mon; rw [hs.pkm]
  have hfan (g : Fan) : f.fan g = e.fan g := by unfold Dev.fan; rw [hs.tfu]
  constructor
  case polls => exact fun k => (hmon k).trans (h.polls k)
  case watch =>
    have hb : f.batterySoc = e.batterySoc :=
      batterySoc_congr (fun k => by rw [hmon]) (fun k => by rw [hmon]) (by rw [hs.chg])
    exact ⟨by rw [hs.chg, hb]; exact h.watch.soc, by rw [hs.chg, hs.tst]; exact h.watch.mark⟩
  case charge => rw [hs.chg]; exact h.charge
  case low =>
    intro hp hl
    rw [hs.chg] at hl ⊢
    obtain ⟨hr, hn⟩ := h.low hp hl
    exact ⟨hs.raised 9 hr, fun hm x hx => hs.notices hp _ (hn hm x hx) (by simp [Notice.cls])⟩
  case heat => rw [hs.tfu]; exact h.heat
  case dies => rw [hs.tfu]; exact h.dies
  case mark =>
    have hb (m : Nat) : f.HotBy m ↔ e.HotBy m := by unfold Dev.HotBy; rw [hs.tfu, hs.tst]
    obtain ⟨h1, h2, h3⟩ := h.mark
    rw [← hs.tst, ← hs.tfu, ← hb] at h2 h3
    rw [← hs.tfu, ← hb] at h1
    rw [← hb] at h3
    exact ⟨h1, h2, h3⟩
  case hot =>
    intro hp hc
    rw [hs.tfu] at hc ⊢
    obtain ⟨hr, hn⟩ := h.hot hp hc
    exact ⟨hs.raised 12 hr, fun hm => hs.notices hp _ (hn hm) (by simp [Notice.cls])⟩
  case fans => exact fun g => (hfan g).trans (h.fans g)
  case recovers =>
    intro hp hf
    obtain ⟨hr, hh⟩ := h.recovers hp hf
    exact ⟨hs.raised 10 hr, by rw [headroom_congr (by rw [hs.chg]) hs.tst, hs.chg]; exact hh⟩
  case commands => rw [hs.chg]; exact h.commands
  case frame => rw [hs.tst, hs.profile]; exact h.frame

theorem relink_shownBy (d : Dev) (p : PowerState) : d.ShownBy (relink d) p :=
  ⟨by simp, by simp, by simp, by simp, by simp, (relink_orderly (.refl d)).raised,
    fun _ _ h hn => relink_keeps_notice hn h⟩

/-- A change of power state is taken by every block (R116). -/
theorem powerTo_entered (st : PowerState) (d : Dev) : d.Entered (powerTo st d) st :=
  (blocksTold_entered st d).shown (relink_shownBy _ st)

/-- Two states alike in what a change of power state is read from before it: the packs, the tables, the profile, and
all of the CHG and the TFU but the grace timers, which a change to another state than ON stops (R82, R97). -/
structure Dev.AlikeTo (p : PowerState) (d e : Dev) : Prop where
  pkm : e.pkm = d.pkm
  tst : e.tst = d.tst
  profile : e.profile = d.profile
  chg : e.chg = { d.chg with graceTimer := e.chg.graceTimer }
  tfu : e.tfu = { d.tfu with graceTimer := e.tfu.graceTimer }
  grace : p = .on → e.chg.graceTimer = d.chg.graceTimer ∧ e.tfu.graceTimer = d.tfu.graceTimer

theorem Dev.AlikeTo.of_eq {p : PowerState} {d e : Dev} (hp : e.pkm = d.pkm) (ht : e.tst = d.tst)
    (hf : e.profile = d.profile) (hc : e.chg = d.chg) (hu : e.tfu = d.tfu) : Dev.AlikeTo p d e :=
  ⟨hp, ht, hf, by rw [hc], by rw [hu], fun _ => ⟨by rw [hc], by rw [hu]⟩⟩

/-- A change of power state is one as well from a state alike. -/
theorem Dev.Entered.of_alike {d e f : Dev} {p : PowerState} (h : e.Entered f p) (ha : Dev.AlikeTo p d e) :
    d.Entered f p := by
  obtain ⟨hpkm, htst, hprofile, hchg, htfu, hgrace⟩ := ha
  have hmon (k : Pack) : e.mon k = d.mon k := by unfold Dev.mon; rw [hpkm]
  have hfan (g : Fan) : e.fan g = d.fan g := by unfold Dev.fan; rw [htfu]
  have hfit (g : Fan) : e.fanFitted g = d.fanFitted g := fanFitted_congr hprofile g
  constructor
  case polls => intro k; rw [← htst, ← hmon]; exact h.polls k
  case watch => exact h.watch
  case charge =>
    rw [← htst]
    refine h.charge.trans ?_
    rw [hchg]
    by_cases hp : p = .on
    · rw [(hgrace hp).1]
    · simp [hp]
  case low => intro hp hl; rw [← htst]; exact h.low hp hl
  case heat =>
    rw [← htst]
    refine h.heat.trans ?_
    rw [htfu]
    by_cases hp : p = .on
    · rw [(hgrace hp).2]
    · simp [hp]
  case dies => exact h.dies
  case mark =>
    have hc : d.tfu.critical = e.tfu.critical := by rw [htfu]
    rw [hc]
    exact h.mark
  case hot => intro hp hc; rw [← htst]; exact h.hot hp hc
  case fans => intro g; rw [← hfan, ← hfit]; exact h.fans g
  case recovers => intro hp hf; exact h.recovers hp (by simpa only [hfit, hfan] using hf)
  case commands =>
    intro hf
    have hh : d.chg.headroom = e.chg.headroom ∧ d.chg.packs = e.chg.packs := by rw [hchg]; exact ⟨rfl, rfl⟩
    rw [hh.1, hh.2]
    exact h.commands (by simpa only [hfit, hfan] using hf)
  case frame => rw [← htst, ← hprofile]; exact h.frame

end Sys2Proof.Machine

namespace Sys2Proof.Machine

/-! ## What a change of the link makes of the part (R38, R141, R183, R184) -/

/-! ### The blocks told leave the link side (R116) -/

theorem raise_streams (n : Notice) (d : Dev) : (raise n d).nsu.streams = d.nsu.streams := rfl

theorem chargeTold_link (st : PowerState) (d : Dev) : (chargeTold st d).pli = d.pli ∧
    (chargeTold st d).segs = d.segs ∧ (chargeTold st d).ktu = d.ktu ∧
    (chargeTold st d).nsu.streams = d.nsu.streams := by
  refine ⟨by simp [chargeTold], by simp [chargeTold], by simp [chargeTold], ?_⟩
  unfold chargeTold chgPower
  dsimp only
  split
  · split <;> simp [batteryCrossing, raise_streams]
  · simp [stopBatteryGrace]

theorem heatPower_link (d : Dev) : (heatPower d).pli = d.pli ∧ (heatPower d).segs = d.segs ∧
    (heatPower d).ktu = d.ktu ∧ (heatPower d).nsu.streams = d.nsu.streams := by
  refine ⟨by simp [heatPower], by simp [heatPower], by simp [heatPower], ?_⟩
  unfold heatPower criticalPower
  dsimp only
  split
  · split <;> simp [criticalCrossing, raiseCritical, raise_streams]
  · simp

/-- A change to another state than OFF is told without a word to the segments (R116). -/
theorem blocksTold_link {st : PowerState} (hst : st ≠ .off) (d : Dev) : (blocksTold st d).pli = d.pli ∧
    (blocksTold st d).segs = d.segs ∧ (blocksTold st d).nsu.streams = d.nsu.streams := by
  obtain ⟨hp, hs, -, hn⟩ := chargeTold_link st d
  obtain ⟨hp', hs', -, hn'⟩ := heatPower_link (chargeTold st d)
  have he : blocksTold st d = heatPower (chargeTold st d) := by
    unfold blocksTold
    rw [tfuPower_eq, if_neg (by rw [(chargeTold_frame st d).2.1]; exact hst)]
  rw [he]
  exact ⟨hp'.trans hp, hs'.trans hs, hn'.trans hn⟩

theorem blocksTold_ktu (st : PowerState) (d : Dev) : (blocksTold st d).ktu = d.ktu := by
  simp [blocksTold, chargeTold]

theorem blocksTold_power (st : PowerState) (d : Dev) : (blocksTold st d).ppu.power = st := by
  simp [blocksTold, chargeTold]

theorem blocksTold_pins (st : PowerState) (d : Dev) : (blocksTold st d).pins = d.pins := by
  simp [blocksTold, chargeTold]

theorem blocksTold_linkUp (st : PowerState) (d : Dev) : (blocksTold st d).pli.linkUp = d.pli.linkUp := by
  simp [blocksTold, chargeTold]

/-- With the link DOWN and none wanted, a change of power state ends with the blocks told (R183). -/
theorem powerTo_of_down {st : PowerState} {d : Dev} (hl : d.pli.linkUp = false)
    (hw : st ≠ .on ∨ d.pins.platformReset = true) : powerTo st d = blocksTold st d := by
  have hn : (blocksTold st d).linkWanted = false := by
    rcases hw with h | h <;> simp [Dev.linkWanted, blocksTold_power, blocksTold_pins, h]
  simp [powerTo_eq, relink, hn, blocksTold_linkUp, hl]

/-- ON with the platform reset released takes a link that is DOWN UP (R183). -/
theorem powerTo_on_of_down {d : Dev} (hl : d.pli.linkUp = false) (hr : d.pins.platformReset = false) :
    powerTo .on d = linkUp (blocksTold .on d) := by
  simp [powerTo_eq, relink, Dev.linkWanted, blocksTold_power, blocksTold_pins, blocksTold_linkUp, hl, hr]

/-- Another state than ON takes a link that is UP DOWN (R183). -/
theorem powerTo_of_up {st : PowerState} {d : Dev} (hl : d.pli.linkUp = true) (hst : st ≠ .on) :
    powerTo st d = linkDown (blocksTold st d) := by
  simp [powerTo_eq, relink, Dev.linkWanted, blocksTold_power, blocksTold_linkUp, hl, hst]

/-! ### The link UP (R41, R184, R190) -/

/-- A wake key is delivered into empty queues as a press, with its release when that has arrived (R34, R41). -/
theorem deliver_delivers (u : Ktu) (w : WakeKey) (hw : u.wakeKey = some w) (fnLock : Bool) :
    u.Delivers { u.deliver w with layer := layerOf (u.deliver w).recs fnLock } fnLock := by
  refine ⟨fun h => by simp [hw] at h, fun x hx hq hh hr => ?_, fun x hx => ?_⟩ <;>
    obtain rfl : w = x := by simpa [hw] using hx
  · cases h : w.release <;> simp [Ktu.deliver, Ktu.report, Ktu.setRec, h, hq, hh, hr]
  · cases h : w.release with
    | some b =>
      refine ⟨by simp [Ktu.deliver, Ktu.report, Ktu.setRec, h], fun p hp => ?_, fun y hy => ?_⟩
      · simp [Ktu.deliver, Ktu.report, Ktu.setRec, h, Ne.symm hp]
      · obtain ⟨hlt, -⟩ := List.getElem?_eq_some_iff.mp hy
        simp [Ktu.deliver, Ktu.report, Ktu.setRec, h, hlt]
    | none =>
      refine ⟨by simp [Ktu.deliver, Ktu.report, h], fun p hp => ?_, fun y hy => ?_⟩
      · cases hx : u.recs[p]? <;> simp [Ktu.deliver, Ktu.report, h, hx, hp]
      · simp [Ktu.deliver, Ktu.report, h, hy]

theorem ktuLinkUp_delivers (d : Dev) : d.ktu.Delivers (ktuLinkUp d).ktu d.tst.settings.fnLock := by
  unfold ktuLinkUp
  split
  · rename_i h
    exact ⟨fun _ => rfl, fun w hw => by simp [h] at hw, fun w hw => by simp [h] at hw⟩
  · rename_i w h
    exact deliver_delivers d.ktu w h _

/-- The link UP, seen from a state with the same PLI and mask (R141, R184, R190). -/
theorem linkUp_rose {d e : Dev} (hp : e.pli = d.pli) (ht : e.tst = d.tst) : d.LinkRose (linkUp e) e.ktu := by
  have hn : (linkUp e).nsu = (nsuLinkUp e).nsu := by simp [linkUp]; rfl
  have hw : (linkUp e).wku = e.wku := by simp
  refine ⟨by simp [linkUp, hp], ?_, ⟨e.nsu.queue.filter fun m => m.cls != 0, ?_, ?_⟩, ?_⟩
  · rw [Dev.Raised, hn]
    simp [nsuLinkUp, Wku.summary, Notice.cls]
  · intro n hm
    simpa using (List.mem_filter.mp hm).2
  · rw [hn, hw, ← ht]
    unfold nsuLinkUp
    dsimp only [setNsu_nsu]
    split <;> simp_all [Wku.summary, Notice.cls]
  · rw [← ht]
    have := ktuLinkUp_delivers (nsuLinkUp (e.setPli { e.pli with
      linkUp := true, seqKey := 0, seqNotice := 0, seqBattery := 0, seqThermal := 0 }))
    simpa [linkUp] using this

/-- At the entry to ON the link rises where it was DOWN and the platform reset is released (R183). -/
theorem powerTo_on_rose {d : Dev} (hl : d.pli.linkUp = false) (hr : d.pins.platformReset = false) :
    d.LinkRose (powerTo .on d) d.ktu := by
  rw [powerTo_on_of_down hl hr, ← blocksTold_ktu .on d]
  exact linkUp_rose (blocksTold_link (by simp) d).1 (blocksTold_frame .on d).2.1

/-! ### The link DOWN (R38, R153, R159, R183, R194) -/

/-- A record as it waits, whether it flies or not. -/
def Txn.landed (t : Txn) : Txn := { t with inFlight := false }

/-- The arbiter of a segment without a sequence takes a transaction at most: the records stay as they are but for the
one that flies, and a segment that is not IDLE stays as it is (R146). -/
theorem arbitrate_of_noSeq {g : Seg} {d : Dev} (h : (d.seg g).sequence = .noSeq) :
    (arbitrate g d).pli = d.pli ∧ ((arbitrate g d).seg g).sequence = .noSeq ∧
      ((arbitrate g d).seg g).drains = (d.seg g).drains ∧
      ((arbitrate g d).seg g).queue.map Txn.landed = (d.seg g).queue.map Txn.landed ∧
      ((d.seg g).state ≠ .idle → arbitrate g d = d) := by
  have hg : grantSequence g d = d := by simp [grantSequence, h]
  unfold arbitrate
  split
  · rename_i hi
    rw [hg]
    unfold takeTransaction
    dsimp only
    split
    · exact ⟨rfl, h, rfl, rfl, fun hn => absurd hi hn⟩
    · refine ⟨rfl, by simp [h], by simp, ?_, fun hn => absurd hi hn⟩
      simp only [seg_setSeg, setInFlight, List.map_map]
      refine List.map_congr_left fun t _ => ?_
      simp only [Function.comp]
      split <;> rfl
  · exact ⟨rfl, h, rfl, rfl, fun _ => rfl⟩

/-- From a state without sequences: the link side stays, and the segments gain records of internal requesters at most,
one of which an IDLE segment may take up (R145, R146). -/
structure Dev.OnlyAppends (d e : Dev) : Prop where
  pli : e.pli = d.pli
  streams : e.nsu.streams = d.nsu.streams
  sequence : ∀ g, (e.seg g).sequence = .noSeq
  drains : ∀ g, (e.seg g).drains = (d.seg g).drains
  records : ∀ g, ∃ more, (e.seg g).queue.map Txn.landed = (d.seg g).queue.map Txn.landed ++ more ∧
    ∀ t ∈ more, t.slot = none ∧ t.member = false
  runs : ∀ g, (d.seg g).state ≠ .idle → (e.seg g).state = (d.seg g).state ∧
    (d.seg g).queue <+: (e.seg g).queue

namespace Dev.OnlyAppends

theorem of_same {d e : Dev} (hs : ∀ g, (d.seg g).sequence = .noSeq) (hp : e.pli = d.pli)
    (hg : e.segs = d.segs) (hn : e.nsu.streams = d.nsu.streams) : d.OnlyAppends e := by
  have hseg (g : Seg) : e.seg g = d.seg g := by unfold Dev.seg; rw [hg]
  exact ⟨hp, hn, fun g => by rw [hseg, hs], fun g => by rw [hseg],
    fun g => ⟨[], by simp [hseg], by simp⟩, fun g _ => by rw [hseg]; exact ⟨rfl, List.prefix_refl _⟩⟩

theorem trans {d e f : Dev} (h : d.OnlyAppends e) (k : e.OnlyAppends f) : d.OnlyAppends f where
  pli := k.pli.trans h.pli
  streams := k.streams.trans h.streams
  sequence := k.sequence
  drains g := (k.drains g).trans (h.drains g)
  records g := by
    obtain ⟨x, hx, hx'⟩ := h.records g
    obtain ⟨y, hy, hy'⟩ := k.records g
    refine ⟨x ++ y, by rw [hy, hx, List.append_assoc], fun t ht => ?_⟩
    rcases List.mem_append.mp ht with ht | ht
    · exact hx' t ht
    · exact hy' t ht
  runs g hg := by
    obtain ⟨hs, hq⟩ := h.runs g hg
    obtain ⟨hs', hq'⟩ := k.runs g (hs ▸ hg)
    exact ⟨hs'.trans hs, hq.trans hq'⟩

/-- What leaves the link side and the segments as they are goes on appending only. -/
theorem same {d e f : Dev} (h : d.OnlyAppends e) (hp : f.pli = e.pli) (hg : f.segs = e.segs)
    (hn : f.nsu.streams = e.nsu.streams) : d.OnlyAppends f :=
  h.trans (of_same h.sequence hp hg hn)

end Dev.OnlyAppends

/-- A record of an internal requester arrives (R143, R145). -/
theorem submit_onlyAppends {d : Dev} (hs : ∀ g, (d.seg g).sequence = .noSeq) (g : Seg) (t : Txn)
    (ht : t.slot = none ∧ t.member = false) : d.OnlyAppends (submit g t d).1 := by
  unfold submit
  dsimp only
  split
  · exact .of_same hs rfl rfl rfl
  · exact .of_same hs rfl rfl rfl
  all_goals
    generalize hx : d.setSeg g { d.seg g with
      queue := (d.seg g).queue ++ [{ t with order := (d.seg g).nextOrder }]
      nextOrder := (d.seg g).nextOrder + 1 } = e
    have hseg : e.seg g = { d.seg g with
        queue := (d.seg g).queue ++ [{ t with order := (d.seg g).nextOrder }]
        nextOrder := (d.seg g).nextOrder + 1 } := by rw [← hx, seg_setSeg]
    have hsq : (e.seg g).sequence = .noSeq := by rw [hseg]; exact hs g
    have hother (j : Seg) (hj : j ≠ g) : (arbitrate g e).seg j = d.seg j := by
      rw [arbitrate_other hj, ← hx, seg_setSeg_if, if_neg (Ne.symm hj)]
    obtain ⟨hp, hq, hd, hr, hi⟩ := arbitrate_of_noSeq hsq
    have hpli : e.pli = d.pli := by rw [← hx]; rfl
    have hnsu : (arbitrate g e).nsu = d.nsu := by rw [← hx]; simp
    refine ⟨hp.trans hpli, by rw [hnsu], fun j => ?_, fun j => ?_, fun j => ?_, fun j hj => ?_⟩ <;>
      by_cases hg : j = g
    · rw [hg, hq]
    · rw [hother j hg, hs]
    · rw [hg, hd, hseg]
    · rw [hother j hg]
    · subst hg
      refine ⟨[Txn.landed { t with order := (d.seg j).nextOrder }], by rw [hr, hseg]; simp, ?_⟩
      simpa [Txn.landed] using ht
    · exact ⟨[], by simp [hother j hg], by simp⟩
    · subst hg
      rw [hi (by rw [hseg]; exact hj), hseg]
      exact ⟨rfl, List.prefix_append _ _⟩
    · rw [hother j hg]
      exact ⟨rfl, List.prefix_refl _⟩

theorem startPass_onlyAppends {d e : Dev} (h : d.OnlyAppends e) (k : Pack) :
    d.OnlyAppends (startPass k e).1 := by
  have hs := h.trans (submit_onlyAppends h.sequence (segOf k) (chargerTxn k false e) ⟨rfl, rfl⟩)
  unfold startPass issueWrite passDead
  dsimp only
  split
  · split <;> exact hs.same rfl rfl rfl
  · exact h.same rfl rfl rfl

theorem startPasses_onlyAppends {d e : Dev} (h : d.OnlyAppends e) (n : Nat) (ks : List Pack) :
    d.OnlyAppends (startPasses n ks e) := by
  induction n generalizing ks e with
  | zero => cases ks <;> exact h
  | succ n ih =>
    cases ks with
    | nil => exact h
    | cons k ks =>
      have hp := startPass_onlyAppends h k
      simp only [startPasses]
      split
      · exact ih (hp.same (f := (faultPack k (startPass k e).1).1) rfl rfl rfl) _
      · exact ih hp _

theorem offRecovery_onlyAppends {d e : Dev} (h : d.OnlyAppends e) (f : Fan) :
    d.OnlyAppends (offRecovery f e) := by
  unfold offRecovery
  split
  · exact startPasses_onlyAppends (h.same (f := allocate (raise (.fanFault f false) (e.setFan f { e.fan f with
      fault := false, stallCount := 0, recoveryCount := 0 }))) rfl rfl rfl) _ _
  · exact h

/-- A change of power state to be told to the blocks appends charger writes at most, at the entry to OFF (R105). -/
theorem blocksTold_onlyAppends (st : PowerState) {d : Dev} (hs : ∀ g, (d.seg g).sequence = .noSeq) :
    d.OnlyAppends (blocksTold st d) := by
  obtain ⟨hp, hg, -, hn⟩ := chargeTold_link st d
  obtain ⟨hp', hg', -, hn'⟩ := heatPower_link (chargeTold st d)
  have h : d.OnlyAppends (heatPower (chargeTold st d)) :=
    .of_same hs (hp'.trans hp) (hg'.trans hg) (hn'.trans hn)
  unfold blocksTold
  rw [tfuPower_eq]
  split
  · exact offRecovery_onlyAppends (offRecovery_onlyAppends (h.same (by simp) (by simp) (by simp)) .fan1) .fan2
  · exact h

/-! ### The link DOWN (R38, R153, R159, R183, R194) -/

/-- With every record swallowed no FN holds layer 1 (R24, R38). -/
theorem layerOf_swallowed (recs : List (Option KeyRec)) (fnLock : Bool) :
    layerOf (recs.map fun r => r.map fun k => { k with swallow := true }) fnLock = if fnLock then 2 else 0 := by
  have h : ((recs.map fun r => r.map fun k => ({ k with swallow := true } : KeyRec)).any holdsFn) = false := by
    rw [List.any_map, List.any_eq_false]
    intro r _
    cases r <;> simp [holdsFn]
  simp [layerOf, h]

/-- A segment at link DOWN (R151, R159). -/
theorem segLinkDown_spec (g : Seg) (d : Dev) : (segLinkDown g d).pli = d.pli ∧
    (∀ j, j ≠ g → (segLinkDown g d).seg j = d.seg j) ∧ ((segLinkDown g d).seg g).sequence = .noSeq ∧
    ((segLinkDown g d).seg g).drains = [] ∧
    ((segLinkDown g d).seg g).queue.map Txn.landed =
      ((d.seg g).queue.map Txn.released).map Txn.landed ∧
    ((d.seg g).state ≠ .idle → ((segLinkDown g d).seg g).state = (d.seg g).state ∧
      ((segLinkDown g d).seg g).queue = (d.seg g).queue.map Txn.released) := by
  have hq : (clearMembers (d.seg g).queue).map (fun t => { t with slot := none }) =
      (d.seg g).queue.map Txn.released := List.map_map ..
  unfold segLinkDown
  rw [hq]
  generalize hx : d.setSeg g { d.seg g with
    sequence := .noSeq, drains := [], queue := (d.seg g).queue.map Txn.released } = e
  have hseg : e.seg g = { d.seg g with
      sequence := .noSeq, drains := [], queue := (d.seg g).queue.map Txn.released } := by
    rw [← hx, seg_setSeg]
  obtain ⟨hp, hs, hd, hr, hi⟩ := arbitrate_of_noSeq (g := g) (d := e) (by rw [hseg])
  refine ⟨hp.trans (by rw [← hx]; rfl), fun j hj => ?_, hs, by rw [hd, hseg], by rw [hr, hseg], fun hn => ?_⟩
  · rw [arbitrate_other hj, ← hx, seg_setSeg_if, if_neg (Ne.symm hj)]
  · rw [hi (by rw [hseg]; exact hn), hseg]
    exact ⟨rfl, rfl⟩

/-- What a link DOWN is read from before it: the PLI, the segments, the streams, the KTU and fn_lock. -/
structure Dev.SameLink (d e : Dev) : Prop where
  pli : e.pli = d.pli
  segs : e.segs = d.segs
  streams : e.nsu.streams = d.nsu.streams
  ktu : e.ktu = d.ktu
  fnLock : e.tst.settings.fnLock = d.tst.settings.fnLock

/-- The link side emptied, before the segments take the link DOWN (R183, R194). -/
def linkEmptied (d : Dev) : Dev := nsuLinkDown (d.setPli { d.pli.clearLink with linkUp := false })

/-- Both segments after the link DOWN. -/
def segsFallen (d : Dev) : Dev := segLinkDown .seg1 (segLinkDown .seg0 (linkEmptied d))

theorem linkDown_eq (d : Dev) :
    linkDown d = ktuLinkDown ((segsFallen d).setPpu { (segsFallen d).ppu with request := none }) := rfl

theorem segsFallen_seg (d : Dev) (g : Seg) : ((segsFallen d).seg g).sequence = .noSeq ∧
    ((segsFallen d).seg g).drains = [] ∧
    ((segsFallen d).seg g).queue.map Txn.landed = ((d.seg g).queue.map Txn.released).map Txn.landed ∧
    ((d.seg g).state ≠ .idle → ((segsFallen d).seg g).state = (d.seg g).state ∧
      ((segsFallen d).seg g).queue = (d.seg g).queue.map Txn.released) := by
  obtain ⟨-, ho0, h0⟩ := segLinkDown_spec .seg0 (linkEmptied d)
  obtain ⟨-, ho1, h1⟩ := segLinkDown_spec .seg1 (segLinkDown .seg0 (linkEmptied d))
  have hs (g : Seg) : (linkEmptied d).seg g = d.seg g := rfl
  unfold segsFallen
  cases g
  · rw [ho1 .seg0 (by simp), ← hs]; exact h0
  · rw [← hs, ← ho0 .seg1 (by simp)]; exact h1

theorem segsFallen_pli (d : Dev) : (segsFallen d).pli = { d.pli.clearLink with linkUp := false } :=
  (segLinkDown_spec .seg1 _).1.trans (segLinkDown_spec .seg0 _).1

theorem linkDown_fell (d : Dev) : d.LinkFell (linkDown d) := by
  have hseg (g : Seg) : (linkDown d).seg g = (segsFallen d).seg g := by
    unfold Dev.seg; rw [linkDown_eq, (ktuLinkDown_frame _).2.2.2.2.2.2.2.2.2.1]; rfl
  have hnsu : (linkDown d).nsu = (linkEmptied d).nsu := by
    rw [linkDown_eq]; simp [segsFallen]
  constructor
  case link =>
    rw [linkDown_eq, (ktuLinkDown_frame _).2.2.2.2.2.2.2.2.2.2.2.1, setPpu_pli, segsFallen_pli]
    rfl
  case request => rfl
  case streams =>
    intro i
    unfold Dev.stream
    rw [hnsu]
    cases i <;> rfl
  case keys =>
    have hk : (segsFallen d).ktu = d.ktu ∧ (segsFallen d).tst = d.tst := by simp [segsFallen, linkEmptied]
    rw [linkDown_eq]
    unfold ktuLinkDown relayer
    simp only [setKtu_ktu, setKtu_tst, setPpu_ktu, setPpu_tst, hk.1, hk.2, layerOf_swallowed]
  case sequences =>
    intro g
    obtain ⟨hs, hd, hq, -⟩ := segsFallen_seg d g
    rw [hseg]
    refine ⟨hs, hd, fun t ht => ?_⟩
    have hm : t.landed ∈ ((d.seg g).queue.map Txn.released).map Txn.landed := hq ▸ List.mem_map_of_mem ht
    simp only [List.mem_map] at hm
    obtain ⟨_, ⟨u, -, rfl⟩, hu⟩ := hm
    have hc : t.landed.slot = none ∧ t.landed.member = false := by rw [← hu]; exact ⟨rfl, rfl⟩
    exact hc
  case records =>
    intro g
    obtain ⟨-, -, hq, -⟩ := segsFallen_seg d g
    rw [hseg]
    exact ⟨[], by rw [List.append_nil]; exact hq.trans (List.map_map ..)⟩
  case runs =>
    intro g hg
    obtain ⟨-, -, -, hr⟩ := segsFallen_seg d g
    obtain ⟨hs, hq⟩ := hr hg
    rw [hseg]
    exact ⟨hs, hq ▸ List.prefix_refl _⟩

/-- A link DOWN is read as well from a state with the same link side before it. -/
theorem Dev.LinkFell.of_same {d e f : Dev} (h : e.LinkFell f) (hs : d.SameLink e) : d.LinkFell f := by
  obtain ⟨hp, hg, hn, hk, hf⟩ := hs
  have hseg (g : Seg) : e.seg g = d.seg g := by unfold Dev.seg; rw [hg]
  have hstream (i : StreamId) : e.stream i = d.stream i := by unfold Dev.stream; rw [hn]
  constructor
  case link => rw [← hp]; exact h.link
  case request => exact h.request
  case streams => intro i; rw [← hstream]; exact h.streams i
  case keys => rw [← hk, ← hf]; exact h.keys
  case sequences => exact h.sequences
  case records => intro g; rw [← hseg]; exact h.records g
  case runs => intro g; rw [← hseg]; exact h.runs g

/-- A link that has fallen stays so while the segments gain records of internal requesters at most. -/
theorem Dev.LinkFell.appends {d e f : Dev} (h : d.LinkFell e) (ha : e.OnlyAppends f) (hk : f.ktu = e.ktu)
    (hr : f.ppu.request = none) : d.LinkFell f := by
  constructor
  case link => rw [ha.pli]; exact h.link
  case request => exact hr
  case streams => intro i; rw [← h.streams i]; unfold Dev.stream; rw [ha.streams]
  case keys => rw [hk]; exact h.keys
  case sequences =>
    intro g
    obtain ⟨more, hm, hc⟩ := ha.records g
    refine ⟨ha.sequence g, (ha.drains g).trans (h.sequences g).2.1, fun t ht => ?_⟩
    have hl : t.landed ∈ (e.seg g).queue.map Txn.landed ++ more := hm ▸ List.mem_map_of_mem ht
    have hs : t.landed.slot = none ∧ t.landed.member = false := by
      rcases List.mem_append.mp hl with hl | hl
      · obtain ⟨u, hu, he⟩ := List.mem_map.mp hl
        rw [← he]
        exact (h.sequences g).2.2 u hu
      · exact hc _ hl
    exact hs
  case records =>
    intro g
    obtain ⟨more, hm, -⟩ := ha.records g
    obtain ⟨before, hb⟩ := h.records g
    exact ⟨before ++ more, by rw [← List.append_assoc, ← hb]; exact hm⟩
  case runs =>
    intro g hg
    obtain ⟨hs, hq⟩ := h.runs g hg
    obtain ⟨hs', hq'⟩ := ha.runs g (hs ▸ hg)
    exact ⟨hs'.trans hs, hq.trans hq'⟩

/-- A change to POWERING_DOWN, SLEEP_ENTRY or another state between takes a link that was UP DOWN (R183). -/
theorem powerTo_fell {st : PowerState} {d : Dev} (hl : d.pli.linkUp = true) (hon : st ≠ .on) (hoff : st ≠ .off) :
    d.LinkFell (powerTo st d) := by
  rw [powerTo_of_up hl hon]
  obtain ⟨hp, hg, hn⟩ := blocksTold_link hoff d
  exact (linkDown_fell _).of_same ⟨hp, hg, hn, blocksTold_ktu st d, by rw [(blocksTold_frame st d).2.1]⟩

/-- A link that has fallen stays so through a further change to a state that wants none. -/
theorem Dev.LinkFell.powerTo {d e : Dev} (h : d.LinkFell e) {st : PowerState} (hon : st ≠ .on) :
    d.LinkFell (powerTo st e) := by
  have hl : e.pli.linkUp = false := by rw [h.link]
  have hr : (Machine.powerTo st e).ppu.request = none := by
    rcases powerTo_ppu st e with hp | hp <;> rw [hp]
    exact h.request
  rw [powerTo_of_down hl (.inl hon)] at hr ⊢
  exact h.appends (blocksTold_onlyAppends st fun g => (h.sequences g).1) (blocksTold_ktu st e) hr

end Sys2Proof.Machine

namespace Sys2Proof.Machine

/-! ## Rises, power-downs and wakes (R116 to R126, R132, R136) -/

/-! ### One change of power state -/

/-- The PPU after a change of power state: the state, its timer, and a request that a link DOWN may have dropped. -/
theorem powerTo_ppu_eq (st : PowerState) (d : Dev) : ∃ r, (r = d.ppu.request ∨ r = none) ∧
    (powerTo st d).ppu = { d.ppu with power := st, transition := d.transitionFor st, request := r } := by
  rcases powerTo_ppu st d with h | h
  · exact ⟨_, .inl rfl, h⟩
  · exact ⟨_, .inr rfl, h⟩

theorem scanCalled_congr {d e : Dev} (h : e.tst = d.tst) (p : PowerState) : e.scanCalled p = d.scanCalled p := by
  unfold Dev.scanCalled Dev.wakeEntry
  rw [h]

/-- The scan timer follows the state reached (R3). -/
theorem powerTo_mse (st : PowerState) (d : Dev) : (powerTo st d).mse = d.mse.retime (d.scanCalled st) := by
  have h : (powerTo st d).mse =
      (mseRetime (d.setPpu { d.ppu with power := st, transition := d.transitionFor st })).mse := by
    simp [powerTo]
  rw [h]
  unfold mseRetime
  rw [scanPeriod_eq]
  rfl

theorem powerTo_retimed (st : PowerState) (d : Dev) : d.mse.Retimed (powerTo st d).mse (d.scanCalled st) :=
  powerTo_mse st d ▸ retime_retimed _ _

/-- A scan timer that runs with a period is left to run when the period is called for again (R3). -/
theorem retime_retime (m : Mse) (us : Nat) : (m.retime (some us)).retime (some us) = m.retime (some us) := by
  cases h : m.scanTimer with
  | none => simp [Mse.retime, h, Timer.ofUs]
  | some t => by_cases hp : t.period = us <;> simp [Mse.retime, h, hp, Timer.ofUs]

/-- A change to another state than ON stops both grace timers (R82, R97). -/
theorem powerTo_stops_graces {st : PowerState} (h : st ≠ .on) (d : Dev) :
    (powerTo st d).chg.graceTimer = none ∧ (powerTo st d).tfu.graceTimer = none := by
  have he := powerTo_entered st d
  exact ⟨by rw [he.charge]; simp [h], by rw [he.heat]; simp [h]⟩

/-- The changes of power state are passed as well from a state alike. -/
theorem Dev.Passes.of_alike {d e f : Dev} {p : PowerState} {ps : List PowerState} (h : e.Passes f (p :: ps))
    (ha : Dev.AlikeTo p d e) : d.Passes f (p :: ps) := by
  cases ps with
  | nil => exact Entered.of_alike h ha
  | cons q qs =>
    obtain ⟨m, hm, hr⟩ := h
    exact ⟨m, hm.of_alike ha, hr⟩

/-! ### Rises (R117, R118) -/

theorem riseUp_eq (d : Dev) : riseUp d =
    if d.pins.powerGood then powerTo .on (powerTo .poweringUp d) else powerTo .poweringUp d := by
  have hp : (powerTo .poweringUp d).pins = d.pins := by simp
  rw [← hp]
  rfl

theorem riseUp_passes (d : Dev) : d.Passes (riseUp d) d.rise := by
  rw [riseUp_eq, Dev.rise]
  split
  · exact ⟨powerTo .poweringUp d, powerTo_entered .poweringUp d, powerTo_entered .on _⟩
  · exact powerTo_entered .poweringUp d

/-- A rise leaves a link that is DOWN with the PLI and the KTU as they were, until ON. -/
theorem powerTo_poweringUp_of_down {d : Dev} (hl : d.pli.linkUp = false) :
    (powerTo .poweringUp d).pli = d.pli ∧ (powerTo .poweringUp d).ktu = d.ktu := by
  rw [powerTo_of_down hl (.inl (by simp))]
  exact ⟨(blocksTold_link (by simp) d).1, blocksTold_ktu _ d⟩

/-- A link UP is read as well from a state with the same PLI and tables before it. -/
theorem Dev.LinkRose.of_same {d e f : Dev} {u : Ktu} (h : e.LinkRose f u) (hp : e.pli = d.pli) (ht : e.tst = d.tst) :
    d.LinkRose f u :=
  ⟨by rw [← hp]; exact h.link, h.raised, by rw [← ht]; exact h.notice, by rw [← ht]; exact h.keys⟩

theorem riseUp_rises (d : Dev) : d.Rises (riseUp d) d.ktu := by
  refine ⟨riseUp_passes d, fun ⟨hl, hg, hr⟩ => ?_, fun hl h => ?_⟩
  · obtain ⟨hp, hk⟩ := powerTo_poweringUp_of_down hl
    rw [riseUp_eq, if_pos hg, ← hk]
    exact (powerTo_on_rose (by rw [hp, hl]) (by simpa using hr)).of_same hp (by simp)
  · obtain ⟨hp, hk⟩ := powerTo_poweringUp_of_down hl
    rw [riseUp_eq]
    split
    · rename_i hg
      have hr : d.pins.platformReset = true := h.resolve_left (by simp [hg])
      rw [powerTo_of_down (by rw [hp, hl]) (.inr (by simpa using hr))]
      exact ⟨(blocksTold_ktu _ _).trans hk, (blocksTold_link (by simp) _).1.trans hp⟩
    · exact ⟨hk, hp⟩

theorem riseUp_mse (d : Dev) : (riseUp d).mse = d.mse.retime (d.scanCalled .on) := by
  rw [riseUp_eq]
  split
  · rw [powerTo_mse, powerTo_mse, scanCalled_congr (d := d) (by simp)]
    exact retime_retime _ _
  · exact powerTo_mse _ _

/-- The PPU after a rise. -/
theorem riseUp_ppu (d : Dev) : ∃ t r, (r = d.ppu.request ∨ r = none) ∧ (riseUp d).ppu = { d.ppu with
    power := if d.pins.powerGood then .on else .poweringUp, transition := t, request := r } := by
  obtain ⟨r, hr, hp⟩ := powerTo_ppu_eq .poweringUp d
  obtain ⟨r', hr', hp'⟩ := powerTo_ppu_eq .on (powerTo .poweringUp d)
  rw [riseUp_eq]
  split
  · refine ⟨_, r', ?_, by rw [hp', hp]⟩
    rcases hr' with h | h
    · rw [h, hp]; exact hr
    · exact .inr h
  · exact ⟨_, r, hr, hp⟩

theorem riseUp_linkUp (d : Dev) : (riseUp d).pli.linkUp = (d.pins.powerGood && !d.pins.platformReset) := by
  rw [riseUp_eq]
  cases d.pins.powerGood <;> simp

/-! ### Wakes (R118, R132, R136) -/

/-- A wake recorded (R136). -/
def Wku.woken (w : Wku) (x : WakeSource) : Wku :=
  { w with lastSource := some x, seen := w.seen ||| BitVec.twoPow 7 x.index }

/-- The PPU as a wake clears it before the rise (R118). -/
def Ppu.forWake (p : Ppu) : Ppu := { p with restartPending := false, restartTimer := none, cause := .none }

theorem takeWake_eq (d : Dev) : takeWake d = riseUp (d.setPpu d.ppu.forWake) := rfl

theorem recordWake_eq (w : WakeSource) (d : Dev) : recordWake w d = d.setWku (d.wku.woken w) := rfl

/-- An offer that WAKE lets rise the platform (R132). -/
theorem offerWake_of_would {w : WakeSource} {d : Dev} (h : d.WouldWake w) :
    offerWake w d = riseUp ((d.setWku (d.wku.woken w)).setPpu d.ppu.forWake) := by
  unfold offerWake
  rcases h with ⟨hp, he⟩ | ⟨hp, he⟩ <;> simp [hp, he, takeWake_eq, recordWake_eq]

/-- An offer that is latched in SLEEP_ENTRY (R119). -/
theorem offerWake_of_latch {w : WakeSource} {d : Dev} (hp : d.ppu.power = .sleepEntry)
    (he : (d.wakeEntry w).inSleep = true) :
    offerWake w d = (d.setPpu { d.ppu with wakeLatch := true }).setWku (d.wku.woken w) := by
  unfold offerWake
  simp only [hp, he]
  rfl

/-- An offer that is dropped (R132). -/
theorem offerWake_of_not {w : WakeSource} {d : Dev} (h : ¬ d.WouldWake w)
    (hl : ¬ (d.ppu.power = .sleepEntry ∧ (d.wakeEntry w).inSleep = true)) : offerWake w d = d := by
  simp only [Dev.WouldWake, not_or, not_and, Bool.not_eq_true] at h hl
  obtain ⟨hs, ho⟩ := h
  unfold offerWake
  split <;> rename_i hp
  · simp [hl hp]
  · simp [hs hp]
  · simp [ho hp]
  all_goals rfl

/-- The rises of a state that differs in what no block reads at one. -/
theorem Dev.Rises.of_same {d e f : Dev} {u : Ktu} (h : e.Rises f u) (hb : Dev.AlikeTo .poweringUp d e)
    (hg : e.pins.powerGood = d.pins.powerGood) (hr : e.pins.platformReset = d.pins.platformReset)
    (hp : e.pli = d.pli) : d.Rises f u := by
  have hrise : e.rise = d.rise := by unfold Dev.rise; rw [hg]
  refine ⟨?_, fun ⟨hl, hg', hr'⟩ => ?_, fun hl hn => ?_⟩
  · have := h.blocks
    rw [hrise] at this
    unfold Dev.rise at this ⊢
    split <;> rename_i hc <;> simp only [hc] at this <;> exact this.of_alike hb
  · exact (h.link ⟨by rw [hp, hl], by rw [hg, hg'], by rw [hr, hr']⟩).of_same hp hb.tst
  · rw [← hp]
    exact h.still (by rw [hp, hl]) (by rw [hg, hr]; exact hn)

/-- What a wake that rises the platform makes of the part: it is recorded and taken, and the blocks take the rise. -/
theorem offerWake_wakes {w : WakeSource} {d : Dev} (h : d.WouldWake w) :
    d.WokenBy (offerWake w d) w ∧ d.Rises (offerWake w d) d.ktu ∧ (offerWake w d).wku = d.wku.woken w ∧
      (offerWake w d).mse = d.mse.retime (d.scanCalled .on) ∧
      ∃ t r, (offerWake w d).ppu = { d.ppu.forWake with
        power := if d.pins.powerGood then .on else .poweringUp, transition := t, request := r } := by
  rw [offerWake_of_would h]
  generalize hx : (d.setWku (d.wku.woken w)).setPpu d.ppu.forWake = x
  have hrise : d.Rises (riseUp x) d.ktu := by
    have hk : x.ktu = d.ktu := by rw [← hx]; rfl
    rw [← hk]
    refine (riseUp_rises x).of_same (.of_eq ?_ ?_ ?_ ?_ ?_) ?_ ?_ ?_ <;> rw [← hx] <;> rfl
  have hwku : (riseUp x).wku = d.wku.woken w := by rw [(riseUp_frame x).2.2.2.1, ← hx]; rfl
  obtain ⟨t, r, -, hp⟩ := riseUp_ppu x
  have hp : (riseUp x).ppu = { d.ppu.forWake with
      power := if d.pins.powerGood then .on else .poweringUp, transition := t, request := r } := by
    rw [hp, ← hx]; rfl
  refine ⟨⟨by rw [hwku]; rfl, by rw [hwku]; rfl, by rw [hp], ⟨by rw [hp]; rfl, by rw [hp]; rfl, by rw [hp]; rfl⟩,
    ?_, fun hl => ?_⟩, hrise, hwku, ?_, t, r, hp⟩
  · rw [riseUp_linkUp, ← hx]; rfl
  · obtain ⟨hlink, hraised, ⟨rest, -, hq⟩, -⟩ := hrise.link hl
    refine ⟨hraised, by rw [hlink], by rw [hlink], by rw [hlink], by rw [hlink], fun hm => ?_⟩
    rw [hq, if_pos hm]
    rfl
  · rw [riseUp_mse, ← hx]; rfl

end Sys2Proof.Machine

namespace Sys2Proof.Machine

/-! ## The wake line, the power timers and the forced OFFs settled -/

theorem ends_of_run {c : Instr} {s : State} {f : Dev → Dev} {d : Dev} (hc : exec c s = s.run f)
    (hd : f s.dev = d) : Ends c s d := by
  unfold Ends
  rw [hc, run_eq, hd]

/-- A wake is taken as well from a state with the same sticky record, lines and link before it. -/
theorem Dev.WokenBy.of_same {d e f : Dev} {w : WakeSource} (h : e.WokenBy f w) (hs : e.wku.seen = d.wku.seen)
    (hg : e.pins.powerGood = d.pins.powerGood) (hr : e.pins.platformReset = d.pins.platformReset)
    (hl : e.pli.linkUp = d.pli.linkUp) (ht : e.tst = d.tst) : d.WokenBy f w :=
  ⟨h.source, by rw [← hs]; exact h.seen, by rw [← hg]; exact h.power, h.restart,
    by rw [← hg, ← hr]; exact h.link, fun ⟨h1, h2, h3⟩ => by
      rw [← ht]; exact h.told ⟨hl.trans h1, hg.trans h2, hr.trans h3⟩⟩

/-- Settles O36, by the three ways in which an offer is judged. -/
theorem wakeLineIsTakenByItsEdge : Obligations.WakeLineIsTakenByItsEdge := by
  intro s
  refine ⟨fun ha => ?_, fun ha => ?_⟩
  · intro low
    have hev : wakeLineEvent s.dev = offerWake .wakeLine low := if_neg ha
    refine ⟨fun hw => ?_, fun hp he => ?_, fun hw hl => ?_⟩
    · obtain ⟨hwoken, hrises, hwku, hmse, -⟩ := offerWake_wakes (w := .wakeLine) (d := low) hw
      exact ⟨_, ends_of_run (f := wakeLineEvent) rfl hev, hwoken.of_same rfl rfl rfl rfl rfl, hwku,
        hmse ▸ retime_retimed _ _, hrises.of_same (.of_eq rfl rfl rfl rfl rfl) rfl rfl rfl⟩
    · exact ends_of_run (f := wakeLineEvent) rfl (hev.trans (offerWake_of_latch (d := low) hp he))
    · exact ends_of_run (f := wakeLineEvent) rfl (hev.trans (offerWake_of_not (d := low) hw hl))
  · exact ends_of_run (f := wakeLineInactiveEvent) rfl (if_pos ha)

/-- A power timeout ends in OFF with POWER_FAULT (R118, R125). -/
theorem faultOff_spec (d : Dev) (p : Ppu) :
    (powerTo .off (handFault (d.setPpu p))).ppu.power = .off ∧
      (powerTo .off (handFault (d.setPpu p))).ppu.transition = none ∧
      (powerTo .off (handFault (d.setPpu p))).wku = { d.wku with powerFault := true } ∧
      (powerTo .off (handFault (d.setPpu p))).tst = d.tst ∧
      (powerTo .off (handFault (d.setPpu p))).pins = d.pins ∧
      d.mse.Retimed (powerTo .off (handFault (d.setPpu p))).mse (d.scanCalled .off) ∧
      d.Entered (powerTo .off (handFault (d.setPpu p))) .off := by
  refine ⟨by simp, by simp [Dev.transitionFor], by simp [handFault], by simp [handFault], by simp [handFault],
    powerTo_retimed .off (handFault (d.setPpu p)), (powerTo_entered .off _).of_alike (.of_eq rfl rfl rfl rfl rfl)⟩

/-- Settles O34: each timer's expiry is one change of power state, or a rise. -/
theorem powerTimersExpire : Obligations.PowerTimersExpire := by
  intro s
  refine ⟨fun hp ht => ?_, fun hp ht => ?_, fun ht => ?_⟩
  · have hev : powerUpTimeoutEvent s.dev = powerTo .off (handFault s.dev) := if_pos ⟨hp, ht⟩
    exact ⟨_, ends_of_run (f := powerUpTimeoutEvent) rfl hev, faultOff_spec s.dev s.dev.ppu⟩
  · have hn : s.dev.ppu.transition.isNone = false := by simpa using ht
    rcases hp with hp | hp
    · have hev : powerDownTimeoutEvent s.dev = powerTo .off (handFault (s.dev.setPpu { s.dev.ppu with
          restartPending := false, restartTimer := none })) := by simp [powerDownTimeoutEvent, hn, hp]
      obtain ⟨r, -, he⟩ := powerTo_ppu_eq .off (handFault (s.dev.setPpu { s.dev.ppu with
        restartPending := false, restartTimer := none }))
      obtain ⟨h1, h2, h3⟩ := faultOff_spec s.dev { s.dev.ppu with restartPending := false, restartTimer := none }
      exact ⟨_, ends_of_run (f := powerDownTimeoutEvent) rfl hev, h1, h2,
        fun _ => ⟨by rw [he]; rfl, by rw [he]; rfl, by rw [he]; rfl⟩, fun hs => by simp [hp] at hs, h3⟩
    · have hev : powerDownTimeoutEvent s.dev = powerTo .off (handFault (s.dev.setPpu { s.dev.ppu with
          wakeLatch := false, cause := .none })) := by simp [powerDownTimeoutEvent, hn, hp]
      obtain ⟨r, -, he⟩ := powerTo_ppu_eq .off (handFault (s.dev.setPpu { s.dev.ppu with
        wakeLatch := false, cause := .none }))
      obtain ⟨h1, h2, h3⟩ := faultOff_spec s.dev { s.dev.ppu with wakeLatch := false, cause := .none }
      exact ⟨_, ends_of_run (f := powerDownTimeoutEvent) rfl hev, h1, h2, fun hs => by simp [hp] at hs,
        fun _ => ⟨by rw [he]; rfl, by rw [he]; rfl⟩, h3⟩
  · have hev : restartEvent s.dev = riseUp (s.dev.setPpu s.dev.ppu.forWake) := if_pos ht
    obtain ⟨t, r, -, hp⟩ := riseUp_ppu (s.dev.setPpu s.dev.ppu.forWake)
    refine ⟨_, ends_of_run (f := restartEvent) rfl hev, by rw [hp]; rfl, by rw [hp]; rfl, by rw [hp]; rfl,
      by rw [hp]; rfl, by simp, by simp, by simp, ?_,
      (riseUp_rises _).of_same (.of_eq rfl rfl rfl rfl rfl) rfl rfl rfl⟩
    rw [riseUp_mse]
    exact retime_retimed _ _

/-! ### Power-downs (R124, R125) -/

theorem powerDown_eq (c : Cause) (d : Dev) :
    powerDown c d =
      let e := handCause c (d.setPpu { d.ppu with cause := c, wakeLatch := false })
      if d.pins.powerGood then powerTo .poweringDown e else reachOff (powerTo .poweringDown e) := by
  have hp (x : Dev) : (powerTo .poweringDown x).pins = x.pins := by simp
  unfold powerDown
  dsimp only
  rw [hp]
  rfl

/-- OFF reached is a change to OFF, but for the restart timer (R123). -/
theorem reachOff_eq (d : Dev) : reachOff d = powerTo .off d ∨ (d.ppu.restartPending = true ∧
    reachOff d = (powerTo .off d).setPpu { (powerTo .off d).ppu with
      restartTimer := some (Timer.ofMs d.tst.power.restartOffTime) }) := by
  obtain ⟨r, -, he⟩ := powerTo_ppu_eq .off d
  have ht : (powerTo .off d).tst = d.tst := by simp
  have hr : (powerTo .off d).ppu.restartPending = d.ppu.restartPending := by rw [he]
  unfold reachOff
  dsimp only
  rw [hr, ht]
  cases h : d.ppu.restartPending
  · exact .inl rfl
  · exact .inr ⟨rfl, rfl⟩

theorem setPpu_shownBy (d : Dev) (x : Ppu) (p : PowerState) : d.ShownBy (d.setPpu x) p :=
  ⟨rfl, rfl, rfl, rfl, rfl, fun _ h => h, fun _ _ h _ => h⟩

/-- A link that has fallen stays so whatever else the PPU keeps. -/
theorem Dev.LinkFell.setPpu {d e : Dev} (h : d.LinkFell e) {x : Ppu} (hx : x.request = e.ppu.request) :
    d.LinkFell (e.setPpu x) :=
  ⟨h.link, hx.trans h.request, h.streams, h.keys, h.sequences, h.records, h.runs⟩

theorem reachOff_entered (d : Dev) : d.Entered (reachOff d) .off := by
  rcases reachOff_eq d with h | ⟨-, h⟩ <;> rw [h]
  · exact powerTo_entered .off d
  · exact (powerTo_entered .off d).shown (setPpu_shownBy _ _ _)

theorem reachOff_fell {d e : Dev} (h : d.LinkFell e) : d.LinkFell (reachOff e) := by
  rcases reachOff_eq e with he | ⟨-, he⟩ <;> rw [he]
  · exact h.powerTo (by simp)
  · exact (h.powerTo (st := .off) (by simp)).setPpu rfl

theorem reachOff_mse (d : Dev) : (reachOff d).mse = d.mse.retime (d.scanCalled .off) := by
  rcases reachOff_eq d with h | ⟨-, h⟩ <;> rw [h] <;> exact powerTo_mse .off d

theorem reachOff_linkUp (d : Dev) : (reachOff d).pli.linkUp = false := by
  rcases reachOff_eq d with h | ⟨-, h⟩ <;> rw [h] <;> simp

theorem reachOff_graces (d : Dev) : (reachOff d).chg.graceTimer = none ∧ (reachOff d).tfu.graceTimer = none := by
  rcases reachOff_eq d with h | ⟨-, h⟩ <;> rw [h] <;> exact powerTo_stops_graces (by simp) d

/-- The PPU after OFF is reached (R123). -/
theorem reachOff_ppu (d : Dev) : ∃ r t, (r = d.ppu.request ∨ r = none) ∧
    (d.ppu.restartPending = true → t = some (Timer.ofMs d.tst.power.restartOffTime)) ∧
    (reachOff d).ppu = { d.ppu with power := .off, transition := none, request := r, restartTimer := t } := by
  obtain ⟨r, hr, he⟩ := powerTo_ppu_eq .off d
  rcases reachOff_eq d with h | ⟨-, h⟩
  · cases hp : d.ppu.restartPending
    · exact ⟨r, d.ppu.restartTimer, hr, by simp, by rw [h, he]; rfl⟩
    · refine ⟨r, some (Timer.ofMs d.tst.power.restartOffTime), hr, fun _ => rfl, ?_⟩
      have hq : (powerTo .off d).ppu.restartPending = true := by rw [he]; exact hp
      have hx : reachOff d = (powerTo .off d).setPpu { (powerTo .off d).ppu with
          restartTimer := some (Timer.ofMs d.tst.power.restartOffTime) } := by
        simp [reachOff, hq]
      rw [hx, setPpu_ppu, he]
      rfl
  · exact ⟨r, _, hr, fun _ => rfl, by rw [h, setPpu_ppu, he]; rfl⟩

/-- What a power-down makes of the PPU (R125). -/
theorem powerDown_ppu (c : Cause) (d : Dev) : ∃ r t, (r = d.ppu.request ∨ r = none) ∧
    (powerDown c d).ppu = { d.ppu with
      power := if d.pins.powerGood then .poweringDown else .off
      transition := if d.pins.powerGood then some (Timer.ofMs d.tst.power.powerDownTimeout) else none
      cause := c, wakeLatch := false, request := r, restartTimer := t } := by
  rw [powerDown_eq]
  dsimp only
  generalize hx : handCause c (d.setPpu { d.ppu with cause := c, wakeLatch := false }) = x
  have hp : x.ppu = { d.ppu with cause := c, wakeLatch := false } := by rw [← hx]; rfl
  obtain ⟨r, hr, he⟩ := powerTo_ppu_eq .poweringDown x
  rw [hp] at hr
  split
  · refine ⟨r, d.ppu.restartTimer, hr, ?_⟩
    rw [he, hp, ← hx]
    rfl
  · obtain ⟨r', t, hr', -, he'⟩ := reachOff_ppu (powerTo .poweringDown x)
    refine ⟨r', t, ?_, by rw [he', he, hp]⟩
    rcases hr' with h | h
    · rw [h, he]; exact hr
    · exact .inr h

theorem powerDown_wku (c : Cause) (d : Dev) : (powerDown c d).wku = { d.wku with lastCause := c } := by
  rw [powerDown_eq]
  dsimp only
  split <;> simp [handCause]

theorem powerDown_linkUp (c : Cause) (d : Dev) : (powerDown c d).pli.linkUp = false := by
  rw [powerDown_eq]
  dsimp only
  split
  · simp
  · exact reachOff_linkUp _

theorem powerDown_graces (c : Cause) (d : Dev) :
    (powerDown c d).chg.graceTimer = none ∧ (powerDown c d).tfu.graceTimer = none := by
  rw [powerDown_eq]
  dsimp only
  split
  · exact powerTo_stops_graces (by simp) _
  · exact reachOff_graces _

/-- Every block takes the changes of a power-down (R116, R125). -/
theorem powerDown_passes (c : Cause) (d : Dev) : d.Passes (powerDown c d) d.fall := by
  have h : d.Entered (powerTo .poweringDown (handCause c (d.setPpu { d.ppu with
      cause := c, wakeLatch := false }))) .poweringDown :=
    (powerTo_entered .poweringDown _).of_alike (.of_eq rfl rfl rfl rfl rfl)
  rw [powerDown_eq, Dev.fall]
  dsimp only
  split
  · exact h
  · exact ⟨_, h, reachOff_entered _⟩

/-- A link that was UP has fallen at the end of a power-down (R183). -/
theorem powerDown_fell (c : Cause) {d : Dev} (hl : d.pli.linkUp = true) : d.LinkFell (powerDown c d) := by
  have h : d.LinkFell (powerTo .poweringDown (handCause c (d.setPpu { d.ppu with
      cause := c, wakeLatch := false }))) :=
    (powerTo_fell (d := handCause c (d.setPpu { d.ppu with cause := c, wakeLatch := false })) hl
      (by simp) (by simp)).of_same ⟨rfl, rfl, rfl, rfl, rfl⟩
  rw [powerDown_eq]
  dsimp only
  split
  · exact h
  · exact reachOff_fell h

theorem powerDown_retimed (c : Cause) {d : Dev} (hg : d.pins.powerGood = true) :
    d.mse.Retimed (powerDown c d).mse (d.scanCalled .poweringDown) := by
  rw [powerDown_eq]
  simp only [hg, if_true]
  exact powerTo_retimed .poweringDown (handCause c (d.setPpu { d.ppu with cause := c, wakeLatch := false }))

/-- A forced OFF from a state that is neither OFF nor POWERING_DOWN is a power-down without a request (R124). -/
theorem forcedOff_of_up (c : Cause) {d : Dev} (ho : d.ppu.power ≠ .off) (hd : d.ppu.power ≠ .poweringDown) :
    forcedOff c d = powerDown c (d.setPpu { d.ppu with request := none, wakeLatch := false }) := by
  unfold forcedOff
  cases hp : d.ppu.power
  case off => exact absurd hp ho
  case poweringDown => exact absurd hp hd
  all_goals rfl

/-! ### The forced OFFs (R82, R97, R115, R124, R125) -/

/-- The part with the override timer and the grace timers as they may have been stopped (R82, R97, R115). -/
def Dev.StopsTimers (d e : Dev) : Prop :=
  e = { d with
    ppu := { d.ppu with overrideTimer := e.ppu.overrideTimer }
    chg := { d.chg with graceTimer := e.chg.graceTimer }
    tfu := { d.tfu with graceTimer := e.tfu.graceTimer } }

/-- A forced OFF that powers the platform down (R124, R125). -/
theorem forcedOff_up {d e : Dev} (h : d.StopsTimers e) (cause : Cause) (ho : d.ppu.power ≠ .off)
    (hd : d.ppu.power ≠ .poweringDown) :
    (forcedOff cause e).ppu.power = (if d.pins.powerGood then .poweringDown else .off) ∧
    (forcedOff cause e).ppu.transition = (if d.pins.powerGood then
      some (Timer.ofMs d.tst.power.powerDownTimeout) else none) ∧
    (forcedOff cause e).ppu.request = none ∧ (forcedOff cause e).ppu.wakeLatch = false ∧
    (forcedOff cause e).ppu.cause = cause ∧ (forcedOff cause e).wku = { d.wku with lastCause := cause } ∧
    (forcedOff cause e).pli.linkUp = false ∧ (forcedOff cause e).mainRail = false ∧
    (forcedOff cause e).sleepRail = false ∧
    (d.pins.powerGood = true → d.mse.Retimed (forcedOff cause e).mse (d.scanCalled .poweringDown)) ∧
    d.Passes (forcedOff cause e) d.fall ∧ (d.pli.linkUp = true → d.LinkFell (forcedOff cause e)) := by
  have hep : e.ppu.power = d.ppu.power := by rw [h]
  rw [forcedOff_of_up cause (hep ▸ ho) (hep ▸ hd)]
  generalize hx : e.setPpu { e.ppu with request := none, wakeLatch := false } = x
  have hpins : x.pins = d.pins := by rw [← hx, h]; rfl
  have htst : x.tst = d.tst := by rw [← hx, h]; rfl
  have hreq : x.ppu.request = none := by rw [← hx]; rfl
  obtain ⟨r, t, hr, hp⟩ := powerDown_ppu cause x
  rw [hreq, or_self] at hr
  rw [hpins, htst, hr] at hp
  have hrails : (powerDown cause x).mainRail = false ∧ (powerDown cause x).sleepRail = false := by
    unfold Dev.mainRail Dev.sleepRail
    rw [hp]
    cases d.pins.powerGood <;> exact ⟨rfl, rfl⟩
  refine ⟨by rw [hp], by rw [hp], by rw [hp], by rw [hp], by rw [hp], ?_, powerDown_linkUp _ _, hrails.1, hrails.2,
    fun hg => ?_, ?_, fun hl => ?_⟩
  · rw [powerDown_wku, ← hx, h]; rfl
  · have hm := powerDown_retimed cause (d := x) (hpins ▸ hg)
    rw [scanCalled_congr htst] at hm
    have hmse : x.mse = d.mse := by rw [← hx, h]; rfl
    exact hmse ▸ hm
  · have hf : x.fall = d.fall := by unfold Dev.fall; rw [hpins]
    have hpass := powerDown_passes cause x
    have ha : Dev.AlikeTo .poweringDown d x := by
      refine ⟨?_, ?_, ?_, ?_, ?_, fun hc => by simp at hc⟩ <;> rw [← hx, h] <;> rfl
    rw [hf] at hpass
    unfold Dev.fall at hpass ⊢
    split <;> rename_i hc <;> simp only [hc] at hpass <;> exact hpass.of_alike ha
  · refine (powerDown_fell cause (d := x) ?_).of_same ⟨?_, ?_, ?_, ?_, ?_⟩ <;> rw [← hx, h]
    · exact hl
    all_goals rfl

/-- A forced OFF in POWERING_DOWN or OFF cancels a restart pending, and else does nothing (R124). -/
theorem forcedOff_down (e : Dev) (cause : Cause) (hp : e.ppu.power = .off ∨ e.ppu.power = .poweringDown) :
    forcedOff cause e = { e with
      ppu := { e.ppu with
        restartPending := false
        restartTimer := if e.ppu.power = .off ∧ e.ppu.restartPending = true then none else e.ppu.restartTimer
        cause := if e.ppu.power = .poweringDown ∧ e.ppu.restartPending = true then cause else e.ppu.cause }
      wku := if e.ppu.restartPending then { e.wku with lastCause := cause } else e.wku } := by
  cases hr : e.ppu.restartPending
  · have hf : forcedOff cause e = e := by rcases hp with hp | hp <;> simp [forcedOff, hp, hr]
    have hq : ({ e.ppu with restartPending := false } : Ppu) = e.ppu := by rw [← hr]
    rw [hf, if_neg (by simp), if_neg (by simp), if_neg (by simp), hq]
  · rcases hp with hp | hp <;> simp [forcedOff, hp, hr, handCause, Dev.setPpu, Dev.setWku]

/-- Settles O32: each of the three timers is stopped, and the PPU takes the forced OFF. -/
theorem forcedOffPowersDown : Obligations.ForcedOffPowersDown := by
  intro s c cause hc
  obtain ⟨e, hr, hs, ho, hb, ht⟩ : ∃ e, Ends c s (forcedOff cause e) ∧ s.dev.StopsTimers e ∧
      (c = .overrideExpiry → e.ppu.overrideTimer = none) ∧
      (c = .batteryGraceExpiry → e.chg.graceTimer = none) ∧
      (c = .criticalGraceExpiry → e.tfu.graceTimer = none) := by
    rcases hc with ⟨rfl, rfl, h⟩ | ⟨rfl, rfl, h⟩ | ⟨rfl, rfl, h⟩
    · exact ⟨_, ends_of_run (f := overrideEvent) rfl (if_pos h), rfl, fun _ => rfl, nofun, nofun⟩
    · exact ⟨_, ends_of_run (f := batteryGraceEvent) rfl (if_pos h), rfl, nofun, fun _ => rfl, nofun⟩
    · exact ⟨_, ends_of_run (f := criticalGraceEvent) rfl (if_pos h), rfl, nofun, nofun, fun _ => rfl⟩
  have hep : e.ppu.power = s.dev.ppu.power := by rw [hs]
  have hrp : e.ppu.restartPending = s.dev.ppu.restartPending := by rw [hs]
  have hother : (forcedOff cause e).ppu.overrideTimer = e.ppu.overrideTimer ∧
      (e.chg.graceTimer = none → (forcedOff cause e).chg.graceTimer = none) ∧
      (e.tfu.graceTimer = none → (forcedOff cause e).tfu.graceTimer = none) := by
    by_cases hp : e.ppu.power = .off ∨ e.ppu.power = .poweringDown
    · rw [forcedOff_down e cause hp]
      exact ⟨rfl, id, id⟩
    · rw [forcedOff_of_up cause (fun h => hp (.inl h)) fun h => hp (.inr h)]
      obtain ⟨r, t, -, h⟩ := powerDown_ppu cause (e.setPpu { e.ppu with request := none, wakeLatch := false })
      obtain ⟨h1, h2⟩ := powerDown_graces cause (e.setPpu { e.ppu with request := none, wakeLatch := false })
      exact ⟨by rw [h]; rfl, fun _ => h1, fun _ => h2⟩
  refine ⟨_, hr, fun h => hother.1.trans (ho h), fun h => hother.2.1 (hb h), fun h => hother.2.2 (ht h), ?_, ?_, ?_,
    fun hn hd => forcedOff_up hs cause hn hd, fun hp => ?_⟩
  · rw [(forcedOff_frame cause e).2.2.2.1, hs]
  · rw [(forcedOff_frame cause e).2.1, hs]
  · rw [(forcedOff_frame cause e).2.2.1, hs]
  · rw [forcedOff_down e cause (hep ▸ hp)]
    have hppu : e.ppu = { s.dev.ppu with overrideTimer := e.ppu.overrideTimer } := congrArg Dev.ppu hs
    have hwku : e.wku = s.dev.wku := by rw [hs]
    dsimp only
    rw [hep, hrp, hwku]
    refine ⟨rfl, rfl, by rw [hppu], rfl, congrArg Dev.chg hs, congrArg Dev.tfu hs, ?_, ?_, ?_, ?_, ?_, ?_⟩ <;> rw [hs]

end Sys2Proof.Machine

namespace Sys2Proof.Machine

/-! ## Power-good settled (R117, R119, R123, R126) -/

/-! ### Changes of power state in a row -/

theorem Dev.Entered.passes {d e : Dev} {p : PowerState} (h : d.Entered e p) : d.Passes e [p] := h

theorem Dev.Passes.append {d m e : Dev} {ps qs : List PowerState} (h : d.Passes m ps) (k : m.Passes e qs) :
    d.Passes e (ps ++ qs) := by
  induction ps generalizing d with
  | nil => exact h.elim
  | cons p ps ih =>
    cases ps with
    | nil =>
      cases qs with
      | nil => exact k.elim
      | cons q qs => exact ⟨m, h, k⟩
    | cons r rs =>
      obtain ⟨x, hx, hr⟩ := h
      exact ⟨x, hx, ih hr⟩

/-- The changes passed are read as well from a state that shows the one reached. -/
theorem Dev.Passes.shown {d e f : Dev} {ps : List PowerState} (h : d.Passes e ps) (hs : ∀ p ∈ ps, e.ShownBy f p) :
    d.Passes f ps := by
  induction ps generalizing d with
  | nil => exact h.elim
  | cons p ps ih =>
    cases ps with
    | nil => exact Entered.shown h (hs p (List.mem_singleton_self p))
    | cons r rs =>
      obtain ⟨x, hx, hr⟩ := h
      exact ⟨x, hx, ih hr fun q hq => hs q (List.mem_cons_of_mem p hq)⟩

/-- The power state has passed through these states with power-good deasserted and the link DOWN at the end. -/
structure Dev.Stands (d e : Dev) (ps : List PowerState) (last : PowerState) : Prop where
  passes : d.Passes e ps
  power : e.ppu.power = last
  link : e.pli.linkUp = false
  good : e.pins.powerGood = false

/-- A PPU or a WKU written, after which the changes read as they did. -/
theorem Dev.Stands.write {d e : Dev} {ps : List PowerState} {p : PowerState} (h : d.Stands e ps p) (x : Ppu) (w : Wku)
    (hx : x.power = p) : d.Stands ((e.setPpu x).setWku w) ps p :=
  ⟨h.passes.shown fun _ _ => ⟨rfl, rfl, rfl, rfl, rfl, fun _ y => y, fun _ _ y _ => y⟩, hx, h.link, h.good⟩

/-- A notice raised, no state passed being ON. -/
theorem Dev.Stands.raise {d e : Dev} {ps : List PowerState} {p : PowerState} (h : d.Stands e ps p) (n : Notice)
    (hn : .on ∉ ps) : d.Stands (raise n e) ps p :=
  ⟨h.passes.shown fun _ hq => ⟨rfl, rfl, rfl, rfl, rfl, fun c => raise_keeps_raised n e c,
    fun hc => absurd (hc ▸ hq) hn⟩, h.power, h.link, h.good⟩

/-- A rise with power-good deasserted waits in POWERING_UP (R118). -/
theorem Dev.Stands.rise {d e : Dev} {ps : List PowerState} {p : PowerState} (h : d.Stands e ps p) (x : Ppu) (w : Wku) :
    d.Stands (riseUp ((e.setPpu x).setWku w)) (ps ++ [.poweringUp]) .poweringUp := by
  generalize hy : (e.setPpu x).setWku w = y
  have hg : y.pins.powerGood = false := by rw [← hy]; exact h.good
  have ha : Dev.AlikeTo .poweringUp e y := by rw [← hy]; exact .of_eq rfl rfl rfl rfl rfl
  rw [riseUp_eq, if_neg (by simp [hg])]
  exact ⟨h.passes.append ((powerTo_entered .poweringUp y).of_alike ha).passes, by simp, by simp, by simpa using hg⟩

/-- A forced OFF with power-good deasserted goes on to OFF (R125). -/
theorem Dev.Stands.forcedOff {d e : Dev} {ps : List PowerState} {p : PowerState} (h : d.Stands e ps p) (c : Cause)
    (ho : p ≠ .off) (hd : p ≠ .poweringDown) :
    d.Stands (forcedOff c e) (ps ++ [.poweringDown, .off]) .off ∧
      (Machine.forcedOff c e).wku = { e.wku with lastCause := c } ∧
      (Machine.forcedOff c e).ppu.wakeLatch = false := by
  have he := h.power
  rw [forcedOff_of_up c (he ▸ ho) (he ▸ hd)]
  generalize hx : e.setPpu { e.ppu with request := none, wakeLatch := false } = x
  have hg : x.pins.powerGood = false := by rw [← hx]; exact h.good
  obtain ⟨r, t, -, hp⟩ := powerDown_ppu c x
  simp only [hg, Bool.false_eq_true, if_false] at hp
  have hf : x.fall = [.poweringDown, .off] := by simp [Dev.fall, hg]
  have hpass : x.Passes (powerDown c x) [.poweringDown, .off] := hf ▸ powerDown_passes c x
  have ha : Dev.AlikeTo .poweringDown e x := by rw [← hx]; exact .of_eq rfl rfl rfl rfl rfl
  refine ⟨⟨h.passes.append (hpass.of_alike ha), by rw [hp], powerDown_linkUp c x, by simpa using hg⟩, ?_, by rw [hp]⟩
  rw [powerDown_wku, ← hx]
  rfl

/-- A forced OFF in OFF stays there (R124). -/
theorem Dev.Stands.forcedOff_off {d e : Dev} {ps : List PowerState} (h : d.Stands e ps .off) (c : Cause) :
    d.Stands (Machine.forcedOff c e) ps .off ∧ (Machine.forcedOff c e).ppu.wakeLatch = e.ppu.wakeLatch := by
  rw [forcedOff_down e c (.inl h.power)]
  exact ⟨⟨h.passes.shown fun _ _ => ⟨rfl, rfl, rfl, rfl, rfl, fun _ y => y, fun _ _ y _ => y⟩, h.power, h.link,
    h.good⟩, rfl⟩

/-! ### The entry to SLEEP (R83, R98, R119) -/

/-- SLEEP has been reached from SLEEP_ENTRY, and nothing has moved on since but notices. -/
structure Dev.Rests (d e : Dev) : Prop where
  stands : d.Stands e [.sleep] .sleep
  latch : e.ppu.wakeLatch = d.ppu.wakeLatch
  wku : e.wku = d.wku
  mse : e.mse = d.mse.retime (d.scanCalled .sleep)
  soc : e.chg.systemSoc = d.batterySoc
  tst : e.tst = d.tst

theorem Dev.Rests.raise {d e : Dev} (h : d.Rests e) (n : Notice) : d.Rests (raise n e) where
  stands := h.stands.raise n (by simp)
  latch := h.latch
  wku := h.wku
  mse := h.mse
  soc := h.soc
  tst := h.tst

/-- A change of power state leaves the system SoC that the records give (R45, R82). -/
theorem Dev.Entered.batterySoc {d e : Dev} {p : PowerState} (h : d.Entered e p) : e.batterySoc = d.batterySoc := by
  have hm (k : Pack) : e.mon k = (d.mon k).retime (if p = .on then d.tst.power.pollOn else d.tst.power.pollOther) :=
    (h.polls k).trans (retime_eq ..).symm
  refine batterySoc_congr (fun k => ?_) (fun k => ?_) (by rw [h.charge])
  · rw [hm]; exact (retime_record ..).1
  · rw [hm]; exact (retime_record ..).2

theorem powerTo_sleep_rests {d : Dev} :
    d.Rests (powerTo .sleep (d.setPins { d.pins with powerGood := false })) := by
  obtain ⟨r, -, hp⟩ := powerTo_ppu_eq .sleep (d.setPins { d.pins with powerGood := false })
  have he : d.Entered (powerTo .sleep (d.setPins { d.pins with powerGood := false })) .sleep :=
    (powerTo_entered .sleep _).of_alike (.of_eq rfl rfl rfl rfl rfl)
  refine ⟨⟨he.passes, by simp, by simp, by simp⟩, by rw [hp]; rfl, by simp, powerTo_mse .sleep _, ?_, by simp⟩
  exact he.watch.soc.trans he.batterySoc

/-- Where D0 to D3 are ABSENT, S alone can be hot (R88, R96). -/
theorem hotBy_of_dies_absent {e : Dev} (h : e.tfu.die.map Source.cond = List.replicate 4 .absent) (m : Nat) :
    e.HotBy m ↔ e.tfu.skin.cond = .real ∧ (e.tst.thermal.skinCritical : Int) - m ≤ e.tfu.skin.value := by
  have hlen : e.tfu.die.length = 4 := by simpa using congrArg List.length h
  constructor
  · rintro ⟨i, x, hx, hc, hv⟩
    rw [Tfu.heatSources, List.getElem?_append] at hx
    split at hx
    · have hm : x.cond ∈ e.tfu.die.map Source.cond := List.mem_map_of_mem (List.mem_of_getElem? hx)
      rw [h] at hm
      simp [hc] at hm
    · rename_i hi
      obtain ⟨h0, rfl⟩ := List.getElem?_eq_some_iff.mp hx
      have hi : ¬ i < 4 := hlen ▸ hi
      simp only [ThermalTab.criticalOf, hi, if_false] at hv
      simp only [List.getElem_singleton] at hc hv
      exact ⟨hc, hv⟩
  · rintro ⟨hc, hv⟩
    exact ⟨4, e.tfu.skin, by rw [Tfu.heatSources, List.getElem?_append]; simp [hlen], hc, hv⟩

/-- The low mark and the critical mark as the entry to SLEEP finds them (R82, R96). -/
theorem powerTo_sleep_marks (d : Dev) :
    ((powerTo .sleep (d.setPins { d.pins with powerGood := false })).chg.lowMark = true ↔
      ∃ x, d.batterySoc = some x ∧ x ≤ d.tst.power.criticalSoc) ∧
    ((powerTo .sleep (d.setPins { d.pins with powerGood := false })).tfu.critical = true ↔
      d.tfu.skin.cond = .real ∧ (d.tst.thermal.skinCritical : Int) -
        (if d.tfu.critical then d.tst.thermal.criticalHysteresis else 0) ≤ d.tfu.skin.value) := by
  have he : d.Entered (powerTo .sleep (d.setPins { d.pins with powerGood := false })) .sleep :=
    (powerTo_entered .sleep _).of_alike (.of_eq rfl rfl rfl rfl rfl)
  generalize powerTo .sleep (d.setPins { d.pins with powerGood := false }) = e at he
  have hsoc := he.watch.soc.trans he.batterySoc
  refine ⟨by rw [he.watch.mark, hsoc, he.frame.1], ?_⟩
  have hby (m : Nat) : e.HotBy m ↔ d.tfu.skin.cond = .real ∧
      (d.tst.thermal.skinCritical : Int) - m ≤ d.tfu.skin.value := by
    have hskin : e.tfu.skin = d.tfu.skin := by rw [he.heat]
    rw [hotBy_of_dies_absent he.dies, hskin, he.frame.1]
  obtain ⟨hset, hclear, hkeep⟩ := he.mark
  rw [he.frame.1] at hclear hkeep
  simp only [hby] at hset hclear hkeep
  cases hw : d.tfu.critical <;> rw [hw] at hkeep
  · refine ⟨fun hc => by_contra fun hn => ?_, fun h0 => hset (by simpa using h0)⟩
    by_cases hh : d.tfu.skin.cond = .real ∧
        (d.tst.thermal.skinCritical : Int) - d.tst.thermal.criticalHysteresis ≤ d.tfu.skin.value
    · simp [hkeep (by simpa using hn) hh] at hc
    · simp [hclear hh] at hc
  · refine ⟨fun hc => by_contra fun hn => ?_, fun hh => ?_⟩
    · simp [hclear (by simpa using hn)] at hc
    · by_cases h0 : d.tfu.skin.cond = .real ∧ (d.tst.thermal.skinCritical : Int) - (0 : Nat) ≤ d.tfu.skin.value
      · exact hset h0
      · exact hkeep h0 (by simpa using hh)

/-! #### The battery watch at the entry to SLEEP (R83) -/

theorem wakeEntry_congr {d e : Dev} (h : e.tst = d.tst) (w : WakeSource) : e.wakeEntry w = d.wakeEntry w := by
  unfold Dev.wakeEntry; rw [h]

/-- A crossing of the low mark that its wake enable lets rise the platform (R83, R118). -/
theorem Dev.Rests.watch_wakes {d e : Dev} (h : d.Rests e) (hw : (d.wakeEntry .batteryCritical).inSleep = true) :
    d.Stands (watchSleep true e) [.sleep, .poweringUp] .poweringUp ∧
      (watchSleep true e).wku = d.wku.woken .batteryCritical := by
  generalize hx : Machine.raise (.batteryCritical (e.chg.systemSoc.getD 0)) e = x
  have hr : d.Rests x := hx ▸ h.raise _
  have ho : offerWake .batteryCritical x = riseUp ((x.setPpu x.ppu.forWake).setWku (x.wku.woken .batteryCritical)) :=
    (offerWake_of_would (.inl ⟨hr.stands.power, by rw [wakeEntry_congr hr.tst]; exact hw⟩)).trans
      (congrArg riseUp rfl)
  have hs := hr.stands.rise x.ppu.forWake (x.wku.woken .batteryCritical)
  have he : watchSleep true e = riseUp ((x.setPpu x.ppu.forWake).setWku (x.wku.woken .batteryCritical)) := by
    unfold watchSleep shutdownCheck
    simp only [if_true, hx, ho]
    rw [if_neg (by rw [hs.power]; simp)]
  rw [he]
  exact ⟨hs, by rw [(riseUp_frame _).2.2.2.1, setWku_wku, hr.wku]⟩

/-- With no crossing that wakes, the watch is the shutdown check (R83). -/
theorem Dev.Rests.watch_checks {d e : Dev} (h : d.Rests e) {low : Bool}
    (hw : low = true → (d.wakeEntry .batteryCritical).inSleep = false) :
    ∃ x, d.Rests x ∧ watchSleep low e = shutdownCheck x := by
  cases low
  · exact ⟨e, h, rfl⟩
  · have hr := h.raise (.batteryCritical (e.chg.systemSoc.getD 0))
    refine ⟨_, hr, ?_⟩
    unfold watchSleep
    rw [if_pos rfl, offerWake_of_not]
    · rintro (⟨-, hi⟩ | ⟨hp, -⟩)
      · rw [wakeEntry_congr hr.tst, hw rfl] at hi
        simp at hi
      · simp [h.stands.power] at hp
    · rintro ⟨hp, -⟩
      simp [h.stands.power] at hp

theorem Dev.Rests.watch_rests {d e : Dev} (h : d.Rests e) {low : Bool}
    (hw : low = true → (d.wakeEntry .batteryCritical).inSleep = false)
    (hs : (d.wakeEntry .batteryCritical).inSleep = true ∨ ∀ x, d.batterySoc = some x → d.tst.power.shutdownSoc < x) :
    d.Rests (watchSleep low e) := by
  obtain ⟨x, hx, he⟩ := h.watch_checks hw
  rw [he]
  unfold shutdownCheck
  rw [if_neg]
  · exact hx
  · rintro ⟨-, hi, hb⟩
    rw [wakeEntry_congr hx.tst] at hi
    rw [hx.soc, hx.tst] at hb
    obtain ⟨y, hy, hl⟩ := (socAtOrBelow_iff _ _).mp hb
    rcases hs with hs | hs
    · simp [hs] at hi
    · exact absurd (hs y hy) (by omega)

theorem Dev.Rests.watch_shuts {d e : Dev} (h : d.Rests e) {low : Bool}
    (hw : (d.wakeEntry .batteryCritical).inSleep = false)
    (hs : ∃ x, d.batterySoc = some x ∧ x ≤ d.tst.power.shutdownSoc) :
    d.Stands (watchSleep low e) [.sleep, .poweringDown, .off] .off ∧
      (watchSleep low e).wku = { d.wku with lastCause := .battery } := by
  obtain ⟨x, hx, he⟩ := h.watch_checks (low := low) fun _ => hw
  have hf : watchSleep low e = forcedOff .battery x := by
    rw [he]
    unfold shutdownCheck
    rw [if_pos]
    refine ⟨hx.stands.power, ?_, ?_⟩
    · rw [wakeEntry_congr hx.tst, hw]; rfl
    · rw [hx.soc, hx.tst]
      exact (socAtOrBelow_iff _ _).mpr hs
  obtain ⟨hst, hwk, -⟩ := hx.stands.forcedOff .battery (by simp) (by simp)
  rw [hf]
  exact ⟨hst, by rw [hwk, hx.wku]⟩

/-! #### The wake latch as SLEEP is reached (R119) -/

theorem takeLatch_clears (d : Dev) : (takeLatch d).ppu.wakeLatch = false := by
  unfold takeLatch
  cases h : d.ppu.wakeLatch
  · simpa using h
  · simp only [if_true]
    split
    · rw [takeWake_eq]
      obtain ⟨t, r, -, hp⟩ := riseUp_ppu ((d.setPpu { d.ppu with wakeLatch := false }).setPpu
        (d.setPpu { d.ppu with wakeLatch := false }).ppu.forWake)
      rw [hp]
      rfl
    · rfl

/-- A state that has gone on from SLEEP only loses the latch (R119). -/
theorem Dev.Stands.latch {d e : Dev} {ps : List PowerState} {p : PowerState} (h : d.Stands e ps p) (hp : p ≠ .sleep) :
    d.Stands (takeLatch e) ps p ∧ (takeLatch e).wku = e.wku := by
  unfold takeLatch
  split
  · dsimp only
    rw [if_neg (by rw [setPpu_ppu, h.power]; exact hp)]
    exact ⟨h.write { e.ppu with wakeLatch := false } e.wku h.power, rfl⟩
  · exact ⟨h, rfl⟩

theorem Dev.Rests.latch_set {d e : Dev} (h : d.Rests e) (hl : d.ppu.wakeLatch = true) :
    d.Stands (takeLatch e) [.sleep, .poweringUp] .poweringUp ∧ (takeLatch e).wku = d.wku := by
  have he : takeLatch e = riseUp ((e.setPpu { e.ppu.forWake with wakeLatch := false }).setWku e.wku) := by
    unfold takeLatch
    rw [if_pos (h.latch.trans hl)]
    exact (if_pos h.stands.power).trans (congrArg riseUp rfl)
  rw [he]
  exact ⟨h.stands.rise _ _, by rw [(riseUp_frame _).2.2.2.1, setWku_wku, h.wku]⟩

theorem Dev.Rests.latch_clear {d e : Dev} (h : d.Rests e) (hl : d.ppu.wakeLatch = false) : takeLatch e = e := by
  unfold takeLatch
  rw [if_neg (by rw [h.latch, hl]; simp)]

/-! #### The critical mark at the entry to SLEEP (R98) -/

theorem sleepCrossings_cool {e : Dev} (h : ¬ e.tfu.critical = true) :
    sleepCrossings e = watchSleep e.chg.lowMark e := if_neg h

theorem sleepCrossings_hot {e : Dev} (h : e.tfu.critical = true) :
    sleepCrossings e = forcedOff .thermal (raiseCritical (watchSleep e.chg.lowMark e)) := if_pos h

/-- The ways in which the watch leaves the entry to SLEEP (R83). -/
theorem Dev.Rests.watch_outcome {d e : Dev} (h : d.Rests e) (low : Bool) :
    (low = true ∧ (d.wakeEntry .batteryCritical).inSleep = true ∧
      d.Stands (watchSleep low e) [.sleep, .poweringUp] .poweringUp) ∨
    d.Rests (watchSleep low e) ∨ d.Stands (watchSleep low e) [.sleep, .poweringDown, .off] .off := by
  cases hw : (d.wakeEntry .batteryCritical).inSleep
  · by_cases hs : ∃ x, d.batterySoc = some x ∧ x ≤ d.tst.power.shutdownSoc
    · exact .inr (.inr (h.watch_shuts hw hs).1)
    · exact .inr (.inl (h.watch_rests (fun _ => hw) (.inr fun x hx => Nat.lt_of_not_le fun hl => hs ⟨x, hx, hl⟩)))
  · cases low
    · exact .inr (.inl (h.watch_rests (by simp) (.inl hw)))
    · exact .inl ⟨rfl, rfl, (h.watch_wakes hw).1⟩

/-- A critical mark that stands SET ends in OFF, whatever the watch led to (R98). -/
theorem Dev.Rests.crossings_hot {d e : Dev} (h : d.Rests e) (hc : e.tfu.critical = true) :
    ((e.chg.lowMark = true ∧ (d.wakeEntry .batteryCritical).inSleep = true) →
      d.Stands (sleepCrossings e) [.sleep, .poweringUp, .poweringDown, .off] .off) ∧
    (¬ (e.chg.lowMark = true ∧ (d.wakeEntry .batteryCritical).inSleep = true) →
      d.Stands (sleepCrossings e) [.sleep, .poweringDown, .off] .off) := by
  have off {ps : List PowerState} {p : PowerState} (hs : d.Stands (watchSleep e.chg.lowMark e) ps p) (hn : .on ∉ ps)
      (ho : p ≠ .off) (hd : p ≠ .poweringDown) : d.Stands (sleepCrossings e) (ps ++ [.poweringDown, .off]) .off := by
    rw [sleepCrossings_hot hc]
    exact ((hs.raise _ hn).forcedOff .thermal ho hd).1
  constructor
  · rintro ⟨hl, hw⟩
    exact off (hl ▸ (h.watch_wakes hw).1) (by simp) (by simp) (by simp)
  · intro hn
    rcases h.watch_outcome e.chg.lowMark with ⟨hl, hw, -⟩ | hr | hs
    · exact absurd ⟨hl, hw⟩ hn
    · exact off hr.stands (by simp) (by simp) (by simp)
    · rw [sleepCrossings_hot hc]
      exact ((hs.raise _ (by simp)).forcedOff_off .thermal).1

theorem Dev.Rests.crossings_hot_wku {d e : Dev} (h : d.Rests e) (hc : e.tfu.critical = true)
    (hl : ¬ e.chg.lowMark = true) (hs : ∀ x, d.batterySoc = some x → d.tst.power.shutdownSoc < x) :
    (sleepCrossings e).wku = { d.wku with lastCause := .thermal } := by
  have hr := h.watch_rests (low := e.chg.lowMark) (fun hx => absurd hx hl) (.inr hs)
  have hr' : d.Rests (raiseCritical (watchSleep e.chg.lowMark e)) := hr.raise _
  rw [sleepCrossings_hot hc, (hr'.stands.forcedOff .thermal (by simp) (by simp)).2.1, hr'.wku]

/-- However the entry to SLEEP ends, the link is DOWN, and in SLEEP the scan timer has followed (R3, R183). -/
theorem Dev.Rests.entered {d e : Dev} (h : d.Rests e) : (takeLatch (sleepCrossings e)).pli.linkUp = false ∧
    ((takeLatch (sleepCrossings e)).ppu.power = .sleep →
      d.mse.Retimed (takeLatch (sleepCrossings e)).mse (d.scanCalled .sleep)) := by
  have moved {ps : List PowerState} {p : PowerState} (hs : d.Stands (sleepCrossings e) ps p) (hp : p ≠ .sleep) :
      (takeLatch (sleepCrossings e)).pli.linkUp = false ∧ ((takeLatch (sleepCrossings e)).ppu.power = .sleep →
        d.mse.Retimed (takeLatch (sleepCrossings e)).mse (d.scanCalled .sleep)) :=
    ⟨(hs.latch hp).1.link, fun hq => absurd ((hs.latch hp).1.power.symm.trans hq) hp⟩
  by_cases hc : e.tfu.critical = true
  · obtain ⟨h1, h2⟩ := h.crossings_hot hc
    by_cases hw : e.chg.lowMark = true ∧ (d.wakeEntry .batteryCritical).inSleep = true
    · exact moved (h1 hw) (by simp)
    · exact moved (h2 hw) (by simp)
  · rcases h.watch_outcome e.chg.lowMark with ⟨-, -, hs⟩ | hr | hs
    · exact moved (sleepCrossings_cool hc ▸ hs) (by simp)
    · rw [← sleepCrossings_cool hc] at hr
      cases hl : d.ppu.wakeLatch
      · rw [hr.latch_clear hl]
        exact ⟨hr.stands.link, fun _ => hr.mse ▸ retime_retimed _ _⟩
      · obtain ⟨hs, -⟩ := hr.latch_set hl
        exact ⟨hs.link, fun hq => by simp [hs.power] at hq⟩
    · exact moved (sleepCrossings_cool hc ▸ hs) (by simp)

/-- SLEEP at rest takes the latch and nothing else (R119). -/
theorem Dev.Rests.latched {d e : Dev} (h : d.Rests e) :
    (takeLatch e).ppu.power = (if d.ppu.wakeLatch then .poweringUp else .sleep) ∧ (takeLatch e).wku = d.wku ∧
      d.Passes (takeLatch e) (if d.ppu.wakeLatch then [.sleep, .poweringUp] else [.sleep]) := by
  cases hl : d.ppu.wakeLatch
  · rw [h.latch_clear hl]
    exact ⟨h.stands.power, h.wku, h.stands.passes⟩
  · obtain ⟨hs, hw⟩ := h.latch_set hl
    exact ⟨hs.power, hw, hs.passes⟩

/-- The entry to SLEEP with the critical mark CLEAR: no crossing of the low mark, or one whose wake enable is clear,
above the shutdown SoC (R83). -/
theorem Dev.Rests.entry_rests {d e : Dev} (h : d.Rests e) (hc : ¬ e.tfu.critical = true)
    (hw : e.chg.lowMark = true → (d.wakeEntry .batteryCritical).inSleep = false)
    (hs : ∀ x, d.batterySoc = some x → d.tst.power.shutdownSoc < x) : d.Rests (sleepCrossings e) := by
  rw [sleepCrossings_cool hc]
  exact h.watch_rests hw (.inr hs)

theorem Dev.Rests.entry_wakes {d e : Dev} (h : d.Rests e) (hc : ¬ e.tfu.critical = true) (hl : e.chg.lowMark = true)
    (hw : (d.wakeEntry .batteryCritical).inSleep = true) :
    d.Stands (takeLatch (sleepCrossings e)) [.sleep, .poweringUp] .poweringUp ∧
      (takeLatch (sleepCrossings e)).wku = d.wku.woken .batteryCritical := by
  obtain ⟨hs, hk⟩ := h.watch_wakes hw
  rw [sleepCrossings_cool hc, hl]
  obtain ⟨hs', hk'⟩ := hs.latch (by simp)
  exact ⟨hs', hk'.trans hk⟩

theorem Dev.Rests.entry_shuts {d e : Dev} (h : d.Rests e) (hc : ¬ e.tfu.critical = true)
    (hw : (d.wakeEntry .batteryCritical).inSleep = false)
    (hs : ∃ x, d.batterySoc = some x ∧ x ≤ d.tst.power.shutdownSoc) :
    d.Stands (takeLatch (sleepCrossings e)) [.sleep, .poweringDown, .off] .off ∧
      (takeLatch (sleepCrossings e)).wku = { d.wku with lastCause := .battery } := by
  obtain ⟨ho, hk⟩ := h.watch_shuts (low := e.chg.lowMark) hw hs
  rw [sleepCrossings_cool hc]
  obtain ⟨ho', hk'⟩ := ho.latch (by simp)
  exact ⟨ho', hk'.trans hk⟩

/-- The entry to SLEEP with the critical mark SET (R98). -/
theorem Dev.Rests.entry_hot {d e : Dev} (h : d.Rests e) (hc : e.tfu.critical = true) :
    ((e.chg.lowMark = true ∧ (d.wakeEntry .batteryCritical).inSleep = true) →
      d.Stands (takeLatch (sleepCrossings e)) [.sleep, .poweringUp, .poweringDown, .off] .off) ∧
    (¬ (e.chg.lowMark = true ∧ (d.wakeEntry .batteryCritical).inSleep = true) →
      d.Stands (takeLatch (sleepCrossings e)) [.sleep, .poweringDown, .off] .off) ∧
    (takeLatch (sleepCrossings e)).wku = (sleepCrossings e).wku := by
  obtain ⟨h1, h2⟩ := h.crossings_hot hc
  refine ⟨fun hw => ((h1 hw).latch (by simp)).1, fun hw => ((h2 hw).latch (by simp)).1, ?_⟩
  by_cases hw : e.chg.lowMark = true ∧ (d.wakeEntry .batteryCritical).inSleep = true
  · exact ((h1 hw).latch (by simp)).2
  · exact ((h2 hw).latch (by simp)).2

theorem takeLatch_raised {d : Dev} {c : Nat} (h : d.Raised c) : (takeLatch d).Raised c := by
  have ho : d.Orderly (takeLatch d) :=
    .ite (fun _ => .ite (fun _ => takeWake_orderly (setPpu_orderly _ (.refl d))) fun _ => setPpu_orderly _ (.refl d))
      fun _ => .refl d
  exact ho.raised c h

theorem sleepCrossings_raised (e : Dev) : (e.chg.lowMark = true → (sleepCrossings e).Raised 9) ∧
    (e.tfu.critical = true → (sleepCrossings e).Raised 12) := by
  constructor
  · intro hl
    have hb : (Machine.raise (.batteryCritical (e.chg.systemSoc.getD 0)) e).Orderly (watchSleep e.chg.lowMark e) := by
      rw [hl]
      exact .ite (fun _ => forcedOff_orderly _ (offerWake_orderly _ (.refl _))) fun _ =>
        offerWake_orderly _ (.refl _)
    have hs : (Machine.raise (.batteryCritical (e.chg.systemSoc.getD 0)) e).Orderly (sleepCrossings e) :=
      .ite (fun _ => forcedOff_orderly _ (raiseCritical_orderly hb)) fun _ => hb
    exact hs.raised 9 (raise_raised (.batteryCritical _) e (Notice.cls_lt _))
  · intro hc
    rw [sleepCrossings_hot hc]
    exact (forcedOff_orderly .thermal (.refl _)).raised 12 (raise_raised (.thermalCritical _ _) _ (Notice.cls_lt _))

theorem enterSleep_frame_tst (d : Dev) : (enterSleep d).tst = d.tst := by simp

/-! ### The changes of power-good -/

/-- The part as power-good changes, before anything follows from it. -/
def Dev.withGood (d : Dev) (level : Bool) : Dev := d.setPins { d.pins with powerGood := level }

theorem powerGoodEvent_eq {level : Bool} {d : Dev} (h : d.pins.powerGood ≠ level) :
    powerGoodEvent level d =
      (match d.ppu.power, level with
        | .poweringUp, true => powerTo .on (d.withGood true)
        | .sleepEntry, false => enterSleep (d.withGood false)
        | .poweringDown, false => reachOff (d.withGood false)
        | .on, false => lossOfPower (d.withGood false)
        | _, _ => d.withGood level) := by
  unfold powerGoodEvent
  rw [if_neg h]
  cases level <;> cases hp : d.ppu.power <;> simp [hp, Dev.withGood]

/-- POWERING_UP ends in ON with the link UP (R117). -/
theorem powerGood_ends_poweringUp (d : Dev) (e : Dev) (he : e = powerTo .on (d.withGood true)) :
    e.ppu.power = .on ∧ e.ppu.transition = none ∧
        e.pli.linkUp = !d.pins.platformReset ∧ e.mainRail = true ∧ e.sleepRail = true ∧
        e.tst = d.tst ∧ e.wku = d.wku ∧ d.mse.Retimed e.mse (d.scanCalled .on) ∧
        d.Entered e .on ∧ (d.pli.linkUp = false →
          (d.pins.platformReset = false → d.LinkRose e d.ktu) ∧
          (d.pins.platformReset = true → e.ktu = d.ktu ∧ e.pli = d.pli)) := by
  have hp : (powerTo .on (d.withGood true)).ppu.power = .on := by simp
  subst he
  refine ⟨hp, by simp [Dev.transitionFor], by simp [Dev.withGood], by simp [Dev.mainRail], by simp [Dev.sleepRail],
    by simp [Dev.withGood], by simp [Dev.withGood], powerTo_retimed .on (d.withGood true),
    (powerTo_entered .on _).of_alike (.of_eq rfl rfl rfl rfl rfl), fun hl => ⟨fun hr => ?_, fun hr => ?_⟩⟩
  · exact (powerTo_on_rose (d := d.withGood true) hl hr).of_same rfl rfl
  · rw [powerTo_of_down (d := d.withGood true) hl (.inr hr)]
    exact ⟨blocksTold_ktu _ _, (blocksTold_link (by simp) _).1⟩

/-- A loss of power in ON ends in OFF through POWERING_DOWN (R126). -/
theorem lossOfPower_spec (d : Dev) (e : Dev) (he : e = lossOfPower (d.withGood false)) :
    e.ppu.power = .off ∧ e.ppu.request = none ∧
        e.ppu.restartPending = false ∧ e.ppu.cause = .none ∧ e.pli.linkUp = false ∧
        e.wku = { d.wku with lastCause := .none, powerFault := true } ∧ e.tst = d.tst ∧
        d.Passes e [.poweringDown, .off] ∧ (d.pli.linkUp = true → d.LinkFell e) ∧
        (∀ t, d.mse.scanTimer = some t → some t.period = d.scanCalled .on →
          d.mse.Retimed e.mse (d.scanCalled .off)) := by
  generalize hx : handFault (handCause .none ((d.withGood false).setPpu { d.ppu with
    request := none, restartPending := false, restartTimer := none, cause := .none })) = x
  have hs : e = powerTo .off (powerTo .poweringDown x) := by rw [he, ← hx]; rfl
  obtain ⟨r, hr, hp⟩ := powerTo_ppu_eq .poweringDown x
  obtain ⟨r', hr', hp'⟩ := powerTo_ppu_eq .off (powerTo .poweringDown x)
  have hq : x.ppu.request = none := by rw [← hx]; rfl
  have hr : r = none := by rw [hq, or_self] at hr; exact hr
  have hr' : r' = none := by rw [hp, hr, or_self] at hr'; exact hr'
  have ht : x.tst = d.tst := by rw [← hx]; rfl
  subst hs
  refine ⟨by simp, by rw [hp', hr'], by rw [hp', hp, ← hx]; rfl, by rw [hp', hp, ← hx]; rfl, by simp, ?_,
    by simp [ht], ?_, fun hl => ?_, fun t hst hper => ?_⟩
  · have hw : (powerTo .off (powerTo .poweringDown x)).wku = x.wku := by simp
    rw [hw, ← hx]
    rfl
  · have ha : Dev.AlikeTo .poweringDown d x := by rw [← hx]; exact .of_eq rfl rfl rfl rfl rfl
    exact ⟨_, (powerTo_entered .poweringDown x).of_alike ha, powerTo_entered .off _⟩
  · have hf : d.LinkFell (powerTo .poweringDown x) := by
      refine (powerTo_fell (d := x) ?_ (by simp) (by simp)).of_same ?_
      · rw [← hx]; exact hl
      · rw [← hx]; exact ⟨rfl, rfl, rfl, rfl, rfl⟩
    exact hf.powerTo (by simp)
  · have hm : x.mse = d.mse := by rw [← hx]; rfl
    have hon : d.mse.retime (d.scanCalled .poweringDown) = d.mse := by
      have hc : d.scanCalled .poweringDown = some t.period := hper.symm
      exact (retime_retimed _ _).runs t.period t hc hst rfl
    rw [powerTo_mse, powerTo_mse, hm, scanCalled_congr ht, hon, scanCalled_congr (d := d) (by simp [ht])]
    exact retime_retimed _ _

/-- Settles O33: each change of power-good is a change of power state, or the entry to SLEEP with what it leads to. -/
theorem powerGoodEndsWaits : Obligations.PowerGoodEndsWaits := by
  intro s
  refine ⟨fun hp hg => ?_, fun hp hg => ?_, fun hp hg => ?_, fun hp hg => ?_, fun level hg h1 h2 => ?_⟩
  · have hev : powerGoodEvent true s.dev = powerTo .on (s.dev.withGood true) := by
      rw [powerGoodEvent_eq (by simp [hg]), hp]
    exact ⟨_, ends_of_run (f := powerGoodEvent true) rfl hev, powerGood_ends_poweringUp s.dev _ rfl⟩
  · intro p h soc low hot wakes latched taken
    have hev : powerGoodEvent false s.dev = enterSleep (s.dev.withGood false) := by
      rw [powerGoodEvent_eq (by simp [hg]), hp]
    have hr := powerTo_sleep_rests (d := s.dev)
    obtain ⟨hlow, hhot⟩ := powerTo_sleep_marks s.dev
    have hes : enterSleep (s.dev.withGood false) =
        takeLatch (sleepCrossings (powerTo .sleep (s.dev.withGood false))) := rfl
    have hm : powerTo .sleep (s.dev.withGood false) =
        powerTo .sleep (s.dev.setPins { s.dev.pins with powerGood := false }) := rfl
    have htst : (enterSleep (s.dev.withGood false)).tst = s.dev.tst := enterSleep_frame_tst _
    rw [hm] at hes
    generalize powerTo .sleep (s.dev.setPins { s.dev.pins with powerGood := false }) = m at hr hlow hhot hes
    change (_ ↔ low) at hlow
    change (_ ↔ hot) at hhot
    refine ⟨_, ends_of_run (f := powerGoodEvent false) rfl hev, ?_⟩
    rw [← hlow, ← hhot]
    rw [hes] at htst ⊢
    obtain ⟨hlink, htimed⟩ := hr.entered
    obtain ⟨h9, h12⟩ := sleepCrossings_raised m
    refine ⟨takeLatch_clears _, hlink, htst, fun hl => takeLatch_raised (h9 hl), fun hc => takeLatch_raised (h12 hc),
      htimed, fun hc hl hs => ?_, fun hc hl hw => ?_, fun hc hl hw x hx => ⟨fun hs => ?_, fun hs => ?_⟩,
      fun hc => ?_, fun hc hl hw => ((hr.entry_hot hc).1 ⟨hl, hw⟩).passes,
      fun hc hn => ((hr.entry_hot hc).2.1 hn).passes,
      fun hc hl hs => (hr.entry_hot hc).2.2.trans (hr.crossings_hot_wku hc hl hs)⟩
    · obtain ⟨hpow, hwku, hpass⟩ := (hr.entry_rests hc (fun hx => absurd hx hl) hs).latched
      refine ⟨hpow, ?_, hwku, hpass⟩
      unfold Dev.sleepRail
      rw [hpow]
      cases s.dev.ppu.wakeLatch <;> rfl
    · obtain ⟨hst, hwku⟩ := hr.entry_wakes hc hl hw
      exact ⟨hst.power, hst.passes, hwku⟩
    · exact (hr.entry_rests hc (fun _ => Bool.eq_false_iff.mpr hw)
        fun y hy => by rw [← Option.some.inj (hx.symm.trans hy)]; exact hs).latched
    · obtain ⟨hst, hwku⟩ := hr.entry_shuts hc (Bool.eq_false_iff.mpr hw) ⟨x, hx, hs⟩
      exact ⟨hst.power, hst.passes, hwku⟩
    · obtain ⟨hyes, hno, -⟩ := hr.entry_hot hc
      by_cases hw : m.chg.lowMark = true ∧ (s.dev.wakeEntry .batteryCritical).inSleep = true
      · exact (hyes hw).power
      · exact (hno hw).power
  · have hev : powerGoodEvent false s.dev = reachOff (s.dev.withGood false) := by
      rw [powerGoodEvent_eq (by simp [hg]), hp]
    obtain ⟨r, t, -, ht, hppu⟩ := reachOff_ppu (s.dev.withGood false)
    refine ⟨_, ends_of_run (f := powerGoodEvent false) rfl hev, by rw [hppu], by rw [hppu], by rw [hppu]; rfl,
      fun hpend => by rw [hppu]; exact ht hpend, by unfold Dev.mainRail; rw [hppu], by unfold Dev.sleepRail; rw [hppu],
      by simp [Dev.withGood], by simp [Dev.withGood], ?_, (reachOff_entered _).of_alike (.of_eq rfl rfl rfl rfl rfl)⟩
    rw [reachOff_mse]
    exact retime_retimed _ _
  · have hev : powerGoodEvent false s.dev = lossOfPower (s.dev.withGood false) := by
      rw [powerGoodEvent_eq (by simp [hg]), hp]
    exact ⟨_, ends_of_run (f := powerGoodEvent false) rfl hev, lossOfPower_spec s.dev _ rfl⟩
  · refine ends_of_run (f := powerGoodEvent level) rfl ?_
    rw [powerGoodEvent_eq hg]
    split <;> simp_all [Dev.withGood, Dev.setPins]

end Sys2Proof.Machine

namespace Sys2Proof.Machine

/-! ## The changes that a list of positions yields -/

/-- Every position yields no change, or one change of its own with the SYNTHESIZED flag as given. -/
def YieldsOwn {α : Type} (synthesized : Bool) (f : α × Nat → List RawEntry) : Prop :=
  ∀ x, f x = [] ∨ ∃ press, f x = [.change x.2 press synthesized]

section
variable {α : Type} {synthesized : Bool} {f : α × Nat → List RawEntry}

theorem YieldsOwn.of_mem (h : YieldsOwn synthesized f) {x : α × Nat} {e : RawEntry} (he : e ∈ f x) :
    ∃ press, e = .change x.2 press synthesized := by
  rcases h x with hx | ⟨press, hx⟩ <;> rw [hx] at he
  · exact absurd he List.not_mem_nil
  · exact ⟨press, List.mem_singleton.mp he⟩

theorem zipIdx_ascends (xs : List α) (n : Nat) : (xs.zipIdx n).Pairwise fun x y => x.2 < y.2 := by
  have h : ((xs.zipIdx n).map Prod.snd).Pairwise (· < ·) := by
    rw [List.zipIdx_map_snd]
    exact List.pairwise_lt_range'
  exact List.pairwise_map.mp h

/-- The changes of the positions taken in turn ascend (R5, R14). -/
theorem YieldsOwn.ascending (h : YieldsOwn synthesized f) (xs : List α) :
    Ascending synthesized ((xs.zipIdx.map f).flatten) := by
  refine ⟨fun e he => ?_, List.pairwise_flatten.mpr ⟨fun l hl => ?_, List.pairwise_map.mpr ?_⟩⟩
  · obtain ⟨l, hl, he⟩ := List.mem_flatten.mp he
    obtain ⟨x, -, rfl⟩ := List.mem_map.mp hl
    obtain ⟨press, rfl⟩ := h.of_mem he
    exact ⟨_, _, rfl⟩
  · obtain ⟨x, -, rfl⟩ := List.mem_map.mp hl
    rcases h x with hx | ⟨press, hx⟩ <;> rw [hx] <;> simp
  · refine (zipIdx_ascends xs 0).imp fun {x y} hxy a ha b hb => ?_
    obtain ⟨_, rfl⟩ := h.of_mem ha
    obtain ⟨_, rfl⟩ := h.of_mem hb
    exact ⟨_, _, _, _, rfl, rfl, hxy⟩

/-- A position's changes among those of all positions are what it yields itself. -/
theorem YieldsOwn.mem_iff (h : YieldsOwn synthesized f) (xs : List α) (p : Nat) (press s : Bool) :
    .change p press s ∈ (xs.zipIdx.map f).flatten ↔ ∃ x, xs[p]? = some x ∧ .change p press s ∈ f (x, p) := by
  simp only [List.mem_flatten, List.mem_map]
  constructor
  · rintro ⟨l, ⟨⟨x, i⟩, hx, rfl⟩, he⟩
    obtain ⟨press', heq⟩ := h.of_mem he
    obtain ⟨rfl, -⟩ := RawEntry.change.inj heq
    exact ⟨x, List.mem_zipIdx_iff_getElem?.mp hx, he⟩
  · rintro ⟨x, hx, he⟩
    exact ⟨_, ⟨(x, p), List.mem_zipIdx_iff_getElem?.mpr hx, rfl⟩, he⟩

theorem YieldsOwn.filter_own (h : YieldsOwn synthesized f) (x : α × Nat) (p : Nat) :
    (f x).filter (RawEntry.about p) = if x.2 = p then f x else [] := by
  rcases h x with hx | ⟨press, hx⟩ <;> rw [hx]
  · simp
  · by_cases hp : x.2 = p <;> simp [RawEntry.about, hp]

/-- The changes about a position, in order, are what it yields. -/
theorem YieldsOwn.filter_about (h : YieldsOwn synthesized f) (xs : List α) (n p : Nat) :
    (((xs.zipIdx n).map f).flatten).filter (RawEntry.about (n + p)) = (xs[p]?.map fun x => f (x, n + p)).getD [] := by
  induction xs generalizing n p with
  | nil => simp
  | cons x xs ih =>
    rw [List.zipIdx_cons, List.map_cons, List.flatten_cons, List.filter_append, h.filter_own]
    cases p with
    | zero =>
      have hrest : (((xs.zipIdx (n + 1)).map f).flatten).filter (RawEntry.about n) = [] := by
        refine List.filter_eq_nil_iff.mpr fun e he => ?_
        obtain ⟨l, hl, he⟩ := List.mem_flatten.mp he
        obtain ⟨⟨y, i⟩, hy, rfl⟩ := List.mem_map.mp hl
        obtain ⟨press, rfl⟩ := h.of_mem he
        have := (List.mem_zipIdx hy).1
        simp only [RawEntry.about, beq_iff_eq]
        omega
      simp [hrest]
    | succ p =>
      rw [if_neg (by simp), show n + (p + 1) = n + 1 + p by omega, ih]
      simp

end
end Sys2Proof.Machine

namespace Sys2Proof.Machine

/-! ## Lid, fold and posture settled (R110 to R114, R134) -/

/-! ### Posture gating (R13, R14) -/

theorem isMatrix_iff (p : Nat) : isMatrix p = true ↔ p < 144 := decide_eq_true_iff

theorem takePosture_gates {p : Posture} {m : Mse} (hp : p = .closed ∨ p = .tablet) (hs : m.scanState ≠ .gated) :
    m.takePosture p = Mse.pushAll { m with
      recs := m.recs.zipIdx.map fun x => if isMatrix x.2 then PosRec.up else x.1
      scanState := .gated } (gatingReleases m.recs) := by
  rcases hp with rfl | rfl <;> exact if_neg hs

theorem takePosture_of_gated {p : Posture} {m : Mse} (hp : p = .closed ∨ p = .tablet) (hs : m.scanState = .gated) :
    m.takePosture p = m := by
  rcases hp with rfl | rfl <;> exact if_pos hs

theorem takePosture_still {p : Posture} {m : Mse} (h : ¬ ((p = .closed ∨ p = .tablet) ∧ m.scanState ≠ .gated)) :
    m.takePosture p = { m with scanState := (m.takePosture p).scanState } := by
  cases p
  case unknown => rfl
  case opened => unfold Mse.takePosture; dsimp only; split <;> rfl
  case tablet | closed =>
    rw [takePosture_of_gated (by simp) (by simpa using h)]

theorem pushAll_keeps (m : Mse) (es : List RawEntry) :
    m.pushAll es = { m with raw := (m.pushAll es).raw, overrun := (m.pushAll es).overrun } := by
  induction es generalizing m with
  | nil => rfl
  | cons x es ih =>
    have hstep : m.pushAll (x :: es) = (m.push x).pushAll es := rfl
    rw [hstep, ih (m.push x)]
    unfold Mse.push
    split <;> rfl

/-- A posture leaves the scan timer of the MSE alone. -/
theorem takePosture_keeps (p : Posture) (m : Mse) : m.takePosture p = { m with
    recs := (m.takePosture p).recs, raw := (m.takePosture p).raw, overrun := (m.takePosture p).overrun
    scanState := (m.takePosture p).scanState } := by
  by_cases h : (p = .closed ∨ p = .tablet) ∧ m.scanState ≠ .gated
  · rw [takePosture_gates h.1 h.2, pushAll_keeps]
  · rw [takePosture_still h]

theorem takePosture_scanState (p : Posture) (m : Mse) : (m.takePosture p).scanState =
    if p = .closed ∨ p = .tablet then .gated
    else if p = .opened ∧ m.scanState = .gated then .baseline else m.scanState := by
  by_cases hp : p = .closed ∨ p = .tablet
  · rw [if_pos hp]
    by_cases hs : m.scanState = .gated
    · rw [takePosture_of_gated hp hs, hs]
    · rw [takePosture_gates hp hs, pushAll_keeps]
  · rw [if_neg hp]
    cases p
    case unknown => rfl
    case opened =>
      by_cases hs : m.scanState = .gated <;> simp [Mse.takePosture, hs]
    case tablet | closed => simp at hp

/-- Only a position that the matrix has, DOWN with both flags clear, is released as the matrix is gated (R14). -/
theorem gatingReleases_own : YieldsOwn true fun x : PosRec × Nat =>
    if isMatrix x.2 && x.1.down && !x.1.suspect && !x.1.masked then [RawEntry.change x.2 false true] else [] := by
  intro x
  dsimp only
  split
  · exact .inr ⟨_, rfl⟩
  · exact .inl rfl

theorem mem_gatingReleases (recs : List PosRec) (p : Nat) (press : Bool) :
    .change p press true ∈ gatingReleases recs ↔ press = false ∧ p < 144 ∧
      ∃ r, recs[p]? = some r ∧ r.down = true ∧ r.suspect = false ∧ r.masked = false := by
  refine (gatingReleases_own.mem_iff recs p press true).trans ?_
  constructor
  · rintro ⟨r, hr, hm⟩
    split at hm
    · rename_i hc
      simp only [isMatrix, Config.matrixPositions, Bool.and_eq_true, Bool.not_eq_true'] at hc
      obtain ⟨⟨⟨hp, hd⟩, hs⟩, hk⟩ := hc
      have hp := of_decide_eq_true hp
      simp only [List.mem_singleton, RawEntry.change.injEq] at hm
      exact ⟨hm.2.1, hp, r, hr, hd, hs, hk⟩
    · simp at hm
  · rintro ⟨rfl, hp, r, hr, hd, hs, hk⟩
    exact ⟨r, hr, by simp [isMatrix, Config.matrixPositions, hp, hd, hs, hk]⟩

/-- What gating makes of the records and of the raw event queue (R11, R14). -/
theorem takePosture_gated {p : Posture} {m : Mse} (hp : p = .closed ∨ p = .tablet) (hs : m.scanState ≠ .gated)
    (hq : m.raw.length ≤ 16) :
    (∀ (i : Nat) (r : PosRec), m.recs[i]? = some r →
      (m.takePosture p).recs[i]? = some (if i < 144 then ⟨false, 0, false, false⟩ else r)) ∧
    (m.takePosture p).raw = (m.raw ++ gatingReleases m.recs).take 16 ∧
    (m.takePosture p).overrun = (m.overrun || decide (16 < (m.raw ++ gatingReleases m.recs).length)) := by
  rw [takePosture_gates hp hs, pushAll_eq _ _ (by exact hq)]
  refine ⟨fun i r hr => ?_, rfl, rfl⟩
  rw [List.getElem?_map, List.getElem?_zipIdx, hr]
  simp [isMatrix_iff, PosRec.up]

/-! ### A change of posture (R112, R113, R134) -/

/-- The KTU after a change of posture: CLOSED and TABLET empty a wake key slot of the matrix (R40). -/
def Ktu.postured (p : Posture) (u : Ktu) : Ktu :=
  match u.wakeKey with
  | some w => if (p = .closed ∨ p = .tablet) ∧ w.pos < 144 then
      { u.noted w.pos (some ⟨.noKey, true, false⟩) with wakeKey := none } else u
  | none => u

theorem ktuPosture_eq (p : Posture) (d : Dev) : ktuPosture p d = d.setKtu (d.ktu.postured p) := by
  unfold ktuPosture Ktu.postured
  cases hw : d.ktu.wakeKey with
  | none => cases p <;> rfl
  | some w =>
    by_cases hm : w.pos < 144 <;> cases p <;> simp [isMatrix, Config.matrixPositions, hm] <;> rfl

/-- The part with a posture taken and told, before a wake is offered (R113). -/
def Dev.postured (p : Posture) (d : Dev) : Dev :=
  { d with
    ppu := { d.ppu with posture := p }
    mse := { d.mse with
      recs := (d.mse.takePosture p).recs, raw := (d.mse.takePosture p).raw
      overrun := (d.mse.takePosture p).overrun, scanState := (d.mse.takePosture p).scanState }
    ktu := d.ktu.postured p
    nsu := d.nsu.raise d.tst.settings.noticeMask (.posture d.ppu.posture p) }

theorem postureChange_eq (p : Posture) (d : Dev) : postureChange p d =
    if d.ppu.posture = .closed ∧ (p = .opened ∨ p = .tablet) then offerWake .lidOpen (d.postured p)
    else d.postured p := by
  have hp : raise (.posture d.ppu.posture p)
      (ktuPosture p ((d.setPpu { d.ppu with posture := p }).setMse (d.mse.takePosture p))) = d.postured p := by
    rw [ktuPosture_eq, takePosture_keeps]
    rfl
  unfold postureChange
  dsimp only [setPpu_mse, setPpu_ppu]
  rw [hp]
  simp [lidOpens]

/-- An offer of a wake leaves lid, fold and posture, and of the MSE all but its timer. -/
theorem offerWake_keeps (w : WakeSource) (d : Dev) :
    ((offerWake w d).ppu.lid = d.ppu.lid ∧ (offerWake w d).ppu.fold = d.ppu.fold ∧
      (offerWake w d).ppu.posture = d.ppu.posture) ∧
    (offerWake w d).mse.recs = d.mse.recs ∧ (offerWake w d).mse.raw = d.mse.raw ∧
    (offerWake w d).mse.overrun = d.mse.overrun ∧ (offerWake w d).mse.scanState = d.mse.scanState := by
  by_cases hw : d.WouldWake w
  · obtain ⟨-, -, -, hm, t, r, hp⟩ := offerWake_wakes hw
    rw [hp, hm]
    refine ⟨⟨rfl, rfl, rfl⟩, ?_⟩
    unfold Mse.retime
    repeat' split
    all_goals simp_all [Dev.scanCalled]
  · by_cases hl : d.ppu.power = .sleepEntry ∧ (d.wakeEntry w).inSleep = true
    · rw [offerWake_of_latch hl.1 hl.2]
      exact ⟨⟨rfl, rfl, rfl⟩, rfl, rfl, rfl, rfl⟩
    · rw [offerWake_of_not hw hl]
      exact ⟨⟨rfl, rfl, rfl⟩, rfl, rfl, rfl, rfl⟩

theorem offerWake_raised {w : WakeSource} {d : Dev} {c : Nat} (h : d.Raised c) : (offerWake w d).Raised c :=
  (offerWake_orderly w (.refl d)).raised c h

/-- The part after a change of posture, before which it stood so (R113, R134). -/
structure Dev.TakesPosture (d e : Dev) (p : Posture) : Prop where
  posture : e.ppu.lid = d.ppu.lid ∧ e.ppu.fold = d.ppu.fold ∧ e.ppu.posture = p
  raised : e.Raised 5
  mse : e.mse.recs = (d.mse.takePosture p).recs ∧ e.mse.raw = (d.mse.takePosture p).raw ∧
    e.mse.overrun = (d.mse.takePosture p).overrun ∧ e.mse.scanState = (d.mse.takePosture p).scanState
  wakes : d.ppu.posture = .closed ∧ (p = .opened ∨ p = .tablet) → d.WouldWake .lidOpen →
    d.WokenBy e .lidOpen ∧ d.Rises e (d.ktu.postured p)
  latches : d.ppu.posture = .closed ∧ (p = .opened ∨ p = .tablet) → d.ppu.power = .sleepEntry →
    (d.wakeEntry .lidOpen).inSleep = true →
    e = ((d.postured p).setPpu { (d.postured p).ppu with wakeLatch := true }).setWku (d.wku.woken .lidOpen)
  stays : ¬ ((d.ppu.posture = .closed ∧ (p = .opened ∨ p = .tablet)) ∧ (d.WouldWake .lidOpen ∨
    d.ppu.power = .sleepEntry ∧ (d.wakeEntry .lidOpen).inSleep = true)) → e = d.postured p

theorem postureChange_takes (p : Posture) (d : Dev) : d.TakesPosture (postureChange p d) p := by
  have hr : (d.postured p).Raised 5 := raise_raised (.posture d.ppu.posture p) d (Notice.cls_lt _)
  rw [postureChange_eq]
  split
  · rename_i ho
    obtain ⟨hp, hm⟩ := offerWake_keeps .lidOpen (d.postured p)
    refine ⟨hp, offerWake_raised hr, hm, fun _ hw => ?_, fun _ hp he => offerWake_of_latch (d := d.postured p) hp he,
      fun hn => ?_⟩
    · obtain ⟨hwoken, hrises, -⟩ := offerWake_wakes (w := .lidOpen) (d := d.postured p) hw
      exact ⟨hwoken.of_same rfl rfl rfl rfl rfl, hrises.of_same (.of_eq rfl rfl rfl rfl rfl) rfl rfl rfl⟩
    · exact offerWake_of_not (d := d.postured p) (fun hw => hn ⟨ho, .inl hw⟩) fun hl => hn ⟨ho, .inr hl⟩
  · rename_i ho
    exact ⟨⟨rfl, rfl, rfl⟩, hr, ⟨rfl, rfl, rfl, rfl⟩, fun h => absurd h ho, fun h => absurd h ho, fun _ => rfl⟩

/-! ### A level accepted (R110) -/

/-- The part with a level of the lid or the fold accepted. -/
def Dev.sensed (x : LidFold) (d : Dev) : Dev :=
  match x with
  | .lid b => (d.setPins { d.pins with lidClosed := b }).setPpu { d.ppu with lid := Debounce.accept b }
  | .fold b => (d.setPins { d.pins with foldFolded := b }).setPpu { d.ppu with fold := Debounce.accept b }

theorem lidFoldEvent_eq {x : LidFold} {d : Dev} (h : match x with
      | .lid b => d.ppu.lid.accepted ≠ some b
      | .fold b => d.ppu.fold.accepted ≠ some b) : lidFoldEvent x d = derivePosture (d.sensed x) := by
  cases x <;> exact if_neg h

theorem sensed_frame (x : LidFold) (d : Dev) :
    d.sensed x = { d with
      pins := (d.sensed x).pins
      ppu := { d.ppu with lid := (d.sensed x).ppu.lid, fold := (d.sensed x).ppu.fold } } ∧
    (d.sensed x).pins.powerGood = d.pins.powerGood ∧ (d.sensed x).pins.platformReset = d.pins.platformReset := by
  cases x <;> exact ⟨rfl, rfl, rfl⟩

/-- A posture that does not gate, or does so already, leaves records, raw event queue and overrun mark (R14). -/
theorem Dev.TakesPosture.still {d e : Dev} {p : Posture} (h : d.TakesPosture e p)
    (hg : ¬ ((p = .closed ∨ p = .tablet) ∧ d.mse.scanState ≠ .gated)) :
    e.mse.recs = d.mse.recs ∧ e.mse.raw = d.mse.raw ∧ e.mse.overrun = d.mse.overrun := by
  obtain ⟨hrecs, hraw, hover, -⟩ := h.mse
  rw [hrecs, hraw, hover, takePosture_still hg]
  exact ⟨rfl, rfl, rfl⟩

/-- A posture that gates the matrix releases what is DOWN (R11, R14). -/
theorem Dev.TakesPosture.gates {d e : Dev} {p : Posture} (h : d.TakesPosture e p)
    (hg : (p = .closed ∨ p = .tablet) ∧ d.mse.scanState ≠ .gated) (hq : d.mse.raw.length ≤ 16) :
    (∀ (i : Nat) (r : PosRec), d.mse.recs[i]? = some r →
      e.mse.recs[i]? = some (if i < 144 then ⟨false, 0, false, false⟩ else r)) ∧
    ∃ released, Ascending true released ∧
      (∀ i, .change i true true ∉ released ∧ (.change i false true ∈ released ↔ i < 144 ∧
        ∃ r, d.mse.recs[i]? = some r ∧ r.down = true ∧ r.suspect = false ∧ r.masked = false)) ∧
      e.mse.raw = (d.mse.raw ++ released).take 16 ∧
      e.mse.overrun = (d.mse.overrun || decide (16 < (d.mse.raw ++ released).length)) := by
  obtain ⟨hrecs, hraw, hover, -⟩ := h.mse
  obtain ⟨hr, hw, ho⟩ := takePosture_gated hg.1 hg.2 hq
  refine ⟨by rw [hrecs]; exact hr, gatingReleases d.mse.recs, gatingReleases_own.ascending _,
    fun i => ⟨fun hi => ?_, ?_⟩, hraw.trans hw, hover.trans ho⟩
  · simpa using ((mem_gatingReleases _ _ _).mp hi).1
  · simpa using mem_gatingReleases d.mse.recs i false

theorem derivePosture_of_same {d : Dev} (h : postureOf d.ppu.lid.accepted d.ppu.fold.accepted = d.ppu.posture) :
    derivePosture d = d := if_pos h

theorem derivePosture_takes {d : Dev} (h : postureOf d.ppu.lid.accepted d.ppu.fold.accepted ≠ d.ppu.posture) :
    d.TakesPosture (derivePosture d) (postureOf d.ppu.lid.accepted d.ppu.fold.accepted) := by
  have he : derivePosture d = postureChange (postureOf d.ppu.lid.accepted d.ppu.fold.accepted) d := if_neg h
  rw [he]
  exact postureChange_takes _ d

theorem derivePosture_levels (d : Dev) : (derivePosture d).ppu.lid = d.ppu.lid ∧
    (derivePosture d).ppu.fold = d.ppu.fold ∧
    (derivePosture d).ppu.posture = postureOf d.ppu.lid.accepted d.ppu.fold.accepted := by
  by_cases h : postureOf d.ppu.lid.accepted d.ppu.fold.accepted = d.ppu.posture
  · rw [derivePosture_of_same h]
    exact ⟨rfl, rfl, h.symm⟩
  · exact (derivePosture_takes h).posture

/-- A posture taken from a state that differs in lid and fold alone. -/
theorem Dev.TakesPosture.wakes_of_sensed {x : LidFold} {d e : Dev} {p : Posture} (h : (d.sensed x).TakesPosture e p)
    (ho : d.ppu.posture = .closed ∧ (p = .opened ∨ p = .tablet)) (hw : d.WouldWake .lidOpen) :
    d.WokenBy e .lidOpen ∧ d.Rises e (d.ktu.postured p) := by
  cases x <;>
  · obtain ⟨hwoken, hrises⟩ := h.wakes ho hw
    exact ⟨hwoken.of_same rfl rfl rfl rfl rfl, hrises.of_same (.of_eq rfl rfl rfl rfl rfl) rfl rfl rfl⟩

/-- A posture taken without a rise: the wake it offers is latched, or there is none to take (R119, R132). -/
theorem Dev.TakesPosture.latched_or_stays {x : LidFold} {d e : Dev} {p : Posture}
    (h : (d.sensed x).TakesPosture e p)
    (hn : ¬ ((d.ppu.posture = .closed ∧ (p = .opened ∨ p = .tablet)) ∧ d.WouldWake .lidOpen)) :
    (((d.ppu.posture = .closed ∧ (p = .opened ∨ p = .tablet)) ∧ d.ppu.power = .sleepEntry ∧
        (d.wakeEntry .lidOpen).inSleep = true) ∧
      e = (((d.sensed x).postured p).setPpu { ((d.sensed x).postured p).ppu with wakeLatch := true }).setWku
        (d.wku.woken .lidOpen)) ∨
    (¬ ((d.ppu.posture = .closed ∧ (p = .opened ∨ p = .tablet)) ∧ d.ppu.power = .sleepEntry ∧
        (d.wakeEntry .lidOpen).inSleep = true) ∧ e = (d.sensed x).postured p) := by
  by_cases hl : (d.ppu.posture = .closed ∧ (p = .opened ∨ p = .tablet)) ∧ d.ppu.power = .sleepEntry ∧
      (d.wakeEntry .lidOpen).inSleep = true
  · refine .inl ⟨hl, ?_⟩
    obtain ⟨ho, hp, he⟩ := hl
    cases x <;> exact h.latches ho hp he
  · refine .inr ⟨hl, h.stays ?_⟩
    rintro ⟨ho, hw⟩
    cases x <;> exact hw.elim (fun hw => hn ⟨ho, hw⟩) fun hw => hl ⟨ho, hw⟩

/-- Settles O30: a level accepted leaves the posture as it is, or is a change of posture with the offer it makes. -/
theorem lidAndFoldGivePosture : Obligations.LidAndFoldGivePosture := by
  intro x s hx
  obtain ⟨hlid, hfold, hnew⟩ := derivePosture_levels (s.dev.sensed x)
  refine ⟨derivePosture (s.dev.sensed x), ends_of_run (f := lidFoldEvent x) rfl (lidFoldEvent_eq hx), ?_⟩
  dsimp only
  rw [hnew]
  generalize hp : postureOf (s.dev.sensed x).ppu.lid.accepted (s.dev.sensed x).ppu.fold.accepted = p at *
  have hold : (s.dev.sensed x).ppu.posture = s.dev.ppu.posture := by cases x <;> rfl
  have hmse : (s.dev.sensed x).mse = s.dev.mse := by cases x <;> rfl
  have hsame (h : p = s.dev.ppu.posture) : derivePosture (s.dev.sensed x) = s.dev.sensed x :=
    derivePosture_of_same (hp.trans (h.trans hold.symm))
  have htakes (h : p ≠ s.dev.ppu.posture) :
      (s.dev.sensed x).TakesPosture (derivePosture (s.dev.sensed x)) p := by
    rw [← hold, ← hp] at h
    exact hp ▸ derivePosture_takes h
  refine ⟨by rw [hlid]; cases x <;> rfl, by rw [hfold]; cases x <;> rfl, by rw [← hp]; cases x <;> rfl,
    fun hne => ⟨(htakes hne).raised, ?_, fun hg hq => ?_, fun hg => ?_⟩, fun h => ?_, fun ho hw => ?_,
    fun hne hn => ⟨?_, fun hl => ?_, fun hl => ?_⟩⟩
  · rw [(htakes hne).mse.2.2.2, hmse, takePosture_scanState]
  · rw [← hmse] at hg hq ⊢
    exact (htakes hne).gates hg hq
  · rw [← hmse] at hg ⊢
    exact (htakes hne).still hg
  · rw [hsame h]
    exact (sensed_frame x s.dev).1
  · have hne : p ≠ s.dev.ppu.posture := by
      rw [ho.1]
      rcases ho.2 with rfl | rfl <;> simp
    exact (htakes hne).wakes_of_sensed ho hw
  · rcases (htakes hne).latched_or_stays hn with ⟨-, he⟩ | ⟨-, he⟩ <;> rw [he] <;> cases x <;> rfl
  · rcases (htakes hne).latched_or_stays hn with ⟨-, he⟩ | ⟨hno, -⟩
    · rw [he]
      exact ⟨rfl, rfl⟩
    · exact absurd hl hno
  · rcases (htakes hne).latched_or_stays hn with ⟨hyes, -⟩ | ⟨-, he⟩
    · exact absurd hyes hl
    · rw [he]
      cases x <;> exact ⟨rfl, rfl⟩

end Sys2Proof.Machine

namespace Sys2Proof.Machine

/-! ## The scan, position by position (R5 to R8, R15, R18) -/

/-- A list mapped with its positions and mapped so again is mapped once. -/
theorem zipIdx_map_zipIdx {α β γ : Type} (xs : List α) (f : α × Nat → β) (g : β × Nat → γ) :
    (xs.zipIdx.map f).zipIdx.map g = xs.zipIdx.map fun x => g (f x, x.2) := by
  refine List.ext_getElem? fun i => ?_
  cases h : xs[i]? <;> simp [List.getElem?_map, List.getElem?_zipIdx, h]

section
variable (t : ScanTab) (side : Bool) (st : ScanState) (raw : BitVec 148)

/-- A position as step 1 of a scan leaves it, with what it yields there (R18). -/
def settledAt (p : Nat) (r : PosRec) : PosRec × List RawEntry :=
  if st = .active then settleOut t p r else (r, [])

/-- A position after all flips of a scan (R5, R6, R15). -/
def flippedAt (p : Nat) (r : PosRec) : PosRec := sampleRec t side st raw p (settledAt t st p r).1

/-- The records after all flips of a scan. -/
def flipped (recs : List PosRec) : List PosRec := recs.zipIdx.map fun x => flippedAt t side st raw x.2 x.1

/-- A position as a scan leaves it, with what it yields after the flips (R6 to R8). -/
def judgedAt (recs : List PosRec) (p : Nat) (r : PosRec) : PosRec × List RawEntry :=
  if st = .active || !isMatrix p then
    judgeRec t (flipped t side st raw recs) p (settledAt t st p r).1 (flippedAt t side st raw p r)
  else (flippedAt t side st raw p r, [])

theorem scanRecs_eq (recs : List PosRec) : scanRecs t side st raw recs =
    (recs.zipIdx.map fun x => (judgedAt t side st raw recs x.2 x.1).1,
      (recs.zipIdx.map fun x => (settledAt t st x.2 x.1).2).flatten ++
        (recs.zipIdx.map fun x => (judgedAt t side st raw recs x.2 x.1).2).flatten) := by
  have hb : ((recs.zipIdx.map fun x => settledAt t st x.2 x.1).map Prod.fst) =
      recs.zipIdx.map fun x => (settledAt t st x.2 x.1).1 := List.map_map ..
  have ha : ((recs.zipIdx.map fun x => (settledAt t st x.2 x.1).1).zipIdx.map fun x =>
      sampleRec t side st raw x.2 x.1) = flipped t side st raw recs := zipIdx_map_zipIdx ..
  have hj : (((recs.zipIdx.map fun x => (settledAt t st x.2 x.1).1).zip (flipped t side st raw recs)).zipIdx.map
      fun x => if st = .active || !isMatrix x.2 then judgeRec t (flipped t side st raw recs) x.2 x.1.1 x.1.2
        else (x.1.2, [])) = recs.zipIdx.map fun x => judgedAt t side st raw recs x.2 x.1 := by
    rw [flipped, List.zip_map', zipIdx_map_zipIdx]
    rfl
  unfold scanRecs
  dsimp only
  rw [show (recs.zipIdx.map fun x => if st = .active then settleOut t x.2 x.1 else (x.1, [])) =
    recs.zipIdx.map fun x => settledAt t st x.2 x.1 from rfl, hb, ha, hj, List.map_map, List.map_map, List.map_map]
  rfl

theorem scanRecs_getElem? (recs : List PosRec) (p : Nat) : (scanRecs t side st raw recs).1[p]? =
    recs[p]?.map fun r => (judgedAt t side st raw recs p r).1 := by
  rw [scanRecs_eq]
  cases h : recs[p]? <;> simp [List.getElem?_map, List.getElem?_zipIdx, h]

theorem flipped_getElem? (recs : List PosRec) (p : Nat) : (flipped t side st raw recs)[p]? =
    recs[p]?.map fun r => flippedAt t side st raw p r := by
  rw [flipped]
  cases h : recs[p]? <;> simp [List.getElem?_map, List.getElem?_zipIdx, h]

/-! ### What a position yields -/

theorem settledAt_own : YieldsOwn true fun x : PosRec × Nat => (settledAt t st x.2 x.1).2 := by
  intro x
  dsimp only
  unfold settledAt settleOut
  repeat' split
  all_goals simp

theorem judgeRec_own (after : List PosRec) (p : Nat) (old new : PosRec) :
    (judgeRec t after p old new).2 = [] ∨ ∃ press, (judgeRec t after p old new).2 = [.change p press false] := by
  unfold judgeRec
  repeat' split
  all_goals simp

theorem judgedAt_own (recs : List PosRec) :
    YieldsOwn false fun x : PosRec × Nat => (judgedAt t side st raw recs x.2 x.1).2 := by
  intro x
  dsimp only
  unfold judgedAt
  split
  · exact judgeRec_own ..
  · exact .inl rfl

/-- The changes of a scan are the synthesized ones, then the others, each in ascending order (R5). -/
theorem scanRecs_ascending (recs : List PosRec) : ∃ released changed,
    (scanRecs t side st raw recs).2 = released ++ changed ∧ Ascending true released ∧ Ascending false changed := by
  rw [scanRecs_eq]
  exact ⟨_, _, rfl, (settledAt_own t st).ascending _, (judgedAt_own t side st raw recs).ascending _⟩

/-- The changes about a position are what it yields in step 1 and after the flips. -/
theorem scanRecs_about {recs : List PosRec} {p : Nat} {r : PosRec} (h : recs[p]? = some r) :
    (scanRecs t side st raw recs).2.filter (RawEntry.about p) =
      (settledAt t st p r).2 ++ (judgedAt t side st raw recs p r).2 := by
  have hs := (settledAt_own t st).filter_about recs 0 p
  have hj := (judgedAt_own t side st raw recs).filter_about recs 0 p
  rw [Nat.zero_add, h] at hs hj
  rw [scanRecs_eq, List.filter_append, hs, hj]
  rfl

/-! ### The steps at one position -/

/-- A judgement changes the suspect flag alone. -/
theorem judgeRec_keeps (after : List PosRec) (p : Nat) (old new : PosRec) :
    (judgeRec t after p old new).1 = { new with suspect := (judgeRec t after p old new).1.suspect } := by
  unfold judgeRec
  repeat' split
  all_goals rfl

theorem judgedAt_keeps (recs : List PosRec) (p : Nat) (r : PosRec) : (judgedAt t side st raw recs p r).1 =
    { flippedAt t side st raw p r with suspect := (judgedAt t side st raw recs p r).1.suspect } := by
  unfold judgedAt
  split
  · exact judgeRec_keeps ..
  · rfl

/-- The states after a scan are those after all flips. -/
theorem scanRecs_downAt (recs : List PosRec) (p : Nat) :
    downAt (scanRecs t side st raw recs).1 p = downAt (flipped t side st raw recs) p := by
  unfold downAt
  rw [List.getD_eq_getElem?_getD, List.getD_eq_getElem?_getD, scanRecs_getElem?, flipped_getElem?]
  cases recs[p]? with
  | none => rfl
  | some r => simp only [Option.map_some, Option.getD_some]; rw [judgedAt_keeps]

theorem settledAt_of_still {p : Nat} (h : st = .active → p < 144 → inRange t true p = true) (r : PosRec) :
    settledAt t st p r = (r, []) := by
  unfold settledAt settleOut
  split
  · rename_i ha
    rw [if_neg]
    simpa [isMatrix_iff] using h ha
  · rfl

end

/-- A position debounced stays as it is but for its counter, or flips with counter 0 and both flags clear (R6). -/
theorem debounce_stays_or_flips (t : ScanTab) (b : Bool) (r : PosRec) :
    (debounce t b r = { r with counter := (debounce t b r).counter }) ∨
      debounce t b r = ⟨!r.down, 0, false, false⟩ := by
  unfold debounce
  repeat' split
  all_goals simp

theorem debounce_outcome (t : ScanTab) (b : Bool) (r : PosRec) :
    if b = r.down then (debounce t b r).down = r.down ∧ (debounce t b r).counter = 0
    else if (if r.down then t.releaseCount else t.pressCount) ≤ r.counter + 1 then
      debounce t b r = ⟨!r.down, 0, false, false⟩
    else (debounce t b r).down = r.down ∧ (debounce t b r).counter = r.counter + 1 := by
  unfold debounce
  repeat' split
  all_goals simp_all

/-! ### Rectangles (R7) -/

theorem completesRectangle_iff {t : ScanTab} (ht : t.sound) (recs : List PosRec) (p : Nat) :
    completesRectangle t recs p = true ↔ Completes t recs p := by
  obtain ⟨⟨-, hd⟩, ⟨-, hs⟩, -⟩ := ht
  simp only [completesRectangle, Completes, List.any_eq_true, List.mem_range, Bool.and_eq_true, bne_iff_ne,
    decide_eq_true_iff, Config.driveLines, Config.senseLines]
  constructor
  · rintro ⟨e, -, ⟨⟨he, hel⟩, h1⟩, f, -, ⟨⟨hf, hfl⟩, h2⟩, h3⟩
    exact ⟨e, f, he, hf, hel, hfl, h2, h1, h3⟩
  · rintro ⟨e, f, he, hf, hel, hfl, h2, h1, h3⟩
    exact ⟨e, by omega, ⟨⟨he, hel⟩, h1⟩, f, by omega, ⟨⟨hf, hfl⟩, h2⟩, h3⟩

/-- The rectangles after a scan are those after all flips: a judgement flips nothing. -/
theorem completes_scanRecs_iff {t : ScanTab} (ht : t.sound) (side : Bool) (st : ScanState) (raw : BitVec 148)
    (recs : List PosRec) (p : Nat) : Completes t (scanRecs t side st raw recs).1 p ↔
      completesRectangle t (flipped t side st raw recs) p = true := by
  rw [completesRectangle_iff ht]
  unfold Completes
  simp only [scanRecs_downAt]

/-! ### Each kind of position -/

section
variable {t : ScanTab} {side : Bool} {st : ScanState} {raw : BitVec 148} {recs : List PosRec} {p : Nat} {r : PosRec}

/-- A side button is debounced where side buttons are fitted, and yields one change for each flip (R19). -/
theorem scan_side (hp : 144 ≤ p) : (settledAt t st p r).2 = [] ∧
    judgedAt t side st raw recs p r = (flippedAt t side st raw p r,
      if (flippedAt t side st raw p r).down = r.down then []
      else [.change p (flippedAt t side st raw p r).down false]) ∧
    flippedAt t side st raw p r = if side then debounce t (raw.getLsbD p) r else r := by
  have hm : isMatrix p = false := Bool.eq_false_iff.mpr fun h => absurd ((isMatrix_iff p).mp h) (by omega)
  have hs : settledAt t st p r = (r, []) := settledAt_of_still t st (fun _ h => absurd h (by omega)) r
  have hr : inRange t side p = side := if_neg (by simpa [Config.matrixPositions] using hp)
  refine ⟨by rw [hs], ?_, ?_⟩
  · simp [judgedAt, judgeRec, hm, hs, eq_comm (a := r.down)]
  · simp [flippedAt, sampleRec, hm, hs, hr]

/-- Outside ACTIVE a matrix position yields nothing (R13, R15). -/
theorem scan_inactive (hp : p < 144) (hst : st ≠ .active) : (settledAt t st p r).2 = [] ∧
    judgedAt t side st raw recs p r = (flippedAt t side st raw p r, []) ∧
    (st = .gated → flippedAt t side st raw p r = r) ∧
    (st = .baseline → inRange t side p = true → flippedAt t side st raw p r = baselineRec (raw.getLsbD p)) := by
  have hm : isMatrix p = true := (isMatrix_iff p).mpr hp
  have hs : settledAt t st p r = (r, []) := if_neg hst
  refine ⟨by rw [hs], by simp [judgedAt, hst, hm], ?_, ?_⟩
  · rintro rfl
    simp [flippedAt, sampleRec, hm, hs]
  · rintro rfl hr
    simp [flippedAt, sampleRec, hm, hr]

theorem inRange_matrix (hp : p < 144) :
    inRange t side p = true ↔ p / 8 < t.driveLines ∧ p % 8 < t.senseLines := by
  simp [inRange, Config.matrixPositions, hp]

/-- A matrix position out of range is settled UP in ACTIVE, with the release of one that is DOWN with both flags clear
(R18). -/
theorem scan_outside (hp : p < 144) (hr : ¬ (p / 8 < t.driveLines ∧ p % 8 < t.senseLines)) :
    settledAt t .active p r = (PosRec.up, if r.down = true ∧ r.suspect = false ∧ r.masked = false
      then [.change p false true] else []) ∧
    judgedAt t side .active raw recs p r = (PosRec.up, []) := by
  have hm : isMatrix p = true := (isMatrix_iff p).mpr hp
  have hi (b : Bool) : inRange t b p = false := Bool.eq_false_iff.mpr fun h => hr ((inRange_matrix hp).mp h)
  have hs : settledAt t .active p r = (PosRec.up, if r.down = true ∧ r.suspect = false ∧ r.masked = false
      then [.change p false true] else []) := by
    simp [settledAt, settleOut, hm, hi, and_assoc]
  refine ⟨hs, ?_⟩
  simp [judgedAt, judgeRec, flippedAt, sampleRec, hm, hi, hs, PosRec.up]

/-- A matrix position in range is debounced in ACTIVE and judged against the states after all flips (R6 to R8). -/
theorem scan_inside (hp : p < 144) (hr : p / 8 < t.driveLines ∧ p % 8 < t.senseLines) :
    (settledAt t .active p r).2 = [] ∧
    flippedAt t side .active raw p r = debounce t (raw.getLsbD p) r ∧
    judgedAt t side .active raw recs p r =
      judgeRec t (flipped t side .active raw recs) p r (debounce t (raw.getLsbD p) r) := by
  have hm : isMatrix p = true := (isMatrix_iff p).mpr hp
  have hi (b : Bool) : inRange t b p = true := (inRange_matrix hp).mpr hr
  have hs : settledAt t .active p r = (r, []) := settledAt_of_still t _ (fun _ _ => hi true) r
  refine ⟨by rw [hs], ?_, ?_⟩ <;> simp [judgedAt, flippedAt, sampleRec, hm, hs, hi]

end
/-! ### The judgement of a matrix position in range (R6 to R8) -/

section
variable {t : ScanTab} {after : List PosRec} {p : Nat} {old new : PosRec} (hp : p < 144)
include hp

/-- UP to DOWN: made suspect when it completes a rectangle and the diode flag is off, else a press (R7). -/
theorem judgeRec_press (ho : old.down = false) (hn : new.down = true) : judgeRec t after p old new =
    if t.diodeMatrix = false ∧ completesRectangle t after p = true then ({ new with suspect := true }, [])
    else (new, [.change p true false]) := by
  simp [judgeRec, (isMatrix_iff p).mpr hp, ho, hn]

/-- DOWN to UP: a release, unless the press was suspect or masked (R6). -/
theorem judgeRec_release (ho : old.down = true) (hn : new.down = false) : judgeRec t after p old new =
    (new, if old.suspect || old.masked then [] else [.change p false false]) := by
  simp [judgeRec, (isMatrix_iff p).mpr hp, ho, hn]

/-- A suspect position that stays DOWN is judged again (R8). -/
theorem judgeRec_recheck (ho : old.down = true) (hn : new.down = true) (hs : old.suspect = true) :
    judgeRec t after p old new =
      if t.diodeMatrix = false ∧ completesRectangle t after p = true then (new, [])
      else ({ new with suspect := false }, [.change p true false]) := by
  cases hd : t.diodeMatrix <;> cases hc : completesRectangle t after p <;>
    simp [judgeRec, (isMatrix_iff p).mpr hp, ho, hn, hs, hd, hc]

/-- A position that stays as it is, and was not suspect, yields nothing (R6). -/
theorem judgeRec_still (h : old.down = new.down) (hs : (old.suspect && new.down) = false) :
    judgeRec t after p old new = (new, []) := by
  cases hn : new.down <;> simp_all [judgeRec, (isMatrix_iff p).mpr hp]

end
end Sys2Proof.Machine

namespace Sys2Proof.Machine

/-! ## The scan settled (R3, R5 to R8, R15, R18, R19) -/

/-- What a scan makes of the MSE: records, changes queued, and the timer restarted (R3, R5, R13). -/
theorem scanEvent_eq (raw : BitVec 148) {d : Dev} (h : d.mse.scanTimer.isSome) : scanEvent raw d =
    { d with
      pins := { d.pins with keys := raw }
      mse := { d.mse.scan d.tst.scan d.profile.sideButtons raw with
        scanTimer := (d.scanCalled d.ppu.power).map fun us => ⟨us, us⟩ } } := by
  obtain ⟨x, hx⟩ := Option.isSome_iff_exists.mp h
  have hs : scanEvent raw d = { d with
      pins := { d.pins with keys := raw }
      mse := { d.mse.scan d.tst.scan d.profile.sideButtons raw with scanTimer := d.scanPeriod.map Timer.ofUs } } := by
    unfold scanEvent
    rw [hx]
    rfl
  rw [hs, scanPeriod_eq]
  rfl

theorem scan_recs (t : ScanTab) (side : Bool) (raw : BitVec 148) (m : Mse) :
    (m.scan t side raw).recs = (scanRecs t side m.scanState raw m.recs).1 := by
  rw [scan_eq, pushAll_keeps]

/-- A baseline scan makes the scan state ACTIVE (R13). -/
theorem scan_of_baseline {t : ScanTab} {side : Bool} {raw : BitVec 148} {m : Mse} (h : m.scanState = .baseline) :
    (m.scan t side raw).scanState = .active := by
  unfold Mse.scan
  dsimp only
  rw [if_pos (by rw [pushAll_keeps]; exact h)]

/-- The position after a scan that debounces it, its suspect flag apart (R6). -/
theorem debounced_outcome {t : ScanTab} {b : Bool} {r e : PosRec}
    (he : e = { debounce t b r with suspect := e.suspect })
    (hs : r.down = true → (debounce t b r).down = false → e.suspect = false) :
    if b = r.down then e.down = r.down ∧ e.counter = 0
    else if (if r.down then t.releaseCount else t.pressCount) ≤ r.counter + 1 then
      e.down = !r.down ∧ e.counter = 0 ∧ (r.down → e.suspect = false ∧ e.masked = false)
    else e.down = r.down ∧ e.counter = r.counter + 1 := by
  have h := debounce_outcome t b r
  have hdown : e.down = (debounce t b r).down := by rw [he]
  have hcount : e.counter = (debounce t b r).counter := by rw [he]
  have hmask : e.masked = (debounce t b r).masked := by rw [he]
  rw [hdown, hcount, hmask]
  by_cases hb : b = r.down
  · rw [if_pos hb] at h ⊢
    exact h
  · by_cases hc : (if r.down then t.releaseCount else t.pressCount) ≤ r.counter + 1
    · rw [if_neg hb, if_pos hc] at h ⊢
      exact ⟨by rw [h], by rw [h], fun hd => ⟨hs hd (by rw [h, hd]; rfl), by rw [h]⟩⟩
    · rw [if_neg hb, if_neg hc] at h ⊢
      exact h

theorem debounce_of_flip {t : ScanTab} {b : Bool} {r : PosRec} (h : (debounce t b r).down ≠ r.down) :
    (debounce t b r).suspect = false ∧ (debounce t b r).masked = false := by
  rcases debounce_stays_or_flips t b r with he | he
  · rw [he] at h
    exact absurd rfl h
  · rw [he]
    exact ⟨rfl, rfl⟩

theorem debounce_of_stay {t : ScanTab} {b : Bool} {r : PosRec} (h : (debounce t b r).down = r.down) :
    (debounce t b r).suspect = r.suspect ∧ (debounce t b r).masked = r.masked := by
  rcases debounce_stays_or_flips t b r with he | he
  · rw [he]
    exact ⟨rfl, rfl⟩
  · rw [he] at h
    cases hd : r.down <;> simp [hd] at h

/-- A matrix position in range after a scan in ACTIVE. -/
theorem scan_inside_outcome {t : ScanTab} {raw : BitVec 148} {recs : List PosRec} {p : Nat} {r : PosRec}
    (side : Bool) (hp : p < 144) (hr : p / 8 < t.driveLines ∧ p % 8 < t.senseLines) :
    let e := (judgedAt t side .active raw recs p r).1
    e = { debounce t (raw.getLsbD p) r with suspect := e.suspect } ∧
      (r.down = true → (debounce t (raw.getLsbD p) r).down = false → e.suspect = false) := by
  obtain ⟨-, hf, hj⟩ := scan_inside (side := side) (raw := raw) (recs := recs) (r := r) hp hr
  refine ⟨by rw [hj]; exact judgeRec_keeps .., fun hd hn => ?_⟩
  rw [hj, judgeRec_release hp hd hn]
  exact (debounce_of_flip (by rw [hd, hn]; simp)).1

/-! ### What a scan makes of a matrix position in range in ACTIVE -/

section
variable {t : ScanTab} {side : Bool} {raw : BitVec 148} {recs : List PosRec} {p : Nat} {r : PosRec} (hp : p < 144)
  (hr : p / 8 < t.driveLines ∧ p % 8 < t.senseLines)
include hp hr

theorem judgedAt_down :
    (judgedAt t side .active raw recs p r).1.down = (debounce t (raw.getLsbD p) r).down := by
  rw [(scan_inside hp hr).2.2, judgeRec_keeps]

/-- A press, judged (R7). -/
theorem scan_press (ho : r.down = false) (hn : (judgedAt t side .active raw recs p r).1.down = true) :
    (judgedAt t side .active raw recs p r).1.masked = false ∧
    ((judgedAt t side .active raw recs p r).1.suspect = true ↔
      t.diodeMatrix = false ∧ completesRectangle t (flipped t side .active raw recs) p = true) ∧
    (judgedAt t side .active raw recs p r).2 =
      if (judgedAt t side .active raw recs p r).1.suspect then [] else [.change p true false] := by
  rw [judgedAt_down hp hr] at hn
  obtain ⟨hns, hnm⟩ := debounce_of_flip (t := t) (b := raw.getLsbD p) (r := r) (by simp [ho, hn])
  rw [(scan_inside hp hr).2.2, judgeRec_press hp ho hn]
  split
  · rename_i hc
    exact ⟨hnm, iff_of_true rfl hc, rfl⟩
  · rename_i hc
    exact ⟨hnm, iff_of_false (by simp [hns]) hc, by rw [hns]; rfl⟩

/-- A release (R6). -/
theorem scan_release (ho : r.down = true) (hn : (judgedAt t side .active raw recs p r).1.down = false) :
    (judgedAt t side .active raw recs p r).1.suspect = false ∧
    (judgedAt t side .active raw recs p r).1.masked = false ∧
    (judgedAt t side .active raw recs p r).2 = if r.suspect || r.masked then [] else [.change p false false] := by
  rw [judgedAt_down hp hr] at hn
  obtain ⟨hns, hnm⟩ := debounce_of_flip (t := t) (b := raw.getLsbD p) (r := r) (by simp [ho, hn])
  rw [(scan_inside hp hr).2.2, judgeRec_release hp ho hn]
  exact ⟨hns, hnm, rfl⟩

/-- A suspect position that stays DOWN, judged again (R8). -/
theorem scan_recheck (ho : r.down = true) (hn : (judgedAt t side .active raw recs p r).1.down = true)
    (hs : r.suspect = true) :
    ((judgedAt t side .active raw recs p r).1.suspect = true ↔
      t.diodeMatrix = false ∧ completesRectangle t (flipped t side .active raw recs) p = true) ∧
    (judgedAt t side .active raw recs p r).2 =
      if (judgedAt t side .active raw recs p r).1.suspect then [] else [.change p true false] := by
  rw [judgedAt_down hp hr] at hn
  obtain ⟨hns, -⟩ := debounce_of_stay (t := t) (b := raw.getLsbD p) (r := r) (by simp [ho, hn])
  rw [(scan_inside hp hr).2.2, judgeRec_recheck hp ho hn hs]
  split
  · rename_i hc
    exact ⟨iff_of_true (hns.trans hs) hc, by rw [hns, hs]; rfl⟩
  · rename_i hc
    exact ⟨iff_of_false (by simp) hc, rfl⟩

/-- A position that stays UP, or DOWN and not suspect (R6). -/
theorem scan_still (hn : (judgedAt t side .active raw recs p r).1.down = r.down) (hs : (r.suspect && r.down) = false) :
    (judgedAt t side .active raw recs p r).1.suspect = r.suspect ∧
    (judgedAt t side .active raw recs p r).1.masked = r.masked ∧
    (judgedAt t side .active raw recs p r).2 = [] := by
  rw [judgedAt_down hp hr] at hn
  obtain ⟨hns, hnm⟩ := debounce_of_stay (t := t) (b := raw.getLsbD p) (r := r) hn
  rw [(scan_inside hp hr).2.2, judgeRec_still hp hn.symm (hn ▸ hs)]
  exact ⟨hns, hnm, rfl⟩

end

/-- A position in the range of a scan after it: a baseline of it, or debounced (R6, R15). -/
theorem scan_settles_position (t : ScanTab) (side : Bool) (st : ScanState) (raw : BitVec 148) (recs : List PosRec)
    {p : Nat} {r : PosRec} (hm : p < 144 → p / 8 < t.driveLines ∧ p % 8 < t.senseLines)
    (hs : 144 ≤ p → side = true) (hg : p < 144 → st ≠ .gated) :
    let e := (judgedAt t side st raw recs p r).1
    if p < 144 ∧ st = .baseline then e = baselineRec (raw.getLsbD p)
    else if raw.getLsbD p = r.down then e.down = r.down ∧ e.counter = 0
    else if (if r.down then t.releaseCount else t.pressCount) ≤ r.counter + 1 then
      e.down = !r.down ∧ e.counter = 0 ∧ (r.down → e.suspect = false ∧ e.masked = false)
    else e.down = r.down ∧ e.counter = r.counter + 1 := by
  intro e
  by_cases hp : p < 144
  · cases st with
    | gated => exact absurd rfl (hg hp)
    | baseline =>
      obtain ⟨-, hj, -, hb⟩ := scan_inactive (side := side) (raw := raw) (recs := recs) (r := r) hp
        (st := .baseline) (by simp)
      rw [if_pos ⟨hp, rfl⟩]
      have he : e = flippedAt t side .baseline raw p r := congrArg Prod.fst hj
      exact he.trans (hb rfl ((inRange_matrix hp).mpr (hm hp)))
    | active =>
      rw [if_neg (by simp)]
      obtain ⟨he, hd⟩ := scan_inside_outcome (raw := raw) (recs := recs) (r := r) side hp (hm hp)
      exact debounced_outcome he hd
  · obtain ⟨-, hj, hf⟩ := scan_side (t := t) (side := side) (st := st) (raw := raw) (recs := recs) (r := r)
      (Nat.not_lt.mp hp)
    rw [if_neg fun h => hp h.1]
    have he : e = debounce t (raw.getLsbD p) r := by
      rw [show e = flippedAt t side st raw p r from congrArg Prod.fst hj, hf, hs (Nat.not_lt.mp hp), if_pos rfl]
    refine debounced_outcome (by rw [he]) fun hd hn => ?_
    rw [he]
    exact (debounce_of_flip (by rw [hd, hn]; simp)).1

/-- Settles O6: each position by its kind, in the range or out of it, and by the state of the scan. -/
theorem scanSettlesEachPosition : Obligations.ScanSettlesEachPosition := by
  refine ⟨fun raw s p r ht hp hr hm hs hg => ?_, fun t side st raw recs ht hl => ?_⟩
  · refine ⟨_, (judgedAt s.dev.tst.scan s.dev.profile.sideButtons s.dev.mse.scanState raw s.dev.mse.recs p r).1,
      ends_of_run (f := scanEvent raw) rfl (scanEvent_eq raw ht), rfl, rfl, ?_, ?_⟩
    · dsimp only
      rw [scan_recs, scanRecs_getElem?, hr]
      rfl
    · have h := scan_settles_position s.dev.tst.scan s.dev.profile.sideButtons s.dev.mse.scanState raw
        s.dev.mse.recs (r := r) hm hs hg
      dsimp only at h ⊢
      split at h
      · rename_i hb
        rw [if_pos hb]
        exact ⟨h, scan_of_baseline hb.2⟩
      · rename_i hb
        rw [if_neg hb]
        exact h
  · intro after yields
    refine ⟨scanRecs_ascending t side st raw recs, fun p r hr => ?_⟩
    intro here e now
    have he : e = (judgedAt t side st raw recs p r).1 := by
      have hget : after[p]? = some (judgedAt t side st raw recs p r).1 := by
        rw [show after[p]? = _ from scanRecs_getElem? t side st raw recs p, hr]
        rfl
      rw [show e = after.getD p PosRec.up from rfl, List.getD_eq_getElem?_getD, hget]
      rfl
    have hnow : now = (settledAt t st p r).2 ++ (judgedAt t side st raw recs p r).2 :=
      scanRecs_about t side st raw hr
    have hc : Completes t after p ↔ completesRectangle t (flipped t side st raw recs) p = true :=
      completes_scanRecs_iff ht side st raw recs p
    clear_value e now
    refine ⟨fun hp => ?_, fun hp hst => ?_, fun hp hst hout => ?_, fun hp hst hin => ?_⟩
    · obtain ⟨hs, hj, hf⟩ := scan_side (t := t) (side := side) (st := st) (raw := raw) (recs := recs) (r := r) hp
      rw [hj] at he hnow
      subst he
      refine ⟨by rw [hnow, hs]; rfl, fun h1 h2 => ?_, fun h => by rw [hf, h]; rfl⟩
      rw [hf]
      split
      · rcases debounce_stays_or_flips t (raw.getLsbD p) r with h | h <;> rw [h]
        · exact ⟨h1, h2⟩
        · exact ⟨rfl, rfl⟩
      · exact ⟨h1, h2⟩
    · obtain ⟨hs, hj, hf, -⟩ := scan_inactive (t := t) (side := side) (raw := raw) (recs := recs) (r := r) hp hst
      rw [hj] at he hnow
      exact ⟨by rw [hnow, hs]; rfl, fun h => he.trans (hf h)⟩
    · subst hst
      obtain ⟨hs, hj⟩ := scan_outside (side := side) (raw := raw) (recs := recs) (r := r) hp hout
      rw [hj] at he hnow
      rw [hs] at hnow
      exact ⟨he, by rw [hnow, List.append_nil]⟩
    · subst hst
      obtain ⟨hs, -⟩ := scan_inside (side := side) (raw := raw) (recs := recs) (r := r) hp hin
      rw [hs, List.nil_append] at hnow
      subst he hnow
      rw [hc]
      exact ⟨fun h0 h1 => (scan_still hp hin (h1.trans h0.symm) (by rw [h0, Bool.and_false])).2.2,
        fun h0 h1 => ⟨(scan_press hp hin h0 h1).1, (scan_press hp hin h0 h1).2.2⟩, scan_release hp hin,
        scan_recheck hp hin, fun h0 h1 hs =>
          let ⟨hsus, hrest⟩ := scan_still hp hin (h1.trans h0.symm) (by rw [hs, Bool.false_and])
          ⟨hsus.trans hs, hrest⟩⟩

/-- The raw event queue after a scan that finds it empty: the first 16 of its changes (R10, R11). -/
theorem scan_raw_of_empty {t : ScanTab} {side : Bool} {raw : BitVec 148} {m : Mse} (h : m.raw = []) :
    (m.scan t side raw).raw = (scanRecs t side m.scanState raw m.recs).2.take 16 := by
  rw [scan_eq, pushAll_eq _ _ (by simp [h])]
  simp [h]

/-- Settles O7, with the judgement of a press; the queue holds the changes about a position unless it is full. -/
theorem scanJudgesGhosts : Obligations.ScanJudgesGhosts := by
  intro raw s p ht hst hsound hlen hq hp hd hs
  refine ⟨_, ends_of_run (f := scanEvent raw) rfl (scanEvent_eq raw ht), fun hup hdown => ?_⟩
  obtain ⟨r, hr⟩ : ∃ r, s.dev.mse.recs[p]? = some r := ⟨_, List.getElem?_eq_getElem (by omega)⟩
  dsimp only at hdown ⊢
  rw [scan_recs, hst] at hdown
  rw [scan_recs, scan_raw_of_empty hq, hst, completes_scanRecs_iff hsound]
  have habout := scanRecs_about s.dev.tst.scan s.dev.profile.sideButtons .active raw hr
  have hget := scanRecs_getElem? s.dev.tst.scan s.dev.profile.sideButtons .active raw s.dev.mse.recs p
  rw [hr, Option.map_some] at hget
  rw [downAt, List.getD_eq_getElem?_getD, hr, Option.getD_some] at hup
  rw [downAt, List.getD_eq_getElem?_getD, hget, Option.getD_some] at hdown
  obtain ⟨-, hsus, hy⟩ := scan_press hp ⟨hd, hs⟩ hup hdown
  obtain ⟨hset, -⟩ := scan_inside (side := s.dev.profile.sideButtons) (raw := raw) (recs := s.dev.mse.recs)
    (r := r) hp ⟨hd, hs⟩
  rw [hset, List.nil_append, hy] at habout
  rw [List.getD_eq_getElem?_getD, hget, Option.getD_some]
  refine ⟨hsus, fun hm => ?_, fun hm => ?_⟩
  · rw [hm, if_pos rfl] at habout
    exact List.eq_nil_of_subset_nil (habout ▸ ((List.take_sublist ..).filter _).subset)
  · rw [hm] at habout
    by_cases hl : (scanRecs s.dev.tst.scan s.dev.profile.sideButtons .active raw s.dev.mse.recs).2.length ≤ 16
    · exact .inl (by rw [List.take_of_length_le hl, habout]; rfl)
    · exact .inr (by rw [List.length_take]; omega)

end Sys2Proof.Machine

namespace Sys2Proof.Machine

/-! ## Bit fields in bytes (R196) -/

/-- How many bits fields take. -/
def fieldBits (fs : List (Nat × Nat)) : Nat := (fs.map Prod.fst).sum

/-- Where packed fields stand, from a bit on: for each its place, its width and its value. -/
def places (low : Nat) : List (Nat × Nat) → List (Nat × Nat × Nat)
  | [] => []
  | (w, v) :: fs => (low, w, v) :: places (low + w) fs

theorem packBits_lt (fs : List (Nat × Nat)) : packBits fs < 2 ^ fieldBits fs := by
  induction fs with
  | nil => simp [packBits, fieldBits]
  | cons x fs ih =>
    obtain ⟨w, v⟩ := x
    have hsum : fieldBits ((w, v) :: fs) = w + fieldBits fs := rfl
    rw [packBits, hsum, Nat.pow_add]
    calc v % 2 ^ w + 2 ^ w * packBits fs < 2 ^ w + 2 ^ w * packBits fs :=
          Nat.add_lt_add_right (Nat.mod_lt _ (Nat.two_pow_pos w)) _
      _ = 2 ^ w * (packBits fs + 1) := by rw [Nat.mul_add, Nat.mul_one, Nat.add_comm]
      _ ≤ 2 ^ w * 2 ^ fieldBits fs := Nat.mul_le_mul_left _ ih

/-- Fields packed behind others stand above them. -/
theorem packBits_append (fs gs : List (Nat × Nat)) :
    packBits (fs ++ gs) = packBits fs + 2 ^ fieldBits fs * packBits gs := by
  induction fs with
  | nil => simp [packBits, fieldBits]
  | cons x fs ih =>
    obtain ⟨w, v⟩ := x
    have hsum : fieldBits ((w, v) :: fs) = w + fieldBits fs := rfl
    rw [List.cons_append, packBits, packBits, ih, hsum, Nat.pow_add, Nat.mul_add, Nat.mul_assoc, Nat.add_assoc]

/-- Fields packed as the value of a field are packed in its place. -/
theorem packBits_nested (fs gs : List (Nat × Nat)) :
    packBits ((fieldBits fs, packBits fs) :: gs) = packBits (fs ++ gs) := by
  rw [packBits, packBits_append, Nat.mod_eq_of_lt (packBits_lt fs)]

/-- Only the low bits of a value are packed. -/
theorem packBits_set {fs : List (Nat × Nat)} {n w v : Nat} (hn : fs[n]? = some (w, v)) {u : Nat}
    (hu : u % 2 ^ w = v % 2 ^ w) : packBits (fs.set n (w, u)) = packBits fs := by
  induction fs generalizing n with
  | nil => rfl
  | cons f fs ih =>
    cases n with
    | zero =>
      obtain rfl := Option.some.inj hn
      rw [List.set_cons_zero, packBits, packBits, hu]
    | succ n => rw [List.set_cons_succ, packBits, packBits, ih hn]

/-- A packed field is read back at its place. -/
theorem packBits_places {fs : List (Nat × Nat)} {low : Nat} {x : Nat × Nat × Nat} (h : x ∈ places low fs) :
    low ≤ x.1 ∧ x.1 + x.2.1 ≤ low + fieldBits fs ∧
      packBits fs / 2 ^ (x.1 - low) % 2 ^ x.2.1 = x.2.2 % 2 ^ x.2.1 := by
  induction fs generalizing low with
  | nil => exact absurd h List.not_mem_nil
  | cons f fs ih =>
    obtain ⟨w, v⟩ := f
    have hsum : fieldBits ((w, v) :: fs) = w + fieldBits fs := rfl
    rcases List.mem_cons.mp h with rfl | h
    · refine ⟨Nat.le_refl _, by rw [hsum]; dsimp only; omega, ?_⟩
      simp [packBits]
    · obtain ⟨h1, h2, h3⟩ := ih h
      refine ⟨by omega, by omega, ?_⟩
      have hd : packBits ((w, v) :: fs) / 2 ^ w = packBits fs := by
        rw [packBits, Nat.add_mul_div_left _ _ (Nat.two_pow_pos w),
          Nat.div_eq_of_lt (Nat.mod_lt _ (Nat.two_pow_pos w)), Nat.zero_add]
      rw [← h3, ← hd, Nat.div_div_eq_div_mul, ← Nat.pow_add, show w + (x.1 - (low + w)) = x.1 - low by omega]

/-- Bits that end below a power are read from the rest. -/
theorem bits_of_mod {v n low w : Nat} (h : low + w ≤ n) : v % 2 ^ n / 2 ^ low % 2 ^ w = v / 2 ^ low % 2 ^ w := by
  obtain ⟨k, rfl⟩ := Nat.exists_eq_add_of_le h
  rw [Nat.add_assoc, Nat.pow_add, Nat.mod_mul_right_div_self, Nat.pow_add, Nat.mod_mul_right_mod]

/-- Each field of a packed block stands in the bits that the block's place among the bytes gives it. -/
theorem bitsAt_block (pre post : List Byte) {n : Nat} {fs : List (Nat × Nat)} (hfit : fieldBits fs ≤ 8 * n)
    {x : Nat × Nat × Nat} (h : x ∈ places (8 * pre.length) fs) :
    bitsAt (pre ++ leBytes n (packBits fs) ++ post) x.1 x.2.1 = x.2.2 % 2 ^ x.2.1 := by
  obtain ⟨h1, h2, h3⟩ := packBits_places h
  obtain ⟨low, w, v⟩ := x
  dsimp only at h1 h2 h3 ⊢
  obtain ⟨k, rfl⟩ := Nat.exists_eq_add_of_le h1
  rw [Nat.add_sub_cancel_left] at h3
  have hpow : 256 ^ pre.length = 2 ^ (8 * pre.length) := by rw [Nat.pow_mul]
  have hpow' : 256 ^ n = 2 ^ (8 * n) := by rw [Nat.pow_mul]
  have hdrop : leNat (pre ++ leBytes n (packBits fs) ++ post) / 2 ^ (8 * pre.length) =
      leNat (leBytes n (packBits fs) ++ post) := by
    rw [← hpow, ← leNat_drop, List.append_assoc, List.drop_left]
  rw [bitsAt, Nat.pow_add, ← Nat.div_div_eq_div_mul, hdrop, ← bits_of_mod (n := 8 * n) (by omega), ← hpow',
    ← leNat_take, List.take_left' (leBytes_length ..), leNat_leBytes, hpow', bits_of_mod (by omega), h3]

theorem bitsAt_leBytes {n : Nat} {fs : List (Nat × Nat)} (hfit : fieldBits fs ≤ 8 * n)
    {x : Nat × Nat × Nat} (h : x ∈ places 0 fs) :
    bitsAt (leBytes n (packBits fs)) x.1 x.2.1 = x.2.2 % 2 ^ x.2.1 := by
  have := bitsAt_block [] [] hfit h
  rwa [List.nil_append, List.append_nil] at this

/-- Fields packed into the byte at an index. -/
theorem bitsAt_byte {bs : List Byte} {k : Nat} {fs : List (Nat × Nat)} (hk : bs[k]? = some (byteOf (packBits fs)))
    (hfit : fieldBits fs ≤ 8) {x : Nat × Nat × Nat} (h : x ∈ places (8 * k) fs) :
    bitsAt bs x.1 x.2.1 = x.2.2 % 2 ^ x.2.1 := by
  obtain ⟨hlt, hget⟩ := List.getElem?_eq_some_iff.mp hk
  have hlen : (bs.take k).length = k := List.length_take_of_le hlt.le
  have hbs : bs = bs.take k ++ leBytes 1 (packBits fs) ++ bs.drop (k + 1) := by
    rw [show leBytes 1 (packBits fs) = [bs[k]] from congrArg (fun b => [b]) hget.symm, List.append_assoc,
      List.singleton_append, List.getElem_cons_drop, List.take_append_drop]
  rw [← hlen] at h
  rw [hbs]
  exact bitsAt_block _ _ hfit h

theorem u16At_of_bytes {bs : List Byte} {i v : Nat} (h0 : bs[i]? = some (BitVec.ofNat 8 v))
    (h1 : bs[i + 1]? = some (BitVec.ofNat 8 (v / 256))) : u16At bs i = v % 65536 := by
  have h := leNat_leBytes 2 v
  rw [u16At, List.getD_eq_getElem?_getD, List.getD_eq_getElem?_getD, h0, h1]
  exact h

theorem twosOf_lt (n : Nat) (x : Int) : twosOf n x < 2 ^ n := by
  have h0 : (0 : Int) < (2 ^ n : Nat) := by positivity
  have h := Int.emod_lt_of_pos x h0
  have h' := Int.emod_nonneg x h0.ne'
  unfold twosOf
  omega

theorem u16At_of_signed {bs : List Byte} {i : Nat} {x : Int} (h0 : bs[i]? = some (BitVec.ofNat 8 (twosOf 16 x)))
    (h1 : bs[i + 1]? = some (BitVec.ofNat 8 (twosOf 16 x / 256))) : u16At bs i = (x % 65536).toNat :=
  (u16At_of_bytes h0 h1).trans (Nat.mod_eq_of_lt (twosOf_lt 16 x))

theorem byteAt_of {bs : List Byte} {i v : Nat} (h : bs[i]? = some (byteOf v)) : byteAt bs i = v % 256 := by
  rw [byteAt, List.getD_eq_getElem?_getD, h]
  exact BitVec.toNat_ofNat ..

/-- What holds of all places holds of those picked by their indexes. -/
theorem forall_picked {α : Type} {P : α → Prop} {xs ys : List α} (h : ∀ x ∈ xs, P x) (picks : List Nat)
    (hy : picks.filterMap (xs[·]?) = ys) : ∀ y ∈ ys, P y := by
  intro y hmem
  rw [← hy] at hmem
  obtain ⟨n, -, hn⟩ := List.mem_filterMap.mp hmem
  exact h y (List.mem_of_getElem? hn)

/-- Numbers in one byte each are the bytes of the numbers packed. -/
theorem map_byteOf (vs : List Nat) : vs.map byteOf = leBytes vs.length (packBits (vs.map fun v => (8, v))) := by
  induction vs with
  | nil => rfl
  | cons v vs ih =>
    rw [List.map_cons, List.map_cons, List.length_cons, leBytes, ih, packBits]
    congr 1
    · refine BitVec.eq_of_toNat_eq ?_
      rw [byteOf, BitVec.toNat_ofNat, BitVec.toNat_ofNat]
      omega
    · congr 1
      omega

end Sys2Proof.Machine

namespace Sys2Proof.Machine

/-! ## IDENTIFY and STATUS_READ settled (R181, R182, R191, R196) -/

theorem control_ends {s : State} {i kind : Nat} {tag : Byte} {payload : List Byte} (h : s.dev.TakesInto i)
    (hp : payload.length ≤ 60) {c : Instr} (hc : exec c s = control kind tag payload s) {d : Dev}
    (hd : answerControl kind payload i (s.dev.waiting i 0 kind tag) = d) : Ends c s d :=
  ends_of_run (f := requestEvent ⟨0, kind, tag, payload⟩) hc ((requestEvent_taken h hp rfl).trans hd)

theorem identityData_eq (d : Dev) : identityData d = [0xB4, 0x0A, 1,
    BitVec.ofNat 8 ((if d.profile.twoPacks then 1 else 0) + (if d.profile.twoFans then 2 else 0) +
      (if d.profile.sideButtons then 4 else 0)),
    60, 6, 8, if d.pli.powerOn then 1 else 0] := by
  unfold identityData
  cases d.profile.twoPacks <;> cases d.profile.twoFans <;> cases d.profile.sideButtons <;>
    cases d.pli.powerOn <;> rfl

theorem summaryBytes_eq (x : BitVec 16) : leBytes 2 x.toNat = [x.setWidth 8, (x >>> 8).setWidth 8] := by
  have h0 : BitVec.ofNat 8 x.toNat = x.setWidth 8 := BitVec.eq_of_toNat_eq (by simp)
  have h1 : BitVec.ofNat 8 (x.toNat / 256) = (x >>> 8).setWidth 8 :=
    BitVec.eq_of_toNat_eq (by simp [Nat.shiftRight_eq_div_pow])
  rw [← h0, ← h1]
  rfl

section
variable {s : State} {i : Nat} {tag : Byte} (h : s.dev.TakesInto i)
include h

theorem identify_ends : Ends (.identify tag []) s (s.dev.answered i 0 0 tag ⟨.ok, false, identityData s.dev⟩) :=
  control_ends (kind := 0) (payload := []) h (by simp) rfl (answerWith_waiting ⟨.ok, false, identityData s.dev⟩ h)

theorem badIdentify_ends {p : List Byte} (hp : p ≠ []) (hl : p.length ≤ 60) :
    Ends (.identify tag p) s (s.dev.answered i 0 0 tag Status.badRequest.alone) := by
  have hr : answerControl 0 p i (s.dev.waiting i 0 0 tag) = badRequest i (s.dev.waiting i 0 0 tag) :=
    if_neg (by simpa using hp)
  exact control_ends h hl rfl (hr.trans (answerWith_waiting Status.badRequest.alone h))

theorem statusRead_ends {c : Instr} {b : Byte} {data : List Byte} (hc : exec c s = control 12 tag [b] s)
    (hd : answerControl 12 [b] i (s.dev.waiting i 0 12 tag) =
      answerWith i ⟨.ok, false, data⟩ (s.dev.waiting i 0 12 tag)) :
    Ends c s (s.dev.answered i 0 12 tag ⟨.ok, false, data⟩) :=
  control_ends h (by simp) hc (hd.trans (answerWith_waiting _ h))

theorem summaryRead_ends : Ends (.summaryRead tag) s
    { s.dev.answered i 0 12 tag ⟨.ok, false, leBytes 2 s.dev.nsu.summary.toNat⟩ with
      nsu := { s.dev.nsu with summary := 0 } } :=
  control_ends (kind := 12) (payload := [3]) h (by simp) rfl
    (answerWith_of_waiting (t := tag) ⟨.ok, false, leBytes 2 s.dev.nsu.summary.toNat⟩ h
      (e := (s.dev.waiting i 0 12 tag).setNsu { s.dev.nsu with summary := 0 }) rfl)

end

/-! ### The BATTERY record -/

theorem batteryRecord_common (d : Dev) : (batteryRecord d).take 11 = leBytes 11 (packBits (batteryCommon d)) := by
  unfold batteryRecord
  rw [List.append_assoc, List.take_left' (leBytes_length ..)]

theorem batteryRecord_pack (d : Dev) (k : Pack) :
    ((batteryRecord d).drop (match k with | .a => 11 | .b => 34)).take 23 =
      leBytes 23 (packBits (packBlock (d.mon k).record (d.chp k))) := by
  unfold batteryRecord
  cases k
  · rw [List.append_assoc, List.drop_left' (leBytes_length ..), List.take_left' (leBytes_length ..)]
  · rw [List.drop_left' (by simp), List.take_of_length_le (by simp)]

theorem batteryCommon_places (d : Dev) : ∀ x ∈ places 0 (batteryCommon d),
    bitsAt ((batteryRecord d).take 11) x.1 x.2.1 = x.2.2 % 2 ^ x.2.1 := by
  rw [batteryRecord_common]
  exact fun x => bitsAt_leBytes (by simp [fieldBits, batteryCommon])

theorem fieldBits_packBlock (r : PackRecord) (c : ChargePack) : fieldBits (packBlock r c) = 184 := by
  simp [fieldBits, packBlock]

theorem packBlock_places (r : PackRecord) (c : ChargePack) : ∀ x ∈ places 0 (packBlock r c),
    bitsAt (leBytes 23 (packBits (packBlock r c))) x.1 x.2.1 = x.2.2 % 2 ^ x.2.1 :=
  fun _ => bitsAt_leBytes (fieldBits_packBlock r c).le

theorem twosOf_mod {n m : Nat} (h : n ≤ m) (x : Int) :
    (x % (2 ^ m : Nat)).toNat % 2 ^ n = twosOf n x % 2 ^ n := by
  have hm : (0 : Int) ≤ x % (2 ^ m : Nat) := Int.emod_nonneg _ (by positivity)
  have hn : (0 : Int) ≤ x % (2 ^ n : Nat) := Int.emod_nonneg _ (by positivity)
  have hd : ((2 ^ n : Nat) : Int) ∣ (2 ^ m : Nat) := Int.natCast_dvd_natCast.mpr (Nat.pow_dvd_pow 2 h)
  unfold twosOf
  zify
  push_cast at hd hm hn
  rw [Int.toNat_of_nonneg hm, Int.toNat_of_nonneg hn]
  rw [Int.emod_emod_of_dvd _ hd, Int.emod_emod_of_dvd _ (Int.dvd_refl _)]

/-- A pack block with telemetry, its signed fields of any greater width. -/
theorem packBlock_telemetry {r : PackRecord} (c : ChargePack) {t : Telemetry} (h : r.telemetry = some t) :
    ∀ x ∈ places 0 (((packBlock r c).set 18 (15, (t.current % 65536).toNat)).set 19
        (12, (t.temperature % 65536).toNat)),
      bitsAt (leBytes 23 (packBits (packBlock r c))) x.1 x.2.1 = x.2.2 % 2 ^ x.2.1 := by
  have h18 : (packBlock r c)[18]? = some (15, twosOf 15 t.current) := by rw [packBlock, h]; rfl
  have h19 : ((packBlock r c).set 18 (15, (t.current % 65536).toNat))[19]? = some (12, twosOf 12 t.temperature) := by
    rw [packBlock, h]; rfl
  have hp := (packBits_set h19 (twosOf_mod (m := 16) (by decide) t.temperature)).trans
    (packBits_set h18 (twosOf_mod (m := 16) (by decide) t.current))
  have hp : packBits (((packBlock r c).set 18 (15, (t.current % 65536).toNat)).set 19
      (12, (t.temperature % 65536).toNat)) = packBits (packBlock r c) := hp
  rw [← hp]
  exact fun x => bitsAt_leBytes (by simp [fieldBits, packBlock])

/-- A pack block without telemetry, its flags as one field. -/
theorem packBlock_no_telemetry {r : PackRecord} (c : ChargePack) (h : r.telemetry = none) :
    ∀ x ∈ places 0 ((packBlock r c).take 10 ++ (5, 0) :: (packBlock r c).drop 15),
      bitsAt (leBytes 23 (packBits (packBlock r c))) x.1 x.2.1 = x.2.2 % 2 ^ x.2.1 := by
  have hp : packBits ((packBlock r c).take 10 ++ (5, 0) :: (packBlock r c).drop 15) = packBits (packBlock r c) := by
    have hflags : (packBlock r c).take 10 ++ ([(1, 0), (1, 0), (1, 0), (1, 0), (1, 0)] ++ (packBlock r c).drop 15) =
        packBlock r c := by rw [packBlock, h]; rfl
    rw [packBits_append]
    conv_rhs => rw [← hflags, packBits_append, ← packBits_nested]
    rfl
  rw [← hp]
  exact fun x => bitsAt_leBytes (by simp [fieldBits, packBlock])

/-! ### The KEYBOARD record -/

/-- The fields of the KEYBOARD record, its unused bit too. -/
def keyboardFields (d : Dev) : List (Nat × Nat) :=
  [(2, d.mse.scanState.code), (1, bitOf d.mse.overrun), (1, bitOf d.ktu.rollover),
    (1, bitOf (d.ktu.restate != .idle)), (2, wakeKeyCode d.ktu.wakeKey), (1, 0), (8, d.mse.raw.length),
    (8, countRecs (fun r => r.down) d.mse.recs), (8, countRecs (fun r => r.suspect) d.mse.recs),
    (8, countRecs (fun r => r.masked) d.mse.recs), (8, d.ktu.layer), (8, d.ktu.held.length), (8, d.ktu.queue.length)]

theorem keyboardRecord_eq (d : Dev) : keyboardRecord d = leBytes 8 (packBits (keyboardFields d)) := by
  have hfirst (fs : List (Nat × Nat)) : packBits (fs ++ [(1, 0)]) = packBits fs := by
    rw [packBits_append]; rfl
  unfold keyboardRecord
  dsimp only
  rw [map_byteOf, ← hfirst]
  exact congrArg (leBytes 8) (packBits_nested ((keyboardFields d).take 6) ((keyboardFields d).drop 6))

theorem keyboardRecord_places (d : Dev) : ∀ x ∈ places 0 (keyboardFields d),
    bitsAt (keyboardRecord d) x.1 x.2.1 = x.2.2 % 2 ^ x.2.1 := by
  rw [keyboardRecord_eq]
  exact fun x => bitsAt_leBytes (by simp [fieldBits, keyboardFields])

/-! ### The THERMAL record -/

theorem thermalRecord_length (d : Dev) : (thermalRecord d).length = 31 := by
  have hr : List.range 4 = [0, 1, 2, 3] := rfl
  simp [thermalRecord, s16Bytes, fanBlock, hr]

/-- The value and the condition of a die source (R196). -/
theorem thermalRecord_die (d : Dev) {j : Nat} {x : Source} (hj : j < 4) (hx : d.tfu.die[j]? = some x) :
    u16At (thermalRecord d) (2 * j) = (x.value % 65536).toNat ∧
      bitsAt (thermalRecord d) (112 + 2 * j) 2 = x.cond.code % 4 := by
  have hg : d.tfu.die.getD j Source.gone = x := by rw [List.getD_eq_getElem?_getD, hx]; rfl
  have hcode : d.tfu.dieCode j = x.cond.code := congrArg (fun y : Source => y.cond.code) hg
  have hdies : ∀ y ∈ places 112
      [(2, d.tfu.dieCode 0), (2, d.tfu.dieCode 1), (2, d.tfu.dieCode 2), (2, d.tfu.dieCode 3)],
      bitsAt (thermalRecord d) y.1 y.2.1 = y.2.2 % 2 ^ y.2.1 :=
    fun y => bitsAt_byte (k := 14) rfl (by simp [fieldBits])
  have hbits : bitsAt (thermalRecord d) (112 + 2 * j) 2 = d.tfu.dieCode j % 4 := by
    refine hdies (112 + 2 * j, 2, d.tfu.dieCode j) (List.mem_of_getElem? (i := j) ?_)
    match j, hj with
    | 0, _ | 1, _ | 2, _ | 3, _ => rfl
  refine ⟨?_, hcode ▸ hbits⟩
  rw [← hg]
  match j, hj with
  | 0, _ | 1, _ | 2, _ | 3, _ => exact u16At_of_signed rfl rfl

/-- The three bytes of conditions, flags and counters (R196). -/
theorem thermalRecord_flags (d : Dev) : ∀ x ∈ places 120
      [(2, d.tfu.skin.cond.code), (1, bitOf d.tfu.pack.one.isSome), (1, bitOf d.tfu.pack.two.isSome),
        (2, d.tfu.hostTimer.code), (1, bitOf d.tfu.critical)] ++
      places 128 [(2, d.tfu.skinFailures), (2, d.tfu.zone)],
    bitsAt (thermalRecord d) x.1 x.2.1 = x.2.2 % 2 ^ x.2.1 := by
  intro x hx
  rcases List.mem_append.mp hx with hx | hx
  · exact bitsAt_byte (k := 15) rfl (by simp [fieldBits]) hx
  · exact bitsAt_byte (k := 16) rfl (by simp [fieldBits]) hx

theorem thermalRecord_grace (d : Dev) : u16At (thermalRecord d) 17 =
    graceRemaining d.tfu.graceTimer % 65536 := u16At_of_bytes rfl rfl

theorem thermalRecord_packs (d : Dev) (b : Bool) : u16At (thermalRecord d) (if b then 12 else 10) =
    (packTemp (d.tfu.pack.get b) % 65536).toNat := by
  cases b <;> exact u16At_of_signed rfl rfl

/-- The block of a fan (R196). -/
theorem thermalRecord_fan (d : Dev) (f : Fan) :
    byteAt (thermalRecord d) (if f.ix then 25 else 19) =
        packBits [(1, bitOf (d.fanFitted f)), (1, bitOf (d.fan f).fault)] % 256 ∧
      u16At (thermalRecord d) ((if f.ix then 25 else 19) + 1) = ((d.fan f).eval % 65536).toNat ∧
      byteAt (thermalRecord d) ((if f.ix then 25 else 19) + 3) = (d.fan f).duty % 256 ∧
      u16At (thermalRecord d) ((if f.ix then 25 else 19) + 4) = (d.fan f).lastRpm % 65536 := by
  cases f <;> exact ⟨byteAt_of rfl, u16At_of_signed rfl rfl, byteAt_of rfl, u16At_of_bytes rfl rfl⟩

/-- Settles O51: each record by the packed fields that its bytes are made of. -/
theorem statusIsRead : Obligations.StatusIsRead := by
  refine ⟨fun s i tag h => ⟨?_, fun p => badIdentify_ends h, statusRead_ends h rfl rfl, statusRead_ends h rfl rfl,
    statusRead_ends h rfl rfl, ?_⟩, fun d => ?_⟩
  · rw [← identityData_eq]
    exact identify_ends h
  · rw [← summaryBytes_eq]
    exact summaryRead_ends h
  · intro bit holds word
    refine ⟨by simp [batteryRecord], thermalRecord_length d, by simp [keyboardRecord],
      batteryCommon_places d, fun k => ?_, ?_, ?_⟩
    · intro bs r c stage state
      have hbs : bs = leBytes 23 (packBits (packBlock r c)) := batteryRecord_pack d k
      have hp := packBlock_places r c
      clear_value bs r c
      subst hbs
      refine ⟨forall_picked hp [0, 1, 2, 3, 4, 7, 21, 24, 25, 26] ?_, fun n hn _ => ?_, fun hn => ?_, fun t ht => ?_,
        fun ht => ?_⟩
      · rfl
      · refine forall_picked hp [8, 9, 15] ?_
        rw [packBlock, hn]
        rfl
      · refine forall_picked hp [8, 9, 15] ?_
        rw [packBlock, hn]
        rfl
      · refine forall_picked (packBlock_telemetry c ht) [5, 6, 10, 11, 12, 13, 14, 16, 17, 18, 19, 20, 22, 23] ?_
        rw [packBlock, ht]
        rfl
      · refine forall_picked (packBlock_no_telemetry c ht) [5, 6, 10, 12, 13, 14, 15, 16, 18, 19] ?_
        rw [packBlock, ht]
        rfl
    · intro r t cond
      refine ⟨fun j x hj hx => ?_, u16At_of_signed rfl rfl, fun b => ?_, thermalRecord_flags d, ?_, fun f => ?_⟩
      · obtain ⟨hv, hc⟩ := thermalRecord_die d hj hx
        refine ⟨hv, hc.trans ?_⟩
        cases hk : x.cond <;> simp [cond, hk, Condition.code]
      · refine (thermalRecord_packs d b).trans ?_
        change _ = match d.tfu.pack.get b with
          | none => 0
          | some x => word (max (-40) (min 150 x))
        cases d.tfu.pack.get b <;> rfl
      · refine (thermalRecord_grace d).trans ?_
        change _ = match d.tfu.graceTimer with
          | none => 65535
          | some x => x.left / 1000 % 65536
        cases d.tfu.graceTimer <;> rfl
      · obtain ⟨hflags, hrest⟩ := thermalRecord_fan d f
        refine ⟨hflags.trans ?_, hrest⟩
        cases d.fanFitted f <;> cases (d.fan f).fault <;> rfl
    · exact keyboardRecord_places d

end Sys2Proof.Machine

namespace Sys2Proof.Machine

/-! ## The restatement: what it reads (R23, R36) -/

theorem plainDown_iff (m : Mse) (p : Nat) : m.plainDown p = true ↔
    ∃ r, m.recs[p]? = some r ∧ r.down = true ∧ r.suspect = false ∧ r.masked = false := by
  unfold Mse.plainDown
  rw [List.getD_eq_getElem?_getD]
  cases m.recs[p]? with
  | none => simp [PosRec.up]
  | some r => simp [and_assoc]

theorem shut_iff (d : Dev) (p : Nat) :
    d.shut p = true ↔ p < 144 ∧ (d.ppu.posture = .closed ∨ d.ppu.posture = .tablet) := by
  rw [Dev.shut, Bool.and_eq_true, isMatrix_iff]
  simp

theorem heldDown_iff (d : Dev) (p : Nat) :
    d.HeldDown p ↔ (d.mse.plainDown p = true ∧ d.shut p = false) := by
  rw [plainDown_iff, ← Bool.not_eq_true, shut_iff]
  exact Iff.rfl

theorem keymapAt_of_getElem? {km : List KeymapEntry} {layer p : Nat} {e : KeymapEntry}
    (h : km[layer * 148 + p]? = some e) : keymapAt km layer p = e := by
  rw [keymapAt, List.getD_eq_getElem?_getD]
  exact congrArg (Option.getD · _) h

theorem getElem?_of_keymapAt {km : List KeymapEntry} {layer p : Nat} (h : (keymapAt km layer p).kind ≠ .noKey) :
    km[layer * 148 + p]? = some (keymapAt km layer p) := by
  rw [keymapAt, List.getD_eq_getElem?_getD] at h ⊢
  change ((km[layer * 148 + p]?).getD _).kind ≠ _ at h
  change km[layer * 148 + p]? = some ((km[layer * 148 + p]?).getD _)
  cases hk : km[layer * 148 + p]? with
  | none => rw [hk] at h; exact absurd rfl h
  | some e => rfl

/-- A lookup uses what is read (R23). -/
theorem lookup_of_reads {d : Dev} {layer p : Nat} {k : KeyKind} (h : d.Reads layer p k) :
    lookup d.tst.keymap layer p = k.used := by
  obtain ⟨e, he, h⟩ := h
  unfold lookup
  dsimp only
  rw [keymapAt_of_getElem? he]
  split at h
  · rename_i hc
    obtain ⟨f, hf, rfl⟩ := h
    rw [if_pos hc, keymapAt_of_getElem? (layer := 0) (e := f) (by simpa using hf)]
  · rename_i hc
    rw [if_neg hc, h]

theorem used_eq_fn {k : KeyKind} : k.used = .fn ↔ k = .fn := by
  cases k <;> simp [KeyKind.used]

/-- FN is looked up exactly where it is read. -/
theorem reads_fn_iff (d : Dev) (layer p : Nat) : d.Reads layer p .fn ↔ lookup d.tst.keymap layer p = .fn := by
  refine ⟨lookup_of_reads, fun h => ?_⟩
  unfold lookup at h
  dsimp only at h
  split at h
  · rename_i hc
    have hk := used_eq_fn.mp h
    refine ⟨_, getElem?_of_keymapAt (by rw [hc.1]; simp), ?_⟩
    rw [if_pos hc]
    exact ⟨_, by simpa using getElem?_of_keymapAt (layer := 0) (by rw [hk]; simp), hk⟩
  · rename_i hc
    have hk := used_eq_fn.mp h
    refine ⟨_, getElem?_of_keymapAt (by rw [hk]; simp), ?_⟩
    rw [if_neg hc]
    exact hk

/-! ## The held-code list and the records behind it (R26, R36) -/

/-- A position is recorded with this code. -/
def CodeAt (recs : List (Option KeyRec)) (c p : Nat) : Prop := recs[p]? = some (some ⟨.code c, false, false⟩)

/-- The held-code list counts the positions below `p` recorded with each of its codes, in the order of their first
positions, and no position is recorded with another code. -/
structure Holders (recs : List (Option KeyRec)) (held : List (Nat × Nat)) (p : Nat) : Prop where
  listed : ∀ c q, CodeAt recs c q → q < p ∧ c ∈ held.map Prod.fst
  holder : ∀ c ∈ held.map Prod.fst, ∃ q, CodeAt recs c q
  order : held.Pairwise fun h l => ∃ q, CodeAt recs h.1 q ∧ ∀ r, CodeAt recs l.1 r → q < r
  count : ∀ h ∈ held, h.2 = recs.count (some ⟨.code h.1, false, false⟩)

section
variable {recs : List (Option KeyRec)} {held : List (Nat × Nat)} {p : Nat}

theorem codeAt_set (hp : recs[p]? = some none) (x : Option KeyRec) (c q : Nat) :
    CodeAt (recs.set p x) c q ↔ if q = p then x = some ⟨.code c, false, false⟩ else CodeAt recs c q := by
  obtain ⟨hlt, -⟩ := List.getElem?_eq_some_iff.mp hp
  unfold CodeAt
  by_cases hq : q = p
  · subst hq; simp [hlt]
  · rw [if_neg hq, List.getElem?_set_ne (Ne.symm hq)]

/-- An empty record written counts for its own code alone. -/
theorem count_set_empty (hp : recs[p]? = some none) (x : Option KeyRec) (k : KeyRec) :
    (recs.set p x).count (some k) = recs.count (some k) + if x = some k then 1 else 0 := by
  obtain ⟨hlt, hget⟩ := List.getElem?_eq_some_iff.mp hp
  rw [List.count_set hlt, hget]
  simp

/-- With no code recorded no code is held. -/
theorem Holders.of_none (h : ∀ c q, ¬ CodeAt recs c q) : Holders recs [] p where
  listed c q hq := absurd hq (h c q)
  holder := by simp
  order := .nil
  count := by simp

theorem Holders.pass (h : Holders recs held p) : Holders recs held (p + 1) :=
  ⟨fun c q hq => ⟨Nat.lt_succ_of_lt (h.listed c q hq).1, (h.listed c q hq).2⟩, h.holder, h.order, h.count⟩

/-- A position below `p`, or at it, that is recorded with no code. -/
theorem Holders.mark (h : Holders recs held p) {q : Nat} (hq : recs[q]? = some none) {x : KeyRec}
    (hx : ∀ c, x ≠ ⟨.code c, false, false⟩) : Holders (recs.set q (some x)) held p := by
  have hat (c r : Nat) : CodeAt (recs.set q (some x)) c r ↔ CodeAt recs c r := by
    rw [codeAt_set hq]
    split
    · rename_i hr
      subst hr
      refine iff_of_false (fun he => hx c (Option.some.inj he)) fun he => ?_
      rw [CodeAt, hq] at he
      simp at he
    · exact Iff.rfl
  refine ⟨fun c r hr => h.listed c r ((hat c r).mp hr), fun c hc => ?_, h.order.imp fun ho => ?_,
    fun l hl => ?_⟩
  · obtain ⟨r, hr⟩ := h.holder c hc
    exact ⟨r, (hat c r).mpr hr⟩
  · obtain ⟨r, hr, hlt⟩ := ho
    exact ⟨r, (hat _ r).mpr hr, fun t ht => hlt t ((hat _ t).mp ht)⟩
  · rw [count_set_empty hq, if_neg fun he => hx _ (Option.some.inj he)]
    exact h.count l hl

/-- A record written at `p` leaves those below it. -/
theorem Holders.kept (h : Holders recs held p) (hp : recs[p]? = some none) (x : Option KeyRec) {c q : Nat}
    (hq : CodeAt recs c q) : CodeAt (recs.set p x) c q := by
  rw [codeAt_set hp, if_neg (by have := (h.listed c q hq).1; omega)]
  exact hq

theorem Holders.order_kept (h : Holders recs held p) (hp : recs[p]? = some none) (x : Option KeyRec) {a b : Nat}
    (ho : ∃ q, CodeAt recs a q ∧ ∀ r, CodeAt recs b r → q < r) :
    ∃ q, CodeAt (recs.set p x) a q ∧ ∀ r, CodeAt (recs.set p x) b r → q < r := by
  obtain ⟨q, hq, hlt⟩ := ho
  refine ⟨q, h.kept hp x hq, fun r hr => ?_⟩
  rw [codeAt_set hp] at hr
  split at hr
  · rename_i he
    exact he ▸ (h.listed _ q hq).1
  · exact hlt r hr

theorem counted_fst (held : List (Nat × Nat)) (c : Nat) :
    (held.map fun h => if h.1 = c then (h.1, h.2 + 1) else h).map Prod.fst = held.map Prod.fst := by
  rw [List.map_map]
  refine List.map_congr_left fun l _ => ?_
  dsimp only [Function.comp]
  split <;> rfl

/-- One more holder of a code in the list. -/
theorem Holders.again (h : Holders recs held p) (hp : recs[p]? = some none) {c : Nat} (hc : c ∈ held.map Prod.fst) :
    Holders (recs.set p (some ⟨.code c, false, false⟩))
      (held.map fun h => if h.1 = c then (h.1, h.2 + 1) else h) (p + 1) := by
  have hfst := counted_fst held c
  refine ⟨fun a q hq => ?_, fun a ha => ?_, ?_, fun l hl => ?_⟩
  · rw [hfst]
    rw [codeAt_set hp] at hq
    split at hq
    · simp only [Option.some.injEq, KeyRec.mk.injEq, Used.code.injEq, and_true] at hq
      exact ⟨by omega, hq ▸ hc⟩
    · exact ⟨Nat.lt_succ_of_lt (h.listed a q hq).1, (h.listed a q hq).2⟩
  · obtain ⟨q, hq⟩ := h.holder a (hfst ▸ ha)
    exact ⟨q, h.kept hp _ hq⟩
  · refine List.pairwise_map.mpr (h.order.imp fun {x y} ho => ?_)
    have hx : (if x.1 = c then (x.1, x.2 + 1) else x).1 = x.1 := by split <;> rfl
    have hy : (if y.1 = c then (y.1, y.2 + 1) else y).1 = y.1 := by split <;> rfl
    rw [hx, hy]
    exact h.order_kept hp _ ho
  · obtain ⟨x, hx, rfl⟩ := List.mem_map.mp hl
    have hcount := h.count x hx
    by_cases hxc : x.1 = c
    · rw [if_pos hxc, count_set_empty hp, if_pos (by rw [hxc]), ← hcount]
    · rw [if_neg hxc, count_set_empty hp, if_neg (by simp [Ne.symm hxc]), ← hcount, Nat.add_zero]

/-- The first holder of a code that comes into the list. -/
theorem Holders.new (h : Holders recs held p) (hp : recs[p]? = some none) {c : Nat} (hc : c ∉ held.map Prod.fst) :
    Holders (recs.set p (some ⟨.code c, false, false⟩)) (held ++ [(c, 1)]) (p + 1) := by
  have hnone (q : Nat) (hq : CodeAt (recs.set p (some ⟨.code c, false, false⟩)) c q) : q = p := by
    rw [codeAt_set hp] at hq
    split at hq
    · assumption
    · exact absurd (h.listed c q hq).2 hc
  refine ⟨fun a q hq => ?_, fun a ha => ?_, ?_, fun l hl => ?_⟩
  · rw [List.map_append, List.mem_append]
    rw [codeAt_set hp] at hq
    split at hq
    · simp only [Option.some.injEq, KeyRec.mk.injEq, Used.code.injEq, and_true] at hq
      exact ⟨by omega, .inr (by simp [hq])⟩
    · exact ⟨Nat.lt_succ_of_lt (h.listed a q hq).1, .inl (h.listed a q hq).2⟩
  · rw [List.map_append, List.mem_append] at ha
    rcases ha with ha | ha
    · obtain ⟨q, hq⟩ := h.holder a ha
      exact ⟨q, h.kept hp _ hq⟩
    · obtain rfl : a = c := by simpa using ha
      exact ⟨p, (codeAt_set hp ..).mpr (by rw [if_pos rfl])⟩
  · refine List.pairwise_append.mpr ⟨h.order.imp (h.order_kept hp _),
      List.pairwise_singleton .., fun x hx y hy => ?_⟩
    obtain rfl := List.mem_singleton.mp hy
    obtain ⟨q, hq⟩ := h.holder x.1 (List.mem_map_of_mem hx)
    exact ⟨q, h.kept hp _ hq, fun r hr => hnone r hr ▸ (h.listed _ q hq).1⟩
  · rcases List.mem_append.mp hl with hl | hl
    · have hlc : l.1 ≠ c := fun he => hc (he ▸ List.mem_map_of_mem hl)
      rw [count_set_empty hp, if_neg (by simp [Ne.symm hlc]), ← h.count l hl, Nat.add_zero]
    · obtain rfl := List.mem_singleton.mp hl
      have hzero : recs.count (some ⟨.code c, false, false⟩) = 0 := by
        refine List.count_eq_zero.mpr fun hm => ?_
        obtain ⟨q, hq⟩ := List.getElem?_of_mem hm
        exact hc (h.listed c q hq).2
      rw [count_set_empty hp, hzero, if_pos rfl]

end
end Sys2Proof.Machine

namespace Sys2Proof.Machine

/-! ## The moves of a restatement (R36) -/

/-! ### What every move keeps -/

/-- Only SYNTHESIZED reports have come behind the queued ones, and the wake key is as it was. -/
structure Ktu.Appends (u v : Ktu) : Prop where
  queue : ∃ more, v.queue = u.queue ++ more ∧ ∀ r ∈ more, r.synthesized = true
  wakeKey : v.wakeKey = u.wakeKey

theorem Ktu.Appends.of_same {u v : Ktu} (hq : v.queue = u.queue) (hw : v.wakeKey = u.wakeKey) : u.Appends v :=
  ⟨⟨[], by simp [hq], by simp⟩, hw⟩

theorem Ktu.Appends.trans {u v w : Ktu} (h : u.Appends v) (k : v.Appends w) : u.Appends w := by
  obtain ⟨⟨m, hm, hs⟩, hw⟩ := h
  obtain ⟨⟨n, hn, ht⟩, hx⟩ := k
  refine ⟨⟨m ++ n, by rw [hn, hm, List.append_assoc], fun r hr => ?_⟩, hx.trans hw⟩
  exact (List.mem_append.mp hr).elim (hs r) (ht r)

theorem report_appends (u : Ktu) (c : Nat) (b : Bool) : u.Appends (u.report c b true) :=
  ⟨⟨_, rfl, by simp⟩, rfl⟩

theorem pressCode_appends (u : Ktu) (p c : Nat) : u.Appends (u.pressCode p c true) := by
  unfold Ktu.pressCode
  split
  · exact .of_same rfl rfl
  · split
    · exact ⟨⟨_, rfl, by simp⟩, rfl⟩
    · exact .of_same rfl rfl

theorem pressUsed_appends (p : Nat) (x : Used) (d : Dev) : d.ktu.Appends (pressUsed p x true d).ktu := by
  cases x
  case code c => exact pressCode_appends ..
  all_goals exact .of_same rfl rfl

theorem visit_appends (p : Nat) (d : Dev) : d.ktu.Appends (visit p d).ktu := by
  have hs (x : Used) (r : Restatement) : d.ktu.Appends (setRestate r (pressUsed p x true d)).ktu :=
    (pressUsed_appends p x d).trans (.of_same rfl rfl)
  unfold visit
  dsimp only
  split
  · split
    · split
      · exact .of_same rfl rfl
      · exact hs ..
    all_goals exact hs ..
  · exact .of_same rfl rfl

theorem foldl_setRec (ps : List Nat) (x : Option KeyRec) (u : Ktu) :
    ps.foldl (fun u p => u.setRec p x) u = { u with recs := ps.foldl (fun rs p => rs.set p x) u.recs } := by
  induction ps generalizing u with
  | nil => rfl
  | cons p ps ih => rw [List.foldl_cons, List.foldl_cons, ih]; rfl

theorem getElem?_foldl_set (ps : List Nat) (x : Option KeyRec) (recs : List (Option KeyRec)) (q : Nat) :
    (ps.foldl (fun rs p => rs.set p x) recs)[q]? = if q ∈ ps ∧ q < recs.length then some x else recs[q]? := by
  induction ps generalizing recs with
  | nil => simp
  | cons p ps ih =>
    rw [List.foldl_cons, ih, List.length_set, List.getElem?_set]
    by_cases hq : q ∈ ps <;> by_cases hp : p = q <;> by_cases hl : q < recs.length <;>
      simp [hq, hp, hl, Ne.symm]

/-- Step 1 done and step 2 (R36): the layer as the records give it, and the FN positions recorded. -/
theorem restateLayer_appends (d : Dev) : d.ktu.Appends (restateLayer d).ktu := by
  unfold restateLayer
  dsimp only
  rw [foldl_setRec]
  exact .of_same rfl rfl

theorem full_iff (u : Ktu) : u.full = true ↔ 32 ≤ u.queue.length := decide_eq_true_iff

/-- The moves of a restatement, each with what it is made from; the flag says whether the restatement goes on. -/
inductive Move (d : Dev) : Dev × Bool → Prop
  | idle : d.ktu.restate = .idle → Move d (d, false)
  | releaseWaits (n : Nat) : d.ktu.restate = .releasing n → n < d.ktu.held.length → 32 ≤ d.ktu.queue.length →
      Move d (d, false)
  | release (n : Nat) (h : Nat × Nat) : d.ktu.restate = .releasing n → d.ktu.held[n]? = some h →
      d.ktu.queue.length < 32 →
      Move d (setRestate (.releasing (n + 1)) (d.setKtu (d.ktu.report h.1 true true)), true)
  | layer (n : Nat) : d.ktu.restate = .releasing n → d.ktu.held.length ≤ n → Move d (restateLayer d, true)
  | visit (p : Nat) : d.ktu.restate = .pressing p → p < 148 → Move d (visit p d, true)
  | done (p : Nat) : d.ktu.restate = .pressing p → 148 ≤ p → Move d (setRestate .idle d, false)
  | pressWaits (p c : Nat) : d.ktu.restate = .pressWaiting p c → 32 ≤ d.ktu.queue.length → Move d (d, false)
  | press (p c : Nat) : d.ktu.restate = .pressWaiting p c → d.ktu.queue.length < 32 →
      Move d (setRestate (.pressing (p + 1)) (d.setKtu (d.ktu.pressCode p c true)), true)

theorem restateMove_move (d : Dev) : Move d (restateMove d) := by
  unfold restateMove
  split
  · rename_i hr
    exact .idle hr
  · rename_i n hr
    split
    · rename_i hh
      exact .layer n hr (List.getElem?_eq_none_iff.mp hh)
    · rename_i h hh
      split
      · rename_i hf
        exact .releaseWaits n hr (List.getElem?_eq_some_iff.mp hh).1 ((full_iff _).mp hf)
      · rename_i hf
        exact .release n h hr hh (Nat.not_le.mp fun hl => hf ((full_iff _).mpr hl))
  · rename_i p hr
    split
    · rename_i hp
      exact .visit p hr hp
    · rename_i hp
      exact .done p hr (Nat.not_lt.mp hp)
  · rename_i p c hr
    split
    · rename_i hf
      exact .pressWaits p c hr ((full_iff _).mp hf)
    · rename_i hf
      exact .press p c hr (Nat.not_le.mp fun hl => hf ((full_iff _).mpr hl))

theorem restateMove_appends (d : Dev) : d.ktu.Appends (restateMove d).1.ktu := by
  have hm := restateMove_move d
  generalize restateMove d = m at hm ⊢
  cases hm with
  | idle | releaseWaits | pressWaits | done => exact .of_same rfl rfl
  | release n h => exact (report_appends d.ktu h.1 true).trans (.of_same rfl rfl)
  | layer => exact restateLayer_appends d
  | visit p => exact visit_appends p d
  | press p c => exact (pressCode_appends d.ktu p c).trans (.of_same rfl rfl)

theorem restateRun_succ (n : Nat) (d : Dev) :
    restateRun (n + 1) d = if (restateMove d).2 then restateRun n (restateMove d).1 else (restateMove d).1 := rfl

theorem restateRun_appends (n : Nat) (d : Dev) : d.ktu.Appends (restateRun n d).ktu := by
  induction n generalizing d with
  | zero => exact .of_same rfl rfl
  | succ n ih =>
    rw [restateRun_succ]
    split
    · exact (restateMove_appends d).trans (ih _)
    · exact restateMove_appends d

/-- A restatement changes the KTU alone. -/
theorem restateRun_ktu (n : Nat) (d : Dev) : restateRun n d = { d with ktu := (restateRun n d).ktu } := by
  obtain ⟨h1, h2, h3, h4, h5, h6, h7, h8, h9, h10, h11, h12, h13⟩ := restateRun_frame n d
  generalize restateRun n d = e at *
  cases e
  simp only at h1 h2 h3 h4 h5 h6 h7 h8 h9 h10 h11 h12 h13
  simp only [h1, h2, h3, h4, h5, h6, h7, h8, h9, h10, h11, h12, h13]

/-! ### The run ends -/

/-- More than the moves that a restatement still makes. -/
def Ktu.movesLeft (u : Ktu) : Nat :=
  match u.restate with
  | .idle => 0
  | .releasing n => 303 + (u.held.length - n)
  | .pressing p => 2 * (149 - p) + 4
  | .pressWaiting p _ => 2 * (148 - p) + 5

/-- A restatement that is done, or waits with a full key report queue for a release or for a press (R36). -/
def Ktu.Paused (u : Ktu) : Prop :=
  u.restate = .idle ∨ (32 ≤ u.queue.length ∧
    ((∃ n, u.restate = .releasing n ∧ n < u.held.length) ∨ ∃ p c, u.restate = .pressWaiting p c))

theorem visit_restate (p : Nat) (d : Dev) :
    (visit p d).ktu.restate = .pressing (p + 1) ∨ ∃ c, (visit p d).ktu.restate = .pressWaiting p c := by
  unfold visit
  dsimp only
  split
  · split
    · split
      · exact .inr ⟨_, rfl⟩
      · exact .inl rfl
    all_goals exact .inl rfl
  · exact .inl rfl

theorem restateLayer_restate (d : Dev) : (restateLayer d).ktu.restate = .pressing 0 := by
  unfold restateLayer
  dsimp only
  rw [foldl_setRec]
  rfl

/-- A move that goes on leaves fewer moves; one that does not has paused the restatement. -/
theorem restateMove_progress (d : Dev) :
    if (restateMove d).2 then (restateMove d).1.ktu.movesLeft < d.ktu.movesLeft
    else (restateMove d).1.ktu.Paused := by
  have hm := restateMove_move d
  generalize restateMove d = m at hm ⊢
  have left {r : Restatement} (hr : d.ktu.restate = r) : d.ktu.movesLeft = { d.ktu with restate := r }.movesLeft := by
    rw [← hr]
  cases hm with
  | idle hr => exact .inl hr
  | releaseWaits n hr hn hf => exact .inr ⟨hf, .inl ⟨n, hr, hn⟩⟩
  | pressWaits p c hr hf => exact .inr ⟨hf, .inr ⟨p, c, hr⟩⟩
  | done => exact .inl rfl
  | release n h hr hh =>
    have hlt := (List.getElem?_eq_some_iff.mp hh).1
    rw [if_pos rfl, left hr]
    change 303 + (d.ktu.held.length - (n + 1)) < 303 + (d.ktu.held.length - n)
    omega
  | layer n hr hn =>
    rw [if_pos rfl, left hr, Ktu.movesLeft, restateLayer_restate]
    change 2 * (149 - 0) + 4 < 303 + (d.ktu.held.length - n)
    omega
  | visit p hr hp =>
    rw [if_pos rfl, left hr]
    rcases visit_restate p d with hv | ⟨c, hv⟩ <;> rw [Ktu.movesLeft, hv]
    · change 2 * (149 - (p + 1)) + 4 < 2 * (149 - p) + 4
      omega
    · change 2 * (148 - p) + 5 < 2 * (149 - p) + 4
      omega
  | press p c hr =>
    rw [if_pos rfl, left hr]
    change 2 * (149 - (p + 1)) + 4 < 2 * (148 - p) + 5
    omega

theorem restateRun_paused {n : Nat} {d : Dev} (h : d.ktu.movesLeft < n) : (restateRun n d).ktu.Paused := by
  induction n generalizing d with
  | zero => exact absurd h (Nat.not_lt_zero _)
  | succ n ih =>
    have hp := restateMove_progress d
    rw [restateRun_succ]
    split at hp <;> rename_i hm
    · rw [if_pos hm]
      exact ih (by omega)
    · rw [if_neg hm]
      exact hp

/-- What every move keeps, the run keeps. -/
theorem restateRun_keeps {P : Dev → Prop} (hstep : ∀ e, P e → P (restateMove e).1) (n : Nat) {d : Dev} (h : P d) :
    P (restateRun n d) := by
  induction n generalizing d with
  | zero => exact h
  | succ n ih =>
    rw [restateRun_succ]
    split
    · exact ih (hstep d h)
    · exact hstep d h

end Sys2Proof.Machine

namespace Sys2Proof.Machine

/-! ## The restatement of a part with no queued report (R36) -/

/-- The layer that fn_lock gives alone (R24). -/
def Dev.baseLayer (d : Dev) : Nat := if d.tst.settings.fnLock then 2 else 0

/-- A position held DOWN that reads FN before any FN is recorded: step 2 records it (R36). -/
def Dev.FnDown (d : Dev) (p : Nat) : Prop := d.HeldDown p ∧ d.Reads d.baseLayer p .fn

/-- The reports queued since, told as codes and directions, the pending ROLLOVER with the first. -/
structure Ktu.Reported (u : Ktu) (pending : Bool) (pairs : List (Nat × Bool)) : Prop where
  pairs : told u.queue = pairs
  flags : ∀ n r, u.queue[n]? = some r → r.rollover = (n == 0 && pending)

/-- The pending ROLLOVER is still the one from before the first report. -/
def Ktu.Pends (u : Ktu) (pending : Bool) : Prop := u.rollover = (u.queue.isEmpty && pending)

theorem Ktu.Reported.length {u : Ktu} {b : Bool} {pairs : List (Nat × Bool)} (h : u.Reported b pairs) :
    u.queue.length = pairs.length := by
  rw [← h.pairs, told, List.length_map]

theorem Ktu.Reported.report {u : Ktu} {b : Bool} {pairs : List (Nat × Bool)} (h : u.Reported b pairs)
    (hp : u.Pends b) (c : Nat) (rel : Bool) :
    (u.report c rel true).Reported b (pairs ++ [(c, rel)]) ∧ (u.report c rel true).Pends b := by
  refine ⟨⟨?_, fun n r hn => ?_⟩, ?_⟩
  · rw [← h.pairs]
    simp [told, Ktu.report]
  · change (u.queue ++ [⟨c, rel, true, u.rollover⟩])[n]? = some r at hn
    rw [List.getElem?_append] at hn
    split at hn
    · exact h.flags n r hn
    · rename_i hl
      obtain ⟨hz, rfl⟩ := List.getElem?_eq_some_iff.mp hn
      simp only [List.length_singleton] at hz
      have hn0 : n = u.queue.length := by omega
      subst hn0
      simp only [List.getElem_singleton]
      rw [hp]
      cases u.queue <;> rfl
  · simp [Ktu.Pends, Ktu.report]

/-- A position that step 3 has translated is recorded as what it was looked up as; a code that did not find room is
rolled (R26, R27, R36). -/
def Ktu.Made (u : Ktu) (p : Nat) (x : Used) : Prop :=
  match x with
  | .code c => (c ∈ u.held.map Prod.fst → CodeAt u.recs c p) ∧
      (c ∉ u.held.map Prod.fst → u.held.length = 16 ∧ u.recs[p]? = some (some (KeyRec.plain .rolled)))
  | x => u.recs[p]? = some (some (KeyRec.plain x))

theorem Ktu.Made.restated {d : Dev} {u : Ktu} {layer p : Nat} (h : u.Made p (lookup d.tst.keymap layer p))
    {k : KeyKind} (hk : d.Reads layer p k) : u.Restated p k := by
  rw [lookup_of_reads hk] at h
  cases k with
  | code c => exact ⟨fun a ha => KeyKind.code.inj ha ▸ h, by simp, by simp, by simp⟩
  | fn => exact ⟨by simp, fun _ => h, by simp, by simp⟩
  | action a => exact ⟨by simp, by simp, fun b hb => KeyKind.action.inj hb ▸ h, by simp⟩
  | noKey => exact ⟨by simp, by simp, by simp, fun _ => h⟩
  | transparent => exact ⟨by simp, by simp, by simp, fun _ => h⟩

/-- A position made stays so as the held-code list grows, which it does not with 16 codes in it. -/
theorem Ktu.Made.grow {u v : Ktu} {p : Nat} {x : Used} (h : u.Made p x) (hr : v.recs[p]? = u.recs[p]?)
    (hg : ∀ c ∈ u.held.map Prod.fst, c ∈ v.held.map Prod.fst)
    (hf : u.held.length = 16 → v.held.map Prod.fst = u.held.map Prod.fst) : v.Made p x := by
  cases x with
  | code c =>
    obtain ⟨hin, hout⟩ := h
    by_cases hc : c ∈ u.held.map Prod.fst
    · exact ⟨fun _ => hr.trans (hin hc), fun hn => absurd (hg c hc) hn⟩
    · obtain ⟨hl, hroll⟩ := hout hc
      have hm := hf hl
      have hlen : v.held.length = u.held.length := by simpa using congrArg List.length hm
      exact ⟨fun hv => absurd (hm ▸ hv) hc, fun _ => ⟨hlen.trans hl, hr.trans hroll⟩⟩
  | _ => exact hr.trans h

/-- Step 3 before position `p`: FN is recorded where it was read, the positions below `p` that are held DOWN are made,
every other one has no record. -/
structure Dev.Restating (d : Dev) (u : Ktu) (p : Nat) : Prop where
  layerFn : (∃ q < 148, d.FnDown q) → u.layer = 1
  layerBase : (∀ q < 148, ¬ d.FnDown q) → u.layer = d.baseLayer
  length : u.recs.length = 148
  fns : ∀ q < 148, d.FnDown q → u.recs[q]? = some (some (KeyRec.plain .fn))
  empty : ∀ q < 148, ¬ d.FnDown q → p ≤ q ∨ ¬ d.HeldDown q → u.recs[q]? = some none
  made : ∀ q < 148, ¬ d.FnDown q → q < p → d.HeldDown q → u.Made q (lookup d.tst.keymap u.layer q)
  holders : Holders u.recs u.held p
  size : u.held.length ≤ 16
  reported : u.Reported d.ktu.rollover
    ((d.ktu.held.map fun h => (h.1, true)) ++ u.held.map fun h => (h.1, false))
  pends : u.held.length < 16 → u.Pends d.ktu.rollover

section
variable {d : Dev} {u : Ktu} {p : Nat}

theorem Dev.Restating.restate (h : d.Restating u p) (r : Restatement) : d.Restating { u with restate := r } p :=
  ⟨h.layerFn, h.layerBase, h.length, h.fns, h.empty, h.made, h.holders, h.size,
    ⟨h.reported.pairs, h.reported.flags⟩, h.pends⟩

/-- A position passed over: it is not held DOWN, or FN is recorded there. -/
theorem Dev.Restating.pass (h : d.Restating u p) (hp : d.HeldDown p → d.FnDown p) : d.Restating u (p + 1) where
  layerFn := h.layerFn
  layerBase := h.layerBase
  length := h.length
  fns := h.fns
  empty q hq hn ho := h.empty q hq hn (ho.imp_left Nat.le_of_succ_le)
  made q hq hn hlt hd := by
    refine h.made q hq hn (Nat.lt_of_le_of_ne (Nat.le_of_lt_succ hlt) ?_) hd
    rintro rfl
    exact hn (hp hd)
  holders := h.holders.pass
  size := h.size
  reported := h.reported
  pends := h.pends

/-- A position translated. -/
theorem Dev.Restating.translate (h : d.Restating u p) (hp : p < 148) (hd : d.HeldDown p) (hn : ¬ d.FnDown p) {v : Ktu}
    {x : KeyRec} (hrecs : v.recs = u.recs.set p (some x)) (hlayer : v.layer = u.layer)
    (hgrow : ∀ c ∈ u.held.map Prod.fst, c ∈ v.held.map Prod.fst)
    (hfull : u.held.length = 16 → v.held.map Prod.fst = u.held.map Prod.fst)
    (hmade : v.Made p (lookup d.tst.keymap u.layer p)) (hholders : Holders v.recs v.held (p + 1))
    (hsize : v.held.length ≤ 16)
    (hreported : v.Reported d.ktu.rollover
      ((d.ktu.held.map fun h => (h.1, true)) ++ v.held.map fun h => (h.1, false)))
    (hpends : v.held.length < 16 → v.Pends d.ktu.rollover) : d.Restating v (p + 1) := by
  have hother {q : Nat} (hq : q ≠ p) : v.recs[q]? = u.recs[q]? := by rw [hrecs, List.getElem?_set_ne hq.symm]
  refine ⟨hlayer ▸ h.layerFn, hlayer ▸ h.layerBase, by rw [hrecs, List.length_set, h.length], fun q hq hf => ?_,
    fun q hq hf ho => ?_, fun q hq hf hlt hdq => ?_, hholders, hsize, hreported, hpends⟩
  · rw [hother (fun he => hn (he ▸ hf))]
    exact h.fns q hq hf
  · have hqp : q ≠ p := by
      rintro rfl
      exact ho.elim (fun hle => absurd hle (by omega)) fun hnd => hnd hd
    rw [hother hqp]
    exact h.empty q hq hf (ho.imp_left Nat.le_of_succ_le)
  · rw [hlayer]
    by_cases hqp : q = p
    · exact hqp ▸ hmade
    · exact (h.made q hq hf (by omega) hdq).grow (hother hqp) hgrow hfull

/-- A position translated as what is no code. -/
theorem Dev.Restating.mark (h : d.Restating u p) (hp : p < 148) (hd : d.HeldDown p) (hn : ¬ d.FnDown p)
    {x : Used} (hx : ∀ c, x ≠ .code c) (hl : lookup d.tst.keymap u.layer p = x) :
    d.Restating (u.setRec p (some (KeyRec.plain x))) (p + 1) := by
  have hempty := h.empty p hp hn (.inl (Nat.le_refl p))
  obtain ⟨hlt, -⟩ := List.getElem?_eq_some_iff.mp hempty
  refine h.translate hp hd hn rfl rfl (fun _ hc => hc) (fun _ => rfl) ?_ ?_ h.size
    ⟨h.reported.pairs, h.reported.flags⟩ h.pends
  · rw [hl]
    cases x
    case code c => exact absurd rfl (hx c)
    all_goals exact List.getElem?_set_self hlt
  · exact (h.holders.mark hempty fun c he => hx c (congrArg KeyRec.used he)).pass

theorem holds_iff (held : List (Nat × Nat)) (c : Nat) : holds held c = true ↔ c ∈ held.map Prod.fst := by
  simp [holds]

/-- A press of a code in the held-code list (R26). -/
theorem pressCode_again {c : Nat} (hc : c ∈ u.held.map Prod.fst) (b : Bool) : u.pressCode p c b =
    { u.setRec p (some ⟨.code c, false, false⟩) with
      held := u.held.map fun h => if h.1 = c then (h.1, h.2 + 1) else h } := by
  unfold Ktu.pressCode
  rw [if_pos ((holds_iff _ _).mpr hc)]
  simp only [beq_iff_eq, KeyRec.plain]

/-- A press of a code that comes into the held-code list (R26). -/
theorem pressCode_new {c : Nat} (hc : c ∉ u.held.map Prod.fst) (hl : u.held.length < 16) (b : Bool) :
    u.pressCode p c b = Ktu.report { u.setRec p (some ⟨.code c, false, false⟩) with held := u.held ++ [(c, 1)] }
      c false b := by
  unfold Ktu.pressCode
  rw [if_neg fun hh => hc ((holds_iff _ _).mp hh), if_pos (by simpa [Config.heldSize] using hl)]
  rfl

/-- A press of a code that finds the held-code list full (R27). -/
theorem pressCode_full {c : Nat} (hc : c ∉ u.held.map Prod.fst) (hl : ¬ u.held.length < 16) (b : Bool) :
    u.pressCode p c b = { u.setRec p (some (KeyRec.plain .rolled)) with rollover := true } := by
  unfold Ktu.pressCode
  rw [if_neg fun hh => hc ((holds_iff _ _).mp hh), if_neg (by simpa [Config.heldSize] using hl)]

theorem Dev.Restating.press_again (h : d.Restating u p) (hp : p < 148) (hd : d.HeldDown p) (hn : ¬ d.FnDown p)
    {c : Nat} (hl : lookup d.tst.keymap u.layer p = .code c) (hc : c ∈ u.held.map Prod.fst) :
    d.Restating (u.pressCode p c true) (p + 1) := by
  have hempty := h.empty p hp hn (.inl (Nat.le_refl p))
  have hfst := counted_fst u.held c
  have hfalse : (u.held.map fun h => if h.1 = c then (h.1, h.2 + 1) else h).map (fun h => (h.1, false)) =
      u.held.map fun h => (h.1, false) := by
    simpa [List.map_map, Function.comp_def] using congrArg (List.map fun c => (c, false)) hfst
  rw [pressCode_again hc]
  refine h.translate hp hd hn rfl rfl (fun a ha => hfst.symm ▸ ha) (fun _ => hfst) ?_ (h.holders.again hempty hc)
    (by rw [List.length_map]; exact h.size) ⟨?_, h.reported.flags⟩ fun hlen => h.pends (by simpa using hlen)
  · rw [hl]
    exact ⟨fun _ => List.getElem?_set_self (List.getElem?_eq_some_iff.mp hempty).1,
      fun hno => absurd (hfst.symm ▸ hc) hno⟩
  · rw [hfalse]
    exact h.reported.pairs

theorem Dev.Restating.press_new (h : d.Restating u p) (hp : p < 148) (hd : d.HeldDown p) (hn : ¬ d.FnDown p)
    {c : Nat} (hl : lookup d.tst.keymap u.layer p = .code c) (hc : c ∉ u.held.map Prod.fst)
    (hroom : u.held.length < 16) : d.Restating (u.pressCode p c true) (p + 1) := by
  have hempty := h.empty p hp hn (.inl (Nat.le_refl p))
  obtain ⟨hrep, hpend⟩ := h.reported.report (h.pends hroom) c false
  rw [pressCode_new hc hroom]
  refine h.translate hp hd hn rfl rfl (fun a ha => ?_) (fun he => absurd he (Nat.ne_of_lt hroom)) ?_
    (h.holders.new hempty hc) ?_ ⟨?_, hrep.flags⟩ fun _ => hpend
  · exact (List.map_append ..).symm ▸ List.mem_append_left _ ha
  · rw [hl]
    exact ⟨fun _ => List.getElem?_set_self (List.getElem?_eq_some_iff.mp hempty).1,
      fun hno => absurd (by simp [Ktu.report]) hno⟩
  · simpa [Ktu.report] using hroom
  · refine hrep.pairs.trans ?_
    simp [Ktu.report]

theorem Dev.Restating.press_full (h : d.Restating u p) (hp : p < 148) (hd : d.HeldDown p) (hn : ¬ d.FnDown p)
    {c : Nat} (hl : lookup d.tst.keymap u.layer p = .code c) (hc : c ∉ u.held.map Prod.fst)
    (hroom : ¬ u.held.length < 16) : d.Restating (u.pressCode p c true) (p + 1) := by
  have hempty := h.empty p hp hn (.inl (Nat.le_refl p))
  have hlen : u.held.length = 16 := Nat.le_antisymm h.size (Nat.not_lt.mp hroom)
  rw [pressCode_full hc hroom]
  refine h.translate hp hd hn rfl rfl (fun _ ha => ha) (fun _ => rfl) ?_ ?_ h.size
    ⟨h.reported.pairs, h.reported.flags⟩ fun hl => absurd hl hroom
  · rw [hl]
    exact ⟨fun hy => absurd hy hc,
      fun _ => ⟨hlen, List.getElem?_set_self (List.getElem?_eq_some_iff.mp hempty).1⟩⟩
  · exact (h.holders.mark hempty (x := KeyRec.plain .rolled) (by simp [KeyRec.plain])).pass

/-- A position translated as a code (R26, R27). -/
theorem Dev.Restating.press (h : d.Restating u p) (hp : p < 148) (hd : d.HeldDown p) (hn : ¬ d.FnDown p) {c : Nat}
    (hl : lookup d.tst.keymap u.layer p = .code c) : d.Restating (u.pressCode p c true) (p + 1) := by
  by_cases hc : c ∈ u.held.map Prod.fst
  · exact h.press_again hp hd hn hl hc
  · by_cases hroom : u.held.length < 16
    · exact h.press_new hp hd hn hl hc hroom
    · exact h.press_full hp hd hn hl hc hroom

end
end Sys2Proof.Machine

namespace Sys2Proof.Machine

/-! ### The visits of step 3 -/

section
variable {d : Dev} {u : Ktu} {p : Nat}

/-- A record that holds layer 1 gives it (R24). -/
theorem layerOf_of_fn {recs : List (Option KeyRec)} {q : Nat} (h : recs[q]? = some (some (KeyRec.plain .fn)))
    (b : Bool) : layerOf recs b = 1 := by
  refine if_pos (List.any_eq_true.mpr ⟨_, List.mem_of_getElem? h, ?_⟩)
  simp [holdsFn, KeyRec.plain]

/-- A position that is looked up as FN in step 3 is so at layer 1. -/
theorem Dev.Restating.layer_of_fn (h : d.Restating u p) (hd : d.HeldDown p) (hn : ¬ d.FnDown p)
    (hl : lookup d.tst.keymap u.layer p = .fn) : u.layer = 1 := by
  refine h.layerFn (by_contra fun hno => hn ⟨hd, ?_⟩)
  rw [h.layerBase fun q hq hf => hno ⟨q, hq, hf⟩] at hl
  exact (reads_fn_iff d _ p).mpr hl

/-- The position's own translation, whatever it is looked up as. -/
theorem Dev.Restating.pressUsed (h : d.Restating u p) (hp : p < 148) (hd : d.HeldDown p) (hn : ¬ d.FnDown p) :
    ∃ v, pressUsed p (lookup d.tst.keymap u.layer p) true (d.setKtu u) = d.setKtu v ∧ d.Restating v (p + 1) := by
  cases hx : lookup d.tst.keymap u.layer p with
  | code c => exact ⟨_, rfl, h.press hp hd hn hx⟩
  | fn =>
    have hm := h.mark hp hd hn (x := .fn) (by simp) hx
    have hlayer : layerOf (u.setRec p (some (KeyRec.plain .fn))).recs d.tst.settings.fnLock = u.layer := by
      rw [h.layer_of_fn hd hn hx]
      exact layerOf_of_fn (q := p) (List.getElem?_set_self (h.length ▸ hp)) _
    refine ⟨u.setRec p (some (KeyRec.plain .fn)), ?_, hm⟩
    change d.setKtu { u.setRec p (some (KeyRec.plain .fn)) with
      layer := layerOf (u.setRec p (some (KeyRec.plain .fn))).recs d.tst.settings.fnLock } = _
    rw [hlayer]
    rfl
  | action a => exact ⟨_, rfl, h.mark hp hd hn (by simp) hx⟩
  | noKey => exact ⟨_, rfl, h.mark hp hd hn (by simp) hx⟩
  | rolled => exact ⟨_, rfl, h.mark hp hd hn (by simp) hx⟩

theorem Dev.Restating.queue_length (h : d.Restating u p) : u.queue.length = d.ktu.held.length + u.held.length := by
  rw [h.reported.length]
  simp

/-- The positions that a visit translates: held DOWN and not recorded as FN in step 2. -/
theorem Dev.Restating.visited_iff (h : d.Restating u p) (hp : p < 148) :
    (d.mse.plainDown p && (u.keyRec p).isNone && !d.shut p) = true ↔ d.HeldDown p ∧ ¬ d.FnDown p := by
  have hrec : ¬ d.FnDown p → u.keyRec p = none := fun hn => by
    rw [Ktu.keyRec, List.getD_eq_getElem?_getD, h.empty p hp hn (.inl (Nat.le_refl p))]
    rfl
  have hfn : d.FnDown p → u.keyRec p = some (KeyRec.plain .fn) := fun hf => by
    rw [Ktu.keyRec, List.getD_eq_getElem?_getD, h.fns p hp hf]
    rfl
  rw [heldDown_iff]
  by_cases hf : d.FnDown p
  · simp [hfn hf, hf]
  · simp [hrec hf, hf]

theorem visit_pass {e : Dev} (h : ¬ (e.mse.plainDown p && (e.ktu.keyRec p).isNone && !e.shut p) = true) :
    visit p e = setRestate (.pressing (p + 1)) e := if_neg h

theorem visit_translates {e : Dev} (h : (e.mse.plainDown p && (e.ktu.keyRec p).isNone && !e.shut p) = true)
    (hroom : ∀ c, ¬ (e.ktu.wouldReport c && e.ktu.full) = true) :
    visit p e = setRestate (.pressing (p + 1)) (pressUsed p (e.lookupActive p) true e) := by
  unfold visit
  rw [if_pos h]
  dsimp only
  cases e.lookupActive p with
  | code c => exact if_neg (hroom c)
  | _ => rfl

/-- With at most 16 releases queued there is room for every press of step 3. -/
theorem Dev.Restating.visit (h : d.Restating u p) (hp : p < 148) (hh : d.ktu.held.length ≤ 16) :
    ∃ v, visit p (d.setKtu u) = d.setKtu { v with restate := .pressing (p + 1) } ∧ d.Restating v (p + 1) := by
  by_cases hv : d.HeldDown p ∧ ¬ d.FnDown p
  · obtain ⟨v, hpress, hnext⟩ := h.pressUsed hp hv.1 hv.2
    refine ⟨v, ?_, hnext⟩
    have hroom (c : Nat) : ¬ (u.wouldReport c && u.full) = true := fun ht => by
      obtain ⟨hw, hfull⟩ := Bool.and_eq_true_iff.mp ht
      have hlt : u.held.length < 16 := of_decide_eq_true (Bool.and_eq_true_iff.mp hw).2
      have := (full_iff u).mp hfull
      have := h.queue_length
      omega
    exact (visit_translates (e := d.setKtu u) ((h.visited_iff hp).mpr hv) hroom).trans
      (congrArg (setRestate (.pressing (p + 1))) hpress)
  · exact ⟨u, visit_pass (e := d.setKtu u) fun ht => hv ((h.visited_iff hp).mp ht),
      h.pass fun hd => by_contra fun hn => hv ⟨hd, hn⟩⟩

end

/-! ### Step 2 -/

theorem layerOf_of_none {recs : List (Option KeyRec)} (h : ∀ r ∈ recs, r = none) (b : Bool) :
    layerOf recs b = if b then 2 else 0 := by
  refine if_neg fun ht => ?_
  obtain ⟨r, hr, hf⟩ := List.any_eq_true.mp ht
  rw [h r hr] at hf
  simp [holdsFn] at hf

/-- The positions that step 2 records as FN. -/
def Dev.fnPositions (d : Dev) : List Nat := allPositions.filter fun p =>
  d.mse.plainDown p && !d.shut p && lookup d.tst.keymap d.baseLayer p == .fn

theorem mem_fnPositions (d : Dev) (p : Nat) : p ∈ d.fnPositions ↔ p < 148 ∧ d.FnDown p := by
  have hpos : p ∈ allPositions ↔ p < 148 := List.mem_range
  rw [Dev.fnPositions, List.mem_filter, hpos, Dev.FnDown, heldDown_iff, reads_fn_iff]
  simp

/-- The records that step 2 leaves, when none was slotted. -/
def Dev.fnRecs (d : Dev) : List (Option KeyRec) :=
  d.fnPositions.foldl (fun rs p => rs.set p (some (KeyRec.plain .fn))) (List.replicate 148 none)

theorem fnRecs_getElem? (d : Dev) {q : Nat} (hq : q < 148) :
    (d.FnDown q → d.fnRecs[q]? = some (some (KeyRec.plain .fn))) ∧ (¬ d.FnDown q → d.fnRecs[q]? = some none) := by
  have h : d.fnRecs[q]? = _ := getElem?_foldl_set ..
  rw [List.length_replicate, List.getElem?_replicate, if_pos hq] at h
  exact ⟨fun hf => h.trans (if_pos ⟨(mem_fnPositions d q).mpr ⟨hq, hf⟩, hq⟩),
    fun hf => h.trans (if_neg fun hc => hf ((mem_fnPositions d q).mp hc.1).2)⟩

theorem length_foldl_set (ps : List Nat) (x : Option KeyRec) (recs : List (Option KeyRec)) :
    (ps.foldl (fun rs p => rs.set p x) recs).length = recs.length := by
  induction ps generalizing recs with
  | nil => rfl
  | cons p ps ih => rw [List.foldl_cons, ih, List.length_set]

theorem fnRecs_length (d : Dev) : d.fnRecs.length = 148 := by
  rw [Dev.fnRecs, length_foldl_set, List.length_replicate]

/-- The layer that the records of step 2 give (R24). -/
theorem fnRecs_layer (d : Dev) : ((∃ q < 148, d.FnDown q) → layerOf d.fnRecs d.tst.settings.fnLock = 1) ∧
    ((∀ q < 148, ¬ d.FnDown q) → layerOf d.fnRecs d.tst.settings.fnLock = d.baseLayer) := by
  refine ⟨fun ⟨q, hq, hf⟩ => layerOf_of_fn ((fnRecs_getElem? d hq).1 hf) _, fun h => layerOf_of_none (fun r hr => ?_) _⟩
  obtain ⟨q, hq⟩ := List.getElem?_of_mem hr
  have hlt : q < 148 := fnRecs_length d ▸ (List.getElem?_eq_some_iff.mp hq).1
  rw [(fnRecs_getElem? d hlt).2 (h q hlt)] at hq
  exact (Option.some.inj hq).symm

theorem restateLayer_eq {d : Dev} {u : Ktu} (hl : u.recs.length = 148) (hs : ∀ k, some k ∈ u.recs → k.slotted = false) :
    restateLayer (d.setKtu u) = d.setKtu { u with
      held := [], recs := d.fnRecs, restate := .pressing 0, layer := layerOf d.fnRecs d.tst.settings.fnLock } := by
  have hnone : (u.recs.map fun r => r.filter fun k => k.slotted) = List.replicate 148 none := by
    refine List.eq_replicate_iff.mpr ⟨by rw [List.length_map, hl], fun r hr => ?_⟩
    obtain ⟨x, hx, rfl⟩ := List.mem_map.mp hr
    cases x with
    | none => rfl
    | some k => simp [hs k hx]
  have hbase : layerOf (List.replicate 148 none) d.tst.settings.fnLock = d.baseLayer :=
    layerOf_of_none (fun r hr => List.eq_of_mem_replicate hr) _
  have hfirst : relayer ((d.setKtu u).setKtu { u with
      held := [], recs := u.recs.map fun r => r.filter fun k => k.slotted, restate := .pressing 0 }) =
      d.setKtu { u with
        held := [], recs := List.replicate 148 none, restate := .pressing 0, layer := d.baseLayer } := by
    rw [hnone, ← hbase]
    rfl
  unfold restateLayer
  rw [setKtu_ktu, hfirst]
  dsimp only
  rw [foldl_setRec]
  rfl

theorem restating_zero {d : Dev} {u : Ktu} (hr : u.Reported d.ktu.rollover (d.ktu.held.map fun h => (h.1, true)))
    (hp : u.Pends d.ktu.rollover) : d.Restating { u with
      held := [], recs := d.fnRecs, restate := .pressing 0, layer := layerOf d.fnRecs d.tst.settings.fnLock } 0 where
  layerFn := (fnRecs_layer d).1
  layerBase := (fnRecs_layer d).2
  length := fnRecs_length d
  fns q hq hf := (fnRecs_getElem? d hq).1 hf
  empty q hq hf _ := (fnRecs_getElem? d hq).2 hf
  made q _ _ hlt := absurd hlt (Nat.not_lt_zero q)
  holders := Holders.of_none fun c q hc => by
    have hlt : q < 148 := fnRecs_length d ▸ (List.getElem?_eq_some_iff.mp hc).1
    by_cases hf : d.FnDown q
    · rw [CodeAt, (fnRecs_getElem? d hlt).1 hf] at hc
      simp [KeyRec.plain] at hc
    · rw [CodeAt, (fnRecs_getElem? d hlt).2 hf] at hc
      simp at hc
  size := Nat.zero_le _
  reported := ⟨by rw [List.map_nil, List.append_nil]; exact hr.pairs, hr.flags⟩
  pends _ := hp

/-! ### The whole run -/

/-- Where a restatement that began with no queued report stands. -/
def Dev.Phase (d : Dev) (u : Ktu) : Prop :=
  match u.restate with
  | .idle => d.Restating u 148
  | .pressWaiting _ _ => False
  | .pressing p => p ≤ 148 ∧ d.Restating u p
  | .releasing n => n ≤ d.ktu.held.length ∧ u.held = d.ktu.held ∧ u.recs = d.ktu.recs ∧
      u.Reported d.ktu.rollover ((d.ktu.held.take n).map fun h => (h.1, true)) ∧ u.Pends d.ktu.rollover

theorem Dev.Phase.move {d : Dev} {u : Ktu} (h : d.Phase u) (hh : d.ktu.held.length ≤ 16)
    (hl : d.ktu.recs.length = 148) (hs : ∀ k, some k ∈ d.ktu.recs → k.slotted = false) :
    ∃ v, (restateMove (d.setKtu u)).1 = d.setKtu v ∧ d.Phase v := by
  have hm := restateMove_move (d.setKtu u)
  generalize restateMove (d.setKtu u) = m at hm ⊢
  have at_ {r : Restatement} (hr : (d.setKtu u).ktu.restate = r) : d.Phase { u with restate := r } := by
    rw [← hr]; exact h
  cases hm with
  | idle => exact ⟨u, rfl, h⟩
  | releaseWaits => exact ⟨u, rfl, h⟩
  | pressWaits => exact ⟨u, rfl, h⟩
  | press p c hr => exact (at_ hr).elim
  | done p hr hp =>
    obtain ⟨hle, hrest⟩ := at_ hr
    obtain rfl : p = 148 := Nat.le_antisymm hle hp
    exact ⟨_, rfl, hrest.restate .idle⟩
  | visit p hr hp =>
    obtain ⟨-, hrest⟩ := at_ hr
    obtain ⟨v, hv, hnext⟩ := (hrest.restate u.restate).visit hp hh
    exact ⟨_, hv, hp, hnext.restate _⟩
  | layer n hr hn =>
    obtain ⟨hle, hheld, hrecs, hrep, hpend⟩ := at_ hr
    have hlen : d.ktu.held.length ≤ n := by rw [← hheld]; exact hn
    rw [List.take_of_length_le hlen] at hrep
    exact ⟨_, restateLayer_eq (hrecs ▸ hl) (hrecs ▸ hs), Nat.zero_le _,
      restating_zero ⟨hrep.pairs, hrep.flags⟩ hpend⟩
  | release n x hr hx hroom =>
    obtain ⟨hle, hheld, hrecs, hrep, hpend⟩ := at_ hr
    obtain ⟨hrep', hpend'⟩ := hrep.report hpend x.1 true
    have hx : d.ktu.held[n]? = some x := by rw [← hheld]; exact hx
    obtain ⟨hlt, hget⟩ := List.getElem?_eq_some_iff.mp hx
    refine ⟨_, rfl, hlt, hheld, hrecs, ⟨?_, hrep'.flags⟩, hpend'⟩
    rw [List.take_succ_eq_append_getElem hlt, List.map_append, hget]
    exact hrep'.pairs

end Sys2Proof.Machine

namespace Sys2Proof.Machine

/-! ## A restatement begun (R35, R36) -/

theorem beginRestatement_appends (d : Dev) : d.ktu.Appends (beginRestatement d).ktu :=
  Ktu.Appends.trans (v := { d.ktu with restate := .releasing 0 }) (.of_same rfl rfl)
    (restateRun_appends 320 (setRestate (.releasing 0) d))

theorem beginRestatement_paused {d : Dev} (hh : d.ktu.held.length ≤ 16) : (beginRestatement d).ktu.Paused := by
  refine restateRun_paused (d := setRestate (.releasing 0) d) ?_
  change 303 + (d.ktu.held.length - 0) < 320
  omega

theorem beginRestatement_ktu (d : Dev) : beginRestatement d = { d with ktu := (beginRestatement d).ktu } :=
  restateRun_ktu 320 (setRestate (.releasing 0) d)

/-- The first move releases the first held code (R36). -/
theorem beginRestatement_first {d : Dev} {h : Nat × Nat} (hh : d.ktu.held.head? = some h)
    (hq : d.ktu.queue.length < 32) : ∃ more, (beginRestatement d).ktu.queue =
      d.ktu.queue ++ ⟨h.1, true, true, d.ktu.rollover⟩ :: more := by
  have hmove : restateMove (setRestate (.releasing 0) d) =
      (setRestate (.releasing 1) ((setRestate (.releasing 0) d).setKtu
        ((setRestate (.releasing 0) d).ktu.report h.1 true true)), true) := by
    have hget : d.ktu.held[0]? = some h := by rw [← List.head?_eq_getElem?]; exact hh
    have hfull : ¬ d.ktu.full = true := fun hf => absurd ((full_iff _).mp hf) (by omega)
    unfold restateMove
    change (match d.ktu.held[0]? with
      | none => (restateLayer (setRestate (.releasing 0) d), true)
      | some h => if d.ktu.full then (setRestate (.releasing 0) d, false) else _) = _
    rw [hget]
    exact if_neg hfull
  have hrun := restateRun_appends 319 (restateMove (setRestate (.releasing 0) d)).1
  have hbegin : beginRestatement d = restateRun 319 (restateMove (setRestate (.releasing 0) d)).1 := by
    unfold beginRestatement
    rw [restateRun_succ, hmove, if_pos rfl]
  rw [hbegin]
  obtain ⟨⟨more, hmore, -⟩, -⟩ := hrun
  refine ⟨more, hmore.trans ?_⟩
  rw [hmove]
  exact List.append_assoc ..

/-- With no queued report and no slotted record a restatement is done at once. -/
theorem beginRestatement_restating {d : Dev} (hh : d.ktu.held.length ≤ 16) (hq : d.ktu.queue = [])
    (hl : d.ktu.recs.length = 148) (hs : ∀ k, some k ∈ d.ktu.recs → k.slotted = false) :
    (beginRestatement d).ktu.restate = .idle ∧ d.Restating (beginRestatement d).ktu 148 := by
  have hstart : d.Phase { d.ktu with restate := .releasing 0 } :=
    ⟨Nat.zero_le _, rfl, rfl, ⟨by simp [told, hq], by simp [hq]⟩, by simp [Ktu.Pends, hq]⟩
  obtain ⟨v, hv, hphase⟩ := restateRun_keeps (P := fun e => ∃ u, e = d.setKtu u ∧ d.Phase u)
    (by rintro e ⟨u, rfl, h⟩; exact h.move hh hl hs) 320 ⟨_, rfl, hstart⟩
  have hpaused := beginRestatement_paused hh
  have hv : (beginRestatement d).ktu = v := congrArg Dev.ktu hv
  rw [hv] at hpaused ⊢
  unfold Dev.Phase at hphase
  rcases hpaused with hr | ⟨hfull, ⟨n, hr, hn⟩ | ⟨p, c, hr⟩⟩ <;> rw [hr] at hphase
  · exact ⟨hr, hphase⟩
  · obtain ⟨-, hheld, -, hrep, -⟩ := hphase
    have := hrep.length
    rw [List.length_map, List.length_take] at this
    rw [hheld] at hn
    omega
  · exact hphase.elim

/-- A restatement that is done has restated (R36). -/
theorem Dev.Restating.done {d : Dev} {u : Ktu} (h : d.Restating u 148) :
    ((∃ p < 148, d.HeldDown p ∧ d.Reads d.baseLayer p .fn) → u.layer = 1) ∧
    ((∀ p < 148, d.HeldDown p → ¬ d.Reads d.baseLayer p .fn) → u.layer = d.baseLayer) ∧
    (∀ p < 148, (¬ d.HeldDown p → u.recs[p]? = some none) ∧
      (d.HeldDown p → d.Reads d.baseLayer p .fn → u.Restated p .fn) ∧
      (d.HeldDown p → ¬ d.Reads d.baseLayer p .fn → ∀ k, d.Reads u.layer p k → u.Restated p k)) := by
  refine ⟨h.layerFn, fun hn => h.layerBase fun q hq hf => hn q hq hf.1 hf.2, fun p hp => ⟨fun hd => ?_, fun hd hr => ?_,
    fun hd hr k hk => ?_⟩⟩
  · exact h.empty p hp (fun hf => hd hf.1) (.inr hd)
  · exact ⟨by simp, fun _ => h.fns p hp ⟨hd, hr⟩, by simp, by simp⟩
  · exact (h.made p hp (fun hf => hr hf.2) hp hd).restated hk

theorem beginRestatement_restates {d : Dev} (hh : d.ktu.held.length ≤ 16) :
    ∃ more, d.Restates (beginRestatement d).ktu more := by
  obtain ⟨⟨more, hmore, hsyn⟩, hkey⟩ := beginRestatement_appends d
  refine ⟨more, ⟨hmore, hsyn⟩, ?_, fun h hf hq => ?_, hkey, fun hq hl hs => ?_⟩
  · exact (beginRestatement_paused hh).imp_right And.left
  · obtain ⟨tail, htail⟩ := beginRestatement_first hf hq
    rw [List.append_cancel_left (hmore.symm.trans htail)]
    rfl
  · obtain ⟨hidle, hdone⟩ := beginRestatement_restating hh hq hl hs
    have hqueue : (beginRestatement d).ktu.queue = more := by rw [hmore, hq, List.nil_append]
    obtain ⟨hfn, hbase, hrecs⟩ := hdone.done
    exact ⟨hidle, hqueue ▸ hdone.reported.pairs, hqueue ▸ hdone.reported.flags, hfn, hbase, hrecs,
      hdone.holders.order, hdone.holders.count⟩

/-! ## The raw event queue settled (R10 to R12, R28, R35, R36, R40) -/

/-- The entry at the head, taken (R10, R12). -/
theorem takeRawEvent_eq {d : Dev} {e : RawEntry} {rest : List RawEntry} (h : d.mse.raw = e :: rest)
    (hf : d.pli.linkUp = false ∨ (d.ktu.restate = .idle ∧ d.ktu.queue.length < 32)) :
    takeRawEvent d = takeEntry e (removeRaw d) := by
  have hmay : d.mayTakeRaw = true := by
    rw [Dev.mayTakeRaw]
    rcases hf with hl | ⟨hi, hq⟩
    · simp [hl]
    · have : d.ktu.full = false := Bool.eq_false_iff.mpr fun hx => absurd ((full_iff _).mp hx) (by omega)
      simp [hi, this]
  unfold takeRawEvent
  rw [h]
  exact if_pos hmay

theorem takeRawEvent_waits {d : Dev} (hl : d.pli.linkUp = true)
    (hw : d.ktu.restate ≠ .idle ∨ 32 ≤ d.ktu.queue.length) : takeRawEvent d = d := by
  have hmay : ¬ d.mayTakeRaw = true := by
    rw [Dev.mayTakeRaw]
    rcases hw with hi | hq
    · simp [hl, hi]
    · simp [hl, (full_iff _).mpr hq]
  unfold takeRawEvent
  split
  · rfl
  · exact if_neg hmay

theorem removeRaw_mse (d : Dev) : (removeRaw d).mse.overrun = false ∧
    (removeRaw d).mse.raw = if d.mse.overrun then d.mse.raw.tail ++ [.resync] else d.mse.raw.tail := by
  unfold removeRaw
  by_cases ho : d.mse.overrun = true
  · rw [if_pos ho, if_pos ho]
    exact ⟨rfl, rfl⟩
  · rw [if_neg ho, if_neg ho]
    exact ⟨Bool.eq_false_iff.mpr ho, rfl⟩

theorem removeRaw_raised {d : Dev} (h : d.mse.overrun = true) : (removeRaw d).Raised 2 := by
  unfold removeRaw
  rw [if_pos h]
  exact raise_raised .keyOverrun _ (by decide)

/-- A press taken with the link DOWN, whatever it wakes, leaves the raw event queue and the mark. -/
theorem pressDown_raw (p : Nat) (d : Dev) :
    (pressDown p d).mse.raw = d.mse.raw ∧ (pressDown p d).mse.overrun = d.mse.overrun := by
  unfold pressDown
  split
  · exact ⟨rfl, rfl⟩
  · split
    · cases d.slotCode p with
      | some c =>
        obtain ⟨-, -, hr, ho, -⟩ := offerWake_keeps (keySource p) (slotPress p c d)
        exact ⟨hr, ho⟩
      | none =>
        obtain ⟨-, -, hr, ho, -⟩ := offerWake_keeps (keySource p) (swallowPress p d)
        exact ⟨hr, ho⟩
    · exact ⟨rfl, rfl⟩

theorem takeEntry_raw (e : RawEntry) (d : Dev) :
    (takeEntry e d).mse.raw = d.mse.raw ∧ (takeEntry e d).mse.overrun = d.mse.overrun := by
  have same {x : Dev} (h : x.mse = d.mse) : x.mse.raw = d.mse.raw ∧ x.mse.overrun = d.mse.overrun := by
    rw [h]; exact ⟨rfl, rfl⟩
  unfold takeEntry
  split
  case h_4 => exact pressDown_raw ..
  all_goals exact same (by simp)

/-- The part with the head of the raw event queue removed, no overrun mark standing. -/
theorem removeRaw_of_mark {d : Dev} (h : d.mse.overrun = false) {e : RawEntry} {rest : List RawEntry}
    (hr : d.mse.raw = e :: rest) : removeRaw d = d.rawTaken rest d.ktu := by
  unfold removeRaw
  rw [if_neg (by rw [h]; simp), hr]
  rfl

theorem resyncRec_eq (m : Mse) (p : Nat) (x : Option KeyRec) : resyncRec m p x =
    (if ∃ k, x = some k ∧ k.slotted = true then x
      else if (m.recs.getD p PosRec.up).down = true ∧ (m.recs.getD p PosRec.up).suspect = false ∧
        (m.recs.getD p PosRec.up).masked = false then some ⟨.noKey, true, false⟩
      else none) := by
  have hp : m.plainDown p = true ↔ (m.recs.getD p PosRec.up).down = true ∧
      (m.recs.getD p PosRec.up).suspect = false ∧ (m.recs.getD p PosRec.up).masked = false := by
    simp [Mse.plainDown, and_assoc]
  simp only [← hp]
  cases x with
  | none => simp [resyncRec, KeyRec.swallowed]
  | some k => simp [resyncRec, KeyRec.swallowed]

/-- The KTU with the records that a RESYNC taken with the link DOWN leaves, and the wake key slot as given (R40). -/
def Ktu.resynced (u : Ktu) (m : Mse) (w : Option WakeKey) : Ktu :=
  { u with recs := u.recs.zipIdx.map fun x => resyncRec m x.2 x.1, wakeKey := w }

/-- The wake key slot after a RESYNC taken with the link DOWN: a key that is UP marks its release as arrived (R40). -/
def WakeKey.resynced (m : Mse) (w : WakeKey) : WakeKey := if downAt m.recs w.pos then w else w.arrive false

theorem resyncDown_eq (d : Dev) :
    resyncDown d = d.setKtu (d.ktu.resynced d.mse (d.ktu.wakeKey.map (WakeKey.resynced d.mse))) := by
  have slot {w : Option WakeKey} (h : w = d.ktu.wakeKey.map (WakeKey.resynced d.mse)) :
      d.setKtu (d.ktu.resynced d.mse w) =
        d.setKtu (d.ktu.resynced d.mse (d.ktu.wakeKey.map (WakeKey.resynced d.mse))) := by rw [h]
  unfold resyncDown
  dsimp only
  split
  · rename_i hw
    have hw : d.ktu.wakeKey = none := hw
    exact slot (w := d.ktu.wakeKey) (by rw [hw]; rfl)
  · rename_i w hw
    have hw : d.ktu.wakeKey = some w := hw
    split
    · rename_i hdown
      exact slot (w := d.ktu.wakeKey) (by rw [hw]; exact congrArg some (if_pos hdown).symm)
    · rename_i hdown
      exact slot (w := d.ktu.wakeKey.map (WakeKey.arrive false))
        (by rw [hw]; exact congrArg some (if_neg hdown).symm)

theorem rawTaken_restates {d : Dev} {rest : List RawEntry} {u : Ktu} {more : List KeyReport}
    (h : (d.rawTaken rest d.ktu).Restates u more) : d.Restates u more :=
  ⟨h.queued, h.waits, h.first, h.wakeKey, h.whole⟩

/-- Settles O10: a scan's changes join the queue; an entry taken leaves it, and a RESYNC restates or swallows. -/
theorem rawEventsQueueAndWait : Obligations.RawEventsQueueAndWait := by
  intro s
  refine ⟨fun raw ht hq => ?_, fun hl hw => ?_, fun e rest hr hf => ?_, fun rest ht hh => ?_, fun rest ht => ?_⟩
  · refine ⟨_, ends_of_run (f := scanEvent raw) rfl (scanEvent_eq raw ht), scan_recs .., ?_⟩
    dsimp only
    rw [scan_eq, pushAll_eq _ _ (by exact hq)]
    exact ⟨rfl, rfl⟩
  · exact ends_of_run (f := takeRawEvent) rfl (takeRawEvent_waits hl hw)
  · obtain ⟨hraw, hover⟩ := takeEntry_raw e (removeRaw s.dev)
    obtain ⟨hclear, htail⟩ := removeRaw_mse s.dev
    refine ⟨_, ends_of_run (f := takeRawEvent) rfl (takeRawEvent_eq hr hf), hover.trans hclear, ?_⟩
    rw [hraw, htail, hr]
    split
    · rename_i ho
      refine ⟨rfl, (takeEntry_orderly e (.refl _) fun hl => ?_).raised 2 (removeRaw_raised ho)⟩
      obtain ⟨-, hlen⟩ := hf.resolve_left (by
        have hp : (removeRaw s.dev).pli = s.dev.pli := by simp
        rw [hp] at hl
        simp [hl])
      simpa using hlen
    · rfl
  · obtain ⟨hi, hlen⟩ := ht.free rfl
    have hev := takeRawEvent_eq ht.head (.inr ⟨hi, hlen⟩)
    rw [removeRaw_of_mark ht.mark ht.head] at hev
    have hentry : takeEntry .resync (s.dev.rawTaken rest s.dev.ktu) =
        beginRestatement (s.dev.rawTaken rest s.dev.ktu) := by
      have hl : (s.dev.rawTaken rest s.dev.ktu).pli.linkUp = true := ht.link
      unfold takeEntry
      rw [hl]
    obtain ⟨more, hmore⟩ := beginRestatement_restates (d := s.dev.rawTaken rest s.dev.ktu) hh
    exact ⟨_, more, ends_of_run (f := takeRawEvent) rfl (hev.trans (hentry.trans (beginRestatement_ktu _))),
      rawTaken_restates hmore⟩
  · have hev := takeRawEvent_eq ht.head (.inl ht.link)
    rw [removeRaw_of_mark ht.mark ht.head] at hev
    have hentry : takeEntry .resync (s.dev.rawTaken rest s.dev.ktu) = s.dev.rawTaken rest
        (s.dev.ktu.resynced s.dev.mse (s.dev.ktu.wakeKey.map (WakeKey.resynced s.dev.mse))) := by
      have hl : (s.dev.rawTaken rest s.dev.ktu).pli.linkUp = false := ht.link
      unfold takeEntry
      rw [hl]
      exact resyncDown_eq _
    refine ⟨_, ends_of_run (f := takeRawEvent) rfl (hev.trans hentry), rfl, ?_, fun p x hx => ?_,
      fun w hw => congrArg (Option.map (WakeKey.resynced s.dev.mse)) hw,
      fun hw => congrArg (Option.map (WakeKey.resynced s.dev.mse)) hw⟩
    · simp [Dev.rawTaken, Ktu.resynced]
    · dsimp only
      rw [← resyncRec_eq]
      simp [Dev.rawTaken, Ktu.resynced, hx]

end Sys2Proof.Machine

namespace Sys2Proof.Machine

/-! ## KEY_RESYNC settled (R35, R36, R195) -/

/-- An answer changes nothing that a restatement is read from. -/
theorem answered_restates {d : Dev} {i channel kind : Nat} {tag : Byte} {r : Response} {u : Ktu}
    {more : List KeyReport} (h : (d.answered i channel kind tag r).Restates u more) : d.Restates u more :=
  ⟨h.queued, h.waits, h.first, h.wakeKey, h.whole⟩

/-- Settles O12: a KEY_RESYNC that is taken is refused, is answered BUSY, or is answered OK and begins a restatement. -/
theorem keyResyncRestates : Obligations.KeyResyncRestates := by
  intro s i tag ht
  have ha (st : Status) : answer i st (s.dev.waiting i 0 15 tag) = s.dev.answered i 0 15 tag st.alone :=
    answerWith_waiting st.alone ht
  refine ⟨fun hr => ?_, fun hr hh => ?_, fun p hp hl => ?_⟩
  · have hev : answerControl 15 [] i (s.dev.waiting i 0 15 tag) = answer i .busy (s.dev.waiting i 0 15 tag) :=
      if_neg hr
    exact control_ends ht (Nat.zero_le _) rfl (hev.trans (ha .busy))
  · have hev : answerControl 15 [] i (s.dev.waiting i 0 15 tag) =
        beginRestatement (answer i .ok (s.dev.waiting i 0 15 tag)) := if_pos hr
    obtain ⟨more, hmore⟩ := beginRestatement_restates (d := s.dev.answered i 0 15 tag Status.ok.alone) hh
    rw [ha .ok, beginRestatement_ktu] at hev
    exact ⟨_, more, control_ends ht (Nat.zero_le _) rfl hev, answered_restates hmore⟩
  · have hev : answerControl 15 p i (s.dev.waiting i 0 15 tag) = answer i .badRequest (s.dev.waiting i 0 15 tag) :=
      if_pos (by simpa using hp)
    exact control_ends ht hl rfl (hev.trans (ha .badRequest))

end Sys2Proof.Machine

namespace Sys2Proof.Machine

/-! ## The release of the platform reset settled (R41, R183, R184, R190) -/

/-- With the link DOWN and the platform reset released the link state follows the power state alone (R183). -/
theorem relink_of_down {d : Dev} (hl : d.pli.linkUp = false) (hr : d.pins.platformReset = false) :
    relink d = if d.ppu.power = .on then linkUp d else d := by
  unfold relink Dev.linkWanted
  by_cases hp : d.ppu.power = .on <;> simp [hp, hl, hr]

/-- The link UP changes the PLI, the NSU and the KTU alone (R184). -/
theorem linkUp_eq (d : Dev) : linkUp d = { d with
    ktu := (linkUp d).ktu, nsu := (nsuLinkUp d).nsu
    pli := { d.pli with linkUp := true, seqKey := 0, seqNotice := 0, seqBattery := 0, seqThermal := 0 } } := by
  unfold linkUp ktuLinkUp
  split <;> rfl

/-- The notices at link UP: LINK_UP, when its class is enabled, stands alone of its class and at the head (R190). -/
theorem nsuLinkUp_queue (d : Dev) : (nsuLinkUp d).nsu.queue =
    (if d.tst.settings.noticeMask.getLsbD 0 then
      [Notice.linkUp d.wku.lastSource d.wku.lastCause d.wku.powerFault] else []) ++
      d.nsu.queue.filter fun n => n.cls != 0 := by
  change (if d.tst.settings.noticeMask.getLsbD 0 then d.wku.summary :: _ else _) = _
  split <;> rfl

/-- Settles O5: with the link DOWN the release is a link UP in ON, and in any other power state the line alone. -/
theorem platformResetReleaseRaisesLink : Obligations.PlatformResetReleaseRaisesLink := by
  intro s hr hl
  have hev : resetReleaseEvent s.dev = if s.dev.ppu.power = .on then
      linkUp (s.dev.setPins { s.dev.pins with platformReset := false })
      else s.dev.setPins { s.dev.pins with platformReset := false } :=
    (if_pos hr).trans (relink_of_down (d := s.dev.setPins { s.dev.pins with platformReset := false }) hl rfl)
  refine ⟨fun hp => ends_of_run (f := resetReleaseEvent) rfl (hev.trans (if_neg hp)), fun hp => ?_⟩
  refine ⟨_, ends_of_run (f := resetReleaseEvent) rfl (hev.trans (if_pos hp)), ?_⟩
  obtain ⟨-, hraised, -, hkeys⟩ := linkUp_rose (d := s.dev.setPins { s.dev.pins with platformReset := false }) rfl rfl
  have heq := linkUp_eq (s.dev.setPins { s.dev.pins with platformReset := false })
  have hnsu := congrArg Dev.nsu heq
  dsimp only at hnsu
  rw [← hnsu] at heq
  refine ⟨heq, ?_, hraised, ?_, hkeys⟩ <;> rw [hnsu]
  · rfl
  · exact nsuLinkUp_queue _

end Sys2Proof.Machine

namespace Sys2Proof.Machine

/-! ## Presses and releases taken (R28 to R31, R39, R40) -/

/-- A raw event taken with no overrun mark: the head leaves the queue and its entry is taken (R10, R28). -/
theorem takeRaw_ends {s : State} {up : Bool} {e : RawEntry} {rest : List RawEntry} (h : s.dev.TakesRaw up e rest)
    {d : Dev} (hd : takeEntry e (s.dev.rawTaken rest s.dev.ktu) = d) : Ends .takeRawEvent s d := by
  have hf : s.dev.pli.linkUp = false ∨ (s.dev.ktu.restate = .idle ∧ s.dev.ktu.queue.length < 32) := by
    cases hu : up
    · exact .inl (h.link.trans hu)
    · exact .inr (h.free hu)
  refine ends_of_run (f := takeRawEvent) rfl ?_
  rw [takeRawEvent_eq h.head hf, removeRaw_of_mark h.mark h.head, hd]

theorem takeEntry_press (p : Nat) (sy : Bool) (d : Dev) :
    takeEntry (.change p true sy) d = if d.pli.linkUp then pressUp p d else pressDown p d := by
  unfold takeEntry
  cases d.pli.linkUp <;> rfl

theorem takeEntry_release (p : Nat) (sy : Bool) (d : Dev) :
    takeEntry (.change p false sy) d = if d.pli.linkUp then releaseUp p sy d else releaseDown p sy d := by
  unfold takeEntry
  cases d.pli.linkUp <;> rfl

theorem keyRec_of_getElem? {u : Ktu} {p : Nat} {x : Option KeyRec} (h : u.recs[p]? = some x) : u.keyRec p = x := by
  rw [Ktu.keyRec, List.getD_eq_getElem?_getD, h]
  rfl

theorem releaseUp_of_none {p : Nat} {d : Dev} (sy : Bool) (h : d.ktu.keyRec p = none) : releaseUp p sy d = d := by
  simp only [releaseUp, h]

theorem releaseDown_of_none {p : Nat} {d : Dev} (sy : Bool) (h : d.ktu.keyRec p = none) : releaseDown p sy d = d := by
  simp only [releaseDown, h]

/-- The release of a code that may be reported (R26, R30). -/
theorem releaseUp_of_code {p c : Nat} {sl : Bool} {d : Dev} (sy : Bool)
    (h : d.ktu.keyRec p = some ⟨.code c, false, sl⟩) :
    releaseUp p sy d = relayer (d.setKtu ((d.ktu.releaseCode c sy).setRec p none)) := by
  simp only [releaseUp, h]

/-- The release of any other record empties it (R30). -/
theorem releaseUp_of_other {p : Nat} {x : KeyRec} {d : Dev} (sy : Bool) (h : d.ktu.keyRec p = some x)
    (hx : x.swallow = true ∨ ∀ c, x.used ≠ .code c) :
    releaseUp p sy d = relayer (d.setKtu (d.ktu.setRec p none)) := by
  obtain ⟨used, swallow, slotted⟩ := x
  simp only [releaseUp, h]
  cases used with
  | code c =>
    obtain rfl : swallow = true := hx.resolve_right fun hn => hn c rfl
    rfl
  | _ => rfl

theorem releaseDown_of_some {p : Nat} {x : KeyRec} {d : Dev} (sy : Bool) (h : d.ktu.keyRec p = some x) :
    releaseDown p sy d = if x.slotted then markReleased sy d else d.setKtu (d.ktu.setRec p none) := by
  simp only [releaseDown, h]

/-- What the release of a code makes of the held-code list and the reports (R26). -/
theorem releaseCode_spec (u : Ktu) (c : Nat) (sy : Bool) :
    (u.releaseCode c sy).recs = u.recs ∧ (u.releaseCode c sy).restate = u.restate ∧
    (u.releaseCode c sy).wakeKey = u.wakeKey ∧
    if (c, 1) ∈ u.held then
      (u.releaseCode c sy).held = u.held.filter (fun h => h.1 ≠ c) ∧
      (u.releaseCode c sy).queue = u.queue ++ [⟨c, true, sy, u.rollover⟩] ∧ (u.releaseCode c sy).rollover = false
    else
      (u.releaseCode c sy).held = (u.held.map fun h => if h.1 = c then (h.1, h.2 - 1) else h) ∧
      (u.releaseCode c sy).queue = u.queue ∧ (u.releaseCode c sy).rollover = u.rollover := by
  have hlast : (u.held.any fun h => h.1 == c && h.2 == 1) = true ↔ (c, 1) ∈ u.held := by
    simp [Prod.exists]
  unfold Ktu.releaseCode
  by_cases hc : (c, 1) ∈ u.held
  · rw [if_pos (hlast.mpr hc), if_pos hc]
    refine ⟨rfl, rfl, rfl, List.filter_congr fun h _ => ?_, rfl, rfl⟩
    by_cases hh : h.1 = c <;> simp [hh]
  · rw [if_neg (mt hlast.mp hc), if_neg hc]
    refine ⟨rfl, rfl, rfl, List.map_congr_left fun h _ => ?_, rfl, rfl⟩
    simp only [beq_iff_eq]

/-- Settles O9: the release acts on the record that its position has, with the link UP and with it DOWN. -/
theorem releaseOfCodeIsReported : Obligations.ReleaseOfCodeIsReported := by
  refine ⟨fun s p sy sl rest c ht hr => ?_, fun s p sy rest x ht hr hx => ?_, fun s p up sy rest ht hr => ?_,
    fun s p sy rest x ht hr => ?_⟩
  · have hev := (takeEntry_release p sy (s.dev.rawTaken rest s.dev.ktu)).trans ((if_pos ht.link).trans
      (releaseUp_of_code sy (keyRec_of_getElem? hr)))
    obtain ⟨hrecs, hrestate, hkey, hheld⟩ := releaseCode_spec s.dev.ktu c sy
    have hset : ((s.dev.ktu.releaseCode c sy).setRec p none).recs = s.dev.ktu.recs.set p none :=
      congrArg (List.set · p none) hrecs
    exact ⟨_, takeRaw_ends ht hev, rfl, hset, rfl, hrestate.trans (ht.free rfl).1, hkey, hheld⟩
  · have hev := (takeEntry_release p sy (s.dev.rawTaken rest s.dev.ktu)).trans ((if_pos ht.link).trans
      (releaseUp_of_other sy (keyRec_of_getElem? hr) hx))
    exact ⟨_, takeRaw_ends ht hev, rfl, rfl⟩
  · refine takeRaw_ends ht ((takeEntry_release p sy _).trans ?_)
    split
    · exact releaseUp_of_none sy (keyRec_of_getElem? hr)
    · exact releaseDown_of_none sy (keyRec_of_getElem? hr)
  · have hev := (takeEntry_release p sy (s.dev.rawTaken rest s.dev.ktu)).trans
      ((if_neg (by simp [Dev.rawTaken, ht.link])).trans (releaseDown_of_some sy (keyRec_of_getElem? hr)))
    exact ⟨fun hs => takeRaw_ends ht (hev.trans (if_pos hs)),
      fun hs _ => takeRaw_ends ht (hev.trans (if_neg (by simp [hs])))⟩

end Sys2Proof.Machine

namespace Sys2Proof.Machine

/-! ## The first record that the arbiter takes (R146, R154) -/

theorem mayTake_iff (q : Sequence) (t : Txn) : mayTake q t = true ↔ q.lets t := by
  cases q <;> simp [mayTake, Sequence.lets]

theorem firstTxn_mem {q : List Txn} {t : Txn} (h : firstTxn q = some t) : t ∈ q := by
  induction q with
  | nil => simp [firstTxn] at h
  | cons x xs ih =>
    simp only [firstTxn] at h
    split at h
    · exact Option.some.inj h ▸ List.mem_cons_self
    · rename_i y hy
      split at h <;> obtain rfl := Option.some.inj h
      · exact List.mem_cons_of_mem x (ih hy)
      · exact List.mem_cons_self

/-- The record that stands before every other one is the first. -/
theorem firstTxn_of_least {q : List Txn} {t : Txn} (ht : t ∈ q)
    (hmin : ∀ u ∈ q, u = t ∨ t.cls < u.cls ∨ (t.cls = u.cls ∧ t.order < u.order)) : firstTxn q = some t := by
  have hnot {u : Txn} (hu : u ∈ q) : u.before t = false := by
    rcases hmin u hu with rfl | hc | ⟨hc, ho⟩ <;> simp [Txn.before] <;> omega
  have hbefore {u : Txn} (hu : u ∈ q) (hne : u ≠ t) : t.before u = true := by
    rcases (hmin u hu).resolve_left hne with hc | ⟨hc, ho⟩ <;> simp [Txn.before] <;> omega
  induction q with
  | nil => simp at ht
  | cons x xs ih =>
    have hrest := fun u hu => hmin u (List.mem_cons_of_mem x hu)
    simp only [firstTxn]
    by_cases hx : x = t
    · subst hx
      cases hy : firstTxn xs with
      | none => rfl
      | some y => simp [hnot (List.mem_cons_of_mem x (firstTxn_mem hy))]
    · have hxs : t ∈ xs := (List.mem_cons.mp ht).resolve_left (Ne.symm hx)
      rw [ih hxs hrest (fun hu => hnot (List.mem_cons_of_mem x hu)) fun hu => hbefore (List.mem_cons_of_mem x hu)]
      exact if_pos (hbefore List.mem_cons_self hx)

/-- Of waiting records with arrival orders of their own, the one that goes in flight is the one in flight. -/
theorem find?_setInFlight {q : List Txn} (hw : Wait q) {t : Txn} (ht : t ∈ q) :
    (setInFlight t.order q).find? (fun u => u.inFlight) = some { t with inFlight := true } := by
  obtain ⟨hfly, hnodup⟩ := hw
  induction q with
  | nil => simp at ht
  | cons x xs ih =>
    rw [List.map_cons, List.nodup_cons] at hnodup
    by_cases hx : x = t
    · subst hx
      simp [setInFlight]
    · have hxs : t ∈ xs := (List.mem_cons.mp ht).resolve_left (Ne.symm hx)
      have hne : x.order ≠ t.order := fun he => hnodup.1 (he ▸ List.mem_map_of_mem hxs)
      have hrest := ih hxs (fun u hu => hfly u (List.mem_cons_of_mem x hu)) hnodup.2
      simpa [setInFlight, hne, hfly x List.mem_cons_self] using hrest

/-- The arbiter of an IDLE segment takes the first of the waiting records that it may take. -/
theorem takeTransaction_tookFirst {g : Seg} {d : Dev} (hi : (d.seg g).state = .idle) (hw : Wait (d.seg g).queue) :
    ((takeTransaction g d).seg g).TookFirst (d.seg g).queue := by
  have hmem (t : Txn) : t ∈ ((d.seg g).queue.filter fun t => mayTake (d.seg g).sequence t && !t.inFlight) ↔
      t ∈ (d.seg g).queue ∧ (d.seg g).sequence.lets t := by
    rw [List.mem_filter, Bool.and_eq_true, mayTake_iff]
    exact ⟨fun ⟨h, hl, _⟩ => ⟨h, hl⟩, fun ⟨h, hl⟩ => ⟨h, hl, by simp [hw.1 t h]⟩⟩
  unfold takeTransaction
  dsimp only
  split
  · rename_i hnone
    refine ⟨fun _ => hi, fun t ht hl hmin => ?_⟩
    rw [firstTxn_of_least ((hmem t).mpr ⟨ht, hl⟩) fun u hu => hmin u ((hmem u).mp hu).1 ((hmem u).mp hu).2] at hnone
    simp at hnone
  · rename_i t hsome
    obtain ⟨ht, hl⟩ := (hmem t).mp (firstTxn_mem hsome)
    rw [seg_setSeg]
    refine ⟨fun hno => absurd hl (hno t ht), fun u hu hlu hmin => ?_⟩
    rw [firstTxn_of_least ((hmem u).mpr ⟨hu, hlu⟩) fun v hv => hmin v ((hmem v).mp hv).1 ((hmem v).mp hv).2] at hsome
    obtain rfl := Option.some.inj hsome
    exact find?_setInFlight hw hu

theorem arbitrate_tookFirst {g : Seg} {d : Dev} (hi : (d.seg g).state = .idle) (hw : Wait (d.seg g).queue) :
    ((arbitrate g d).seg g).TookFirst (d.seg g).queue := by
  obtain ⟨hq, hs, -⟩ := grantSequence_seg g g d
  unfold arbitrate
  rw [if_pos hi, ← hq]
  exact takeTransaction_tookFirst (hs.trans hi) (hq ▸ hw)

/-- The arbiter leaves a segment with no record, and one that is not IDLE, as the grant left it (R146). -/
theorem takeTransaction_of_empty {g : Seg} {d : Dev} (h : (d.seg g).queue = []) : takeTransaction g d = d := by
  simp [takeTransaction, h, firstTxn]

theorem arbitrate_counts (g : Seg) (d : Dev) : ((arbitrate g d).seg g).nextOrder = (d.seg g).nextOrder ∧
    ((arbitrate g d).seg g).fromFault = (d.seg g).fromFault := by
  have hgrant : ((grantSequence g d).seg g).nextOrder = (d.seg g).nextOrder ∧
      ((grantSequence g d).seg g).fromFault = (d.seg g).fromFault := by
    unfold grantSequence
    split
    · split
      · have hseg (i : Nat) (st : Status) (e : Dev) : (answer i st e).seg g = e.seg g := rfl
        simp [hseg]
      · exact ⟨rfl, rfl⟩
    all_goals exact ⟨rfl, rfl⟩
  unfold arbitrate
  split
  · unfold takeTransaction
    dsimp only
    split
    · exact hgrant
    · rw [seg_setSeg]
      exact hgrant
  · exact ⟨rfl, rfl⟩

end Sys2Proof.Machine

namespace Sys2Proof.Machine

/-! ## The platform reset settled (R41, R159, R174, R183, R185) -/

/-- A segment as a link DOWN makes it, before the arbiter acts (R151, R159). -/
def Segment.fallen (x : Segment) : Segment :=
  { x with sequence := .noSeq, drains := [], queue := x.queue.map Txn.released }

theorem segLinkDown_eq (g : Seg) (d : Dev) : segLinkDown g d = arbitrate g (d.setSeg g (d.seg g).fallen) := by
  have hq : (clearMembers (d.seg g).queue).map (fun t => { t with slot := none }) =
      (d.seg g).queue.map Txn.released := List.map_map ..
  unfold segLinkDown Segment.fallen
  rw [hq]

/-- After a link DOWN each segment is what the arbiter makes of it. -/
theorem segsFallen_arbitrated (d : Dev) (g : Seg) :
    ∃ e : Dev, e.seg g = (d.seg g).fallen ∧ (segsFallen d).seg g = (arbitrate g e).seg g := by
  have h0 := segLinkDown_eq .seg0 (linkEmptied d)
  have h1 := segLinkDown_eq .seg1 (segLinkDown .seg0 (linkEmptied d))
  have hother (j : Seg) (x : Dev) (i : Seg) (hi : i ≠ j) : (segLinkDown j x).seg i = x.seg i :=
    (segLinkDown_spec j x).2.1 i hi
  cases g
  · refine ⟨(linkEmptied d).setSeg .seg0 ((linkEmptied d).seg .seg0).fallen, seg_setSeg .., ?_⟩
    rw [← h0]
    exact hother .seg1 _ .seg0 (by simp)
  · refine ⟨(segLinkDown .seg0 (linkEmptied d)).setSeg .seg1 ((segLinkDown .seg0 (linkEmptied d)).seg .seg1).fallen,
      ?_, by rw [← h1]; rfl⟩
    rw [seg_setSeg, hother .seg0 _ .seg1 (by simp)]
    rfl

/-- What a link DOWN makes of a segment (R146, R151, R159). -/
theorem segsFallen_seg_eq (d : Dev) (g : Seg) :
    ((d.seg g).state ≠ .idle ∨ (d.seg g).queue = [] → (segsFallen d).seg g = (d.seg g).fallen) ∧
    ((segsFallen d).seg g).sequence = .noSeq ∧ ((segsFallen d).seg g).drains = [] ∧
    ((segsFallen d).seg g).nextOrder = (d.seg g).nextOrder ∧
    ((segsFallen d).seg g).fromFault = (d.seg g).fromFault ∧
    ((segsFallen d).seg g).queue.map Txn.landed = (d.seg g).fallen.queue.map Txn.landed ∧
    ((d.seg g).state = .idle → Wait (d.seg g).fallen.queue →
      ((segsFallen d).seg g).TookFirst (d.seg g).fallen.queue) := by
  obtain ⟨e, he, hs⟩ := segsFallen_arbitrated d g
  have hseq : (e.seg g).sequence = .noSeq := by rw [he]; rfl
  obtain ⟨-, hsequence, hdrains, hqueue, hrests⟩ := arbitrate_of_noSeq hseq
  obtain ⟨horder, hfault⟩ := arbitrate_counts g e
  rw [hs, ← he]
  refine ⟨fun h => ?_, hsequence, hdrains.trans (by rw [he]; rfl), horder.trans (by rw [he]; rfl),
    hfault.trans (by rw [he]; rfl), hqueue, fun hi hw => arbitrate_tookFirst (by rw [he]; exact hi) hw⟩
  rcases h with hn | hq
  · rw [hrests (by rw [he]; exact hn)]
  · have hempty : (e.seg g).queue = [] := by rw [he, Segment.fallen, hq]; rfl
    unfold arbitrate
    split
    · rw [show grantSequence g e = e by simp [grantSequence, hseq], takeTransaction_of_empty hempty]
    · rfl

/-- Settles O4: the link DOWN, then the notices, the locks and the KTU emptied. -/
theorem platformResetClearsLinkSide : Obligations.PlatformResetClearsLinkSide := by
  intro s hr
  generalize hx : s.dev.setPins { s.dev.pins with platformReset := true } = x
  have hev : resetAssertEvent s.dev = ktuPlatformReset (clearLocks (clearNotices
      ((segsFallen x).setPpu { (segsFallen x).ppu with request := none }))) :=
    (if_neg (by simp [hr])).trans (by rw [hx]; rfl)
  obtain ⟨hprofile, hpins, hmse, hpkm, hchg, htfu, hwku, hppu, htst, hktu, hnsu⟩ :
      (segsFallen x).profile = x.profile ∧ (segsFallen x).pins = x.pins ∧ (segsFallen x).mse = x.mse ∧
      (segsFallen x).pkm = x.pkm ∧ (segsFallen x).chg = x.chg ∧ (segsFallen x).tfu = x.tfu ∧
      (segsFallen x).wku = x.wku ∧ (segsFallen x).ppu = x.ppu ∧ (segsFallen x).tst = x.tst ∧
      (segsFallen x).ktu = x.ktu ∧ (segsFallen x).nsu = (linkEmptied x).nsu := by
    simp [segsFallen, linkEmptied]
  have hpli := segsFallen_pli x
  have hsegs := segsFallen_seg_eq x
  generalize segsFallen x = y at *
  subst hx
  have hlayer : layerOf (y.ktu.recs.map fun _ => none) y.tst.settings.fnLock =
      if s.dev.tst.settings.fnLock then 2 else 0 := by
    rw [layerOf_of_none (by simp), htst]
    rfl
  have hstream (i : StreamId) : y.stream i = (s.dev.stream i).halt := by
    unfold Dev.stream
    rw [hnsu]
    cases i <;> rfl
  refine ⟨_, ends_of_run (f := resetAssertEvent) rfl hev, ?_⟩
  exact ⟨hprofile, hpins, hmse, hpkm, hchg, htfu, hwku, congrArg (fun p : Ppu => { p with request := none }) hppu,
    hpli, rfl, rfl, hstream, congrArg (fun t : Tst => { t with
      reserved := t.reserved.map fun _ => false, locked := t.locked.map fun _ => false }) htst,
    rfl, rfl, rfl, rfl, rfl, congrArg (fun u : Ktu => u.recs.map fun _ => none) hktu, hlayer, hsegs⟩

end Sys2Proof.Machine

namespace Sys2Proof.Machine

/-! ## A step with no command waiting settled (log entry 3) -/

theorem step_of_empty {s : State} (h : s.pending = []) : step s = .next s.idle := by
  unfold step
  rw [h]

/-! ### The expiries that are due -/

/-- A timer that has run out makes its expiry due. -/
theorem mem_dueIf_of_timer {o : Option Timer} {t : Timer} (h : o = some t) (hz : t.left = 0) (c : Instr) :
    c ∈ dueIf (Timer.due o) c := by
  simp [dueIf, Timer.due, h, hz]

theorem due_of_scan {d : Dev} {c : Instr} (h : c ∈ dueIf (Timer.due d.mse.scanTimer) (.scan d.pins.keys)) :
    c ∈ d.due := by
  simp only [Dev.due, List.mem_append, h, true_or]

theorem due_of_pack {d : Dev} {c : Instr} {k : Pack} (h : c ∈ duePack k d) : c ∈ d.due := by
  cases k <;> simp only [Dev.due, List.mem_append, h, true_or, or_true]

theorem due_of_power {d : Dev} {c : Instr} (h : c ∈ duePower d) : c ∈ d.due := by
  simp only [Dev.due, List.mem_append, h, true_or, or_true]

theorem due_of_rest {d : Dev} {c : Instr} (h : c ∈ dueRest d) : c ∈ d.due := by
  simp only [Dev.due, List.mem_append, h, true_or, or_true]

theorem due_of_fan {d : Dev} {c : Instr} {f : Fan} (h : c ∈ dueFan f d) : c ∈ d.due := by
  cases f <;> simp only [Dev.due, List.mem_append, h, true_or, or_true]

/-! ### A tick of each block -/

/-- The fast-charge timer counts in FAST and TOPOFF with a commanded current (R70). -/
theorem ChargePack.tick_eq (c : ChargePack) : c.tick =
    if (c.stage = .fast ∨ c.stage = .topoff) ∧ c.current ≠ 0 then { c with elapsedUs := c.elapsedUs + 500 }
    else c := by
  have hmode : c.timerMode = .running ↔ (c.stage = .fast ∨ c.stage = .topoff) ∧ c.current ≠ 0 := by
    unfold ChargePack.timerMode
    cases c.stage <;> simp [Stage.timed]
  unfold ChargePack.tick
  simp only [hmode]
  rfl

theorem waitsOnLine_iff (d : Dev) (g : Seg) : d.waitsOnLine g = true ↔
    d.pins.clockHigh.get g.ix = false ∨ ((d.seg g).startWait = true ∧ d.pins.dataHigh.get g.ix = false) := by
  unfold Dev.waitsOnLine Dev.lineLow
  cases (d.seg g).startWait <;> simp

/-- The stretch timer runs while the transaction waits on a line, and the wait for the start ends with it (R147). -/
theorem Segment.tick_eq (x : Segment) (waits : Bool) : x.tick waits = { x with
    sequence := match x.sequence with
      | .opened t => .opened t.tick
      | .pending i => .pending i
      | .noSeq => .noSeq
    stretch := if x.state = .busy ∧ waits = true then some (x.stretch.getD (Timer.ofMs 25)).tick else none
    startWait := x.startWait && decide (x.state = .busy ∧ waits = true) } := by
  unfold Segment.tick Segment.stretchTick Segment.idleTick
  by_cases h : x.state = .busy ∧ waits = true
  · simp only [if_pos h, decide_eq_true h, Bool.and_true]
    cases x.sequence <;> rfl
  · simp only [if_neg h, decide_eq_false h, Bool.and_false]
    cases x.sequence <;> rfl

/-- With no step of its own to take and no expiry due the part lets a tick pass (log entry 3). -/
theorem idle_of_rest {s : State} (hown : s.dev.ownStep = none) (hdue : s.dev.due = []) :
    s.idle = { s with dev := s.dev.tick } := by
  have hcmd : s.dev.ownCommand = none := by simp [Dev.ownCommand, hown, hdue]
  unfold State.idle
  rw [hcmd]

theorem idle_of_command {s : State} {c : Instr} (h : s.dev.ownCommand = some c) : s.idle = { s with pending := [c] } := by
  unfold State.idle
  rw [h]

/-- A raw event that may be taken is the first step of the part's own (R28). -/
theorem ownCommand_takesRaw {d : Dev} (hr : d.mse.raw ≠ [])
    (hf : d.pli.linkUp = false ∨ (d.ktu.restate = .idle ∧ d.ktu.queue.length < 32)) :
    d.ownCommand = some .takeRawEvent := by
  have hmay : d.mayTakeRaw = true := by
    rcases hf with hl | ⟨hi, hq⟩
    · simp [Dev.mayTakeRaw, hl]
    · simp [Dev.mayTakeRaw, hi, (Ktu.full_eq_false d.ktu).mpr hq]
  simp [Dev.ownCommand, Dev.ownStep, hmay, hr]

/-- Settles O1: a step runs the front command; an idle part takes a step of its own, the first expiry due, or a tick. -/
theorem stepRunsFrontCommand : Obligations.StepRunsFrontCommand := by
  refine ⟨fun c s => rfl, fun s hs => ⟨fun hr hf => ?_, fun hown => ⟨fun c hc => ?_, fun c t hz hc => ?_, fun hdue => ?_⟩⟩⟩
  · rw [step_of_empty hs, idle_of_command (ownCommand_takesRaw hr hf)]
  · have hcmd : s.dev.ownCommand = some c := by simp only [Dev.ownCommand, hown, hc]
    rw [step_of_empty hs, idle_of_command hcmd]
  · have due {o : Option Timer} (ho : o = some t) : c ∈ dueIf (Timer.due o) c := mem_dueIf_of_timer ho hz c
    rcases hc with ⟨rfl, ht⟩ | ⟨k, ⟨rfl, ht⟩ | ⟨rfl, ht⟩⟩ | ⟨rfl, ht⟩ | ⟨rfl, ht⟩ | ⟨rfl, ht⟩ | ⟨rfl, ht⟩ | ⟨rfl, ht⟩ |
      ⟨rfl, ht⟩ | ⟨rfl, ht⟩ | ⟨f, ⟨rfl, ht⟩ | ⟨rfl, ht⟩⟩ | ⟨x, rfl, ht⟩
    · exact due_of_scan (due ht)
    · exact due_of_pack (k := k) (by simp [duePack, due ht])
    · exact due_of_pack (k := k) (by simp [duePack, due ht])
    · exact due_of_rest (by simp [dueRest, due ht])
    · exact due_of_rest (by simp [dueRest, due ht])
    · exact due_of_rest (by simp [dueRest, due ht])
    · exact due_of_rest (by simp [dueRest, due ht])
    · exact due_of_rest (by simp [dueRest, due ht])
    · exact due_of_power (by simp [duePower, due ht])
    · exact due_of_power (by simp [duePower, due ht])
    · exact due_of_fan (f := f) (by simp [dueFan, due ht])
    · exact due_of_fan (f := f) (by simp [dueFan, due ht])
    · cases x <;> exact due_of_rest (by simp [dueRest, due ht])
  · have hseg (g : Seg) := Segment.tick_eq (s.dev.seg g) (s.dev.waitsOnLine g)
    simp only [waitsOnLine_iff] at hseg
    rw [step_of_empty hs, idle_of_rest hown hdue]
    unfold Dev.tick Chg.tick
    rw [ChargePack.tick_eq, ChargePack.tick_eq, show s.dev.segs.one.tick _ = _ from hseg .seg0,
      show s.dev.segs.two.tick _ = _ from hseg .seg1]
    rfl

end Sys2Proof.Machine

namespace Sys2Proof.Machine

/-! ## Write passes with neither segment in FAULT (R78, R145) -/

/-- The arbiter leaves the state of a segment, or makes it BUSY (R146). -/
theorem arbitrate_state (g j : Seg) (d : Dev) :
    ((arbitrate g d).seg j).state = (d.seg j).state ∨ ((arbitrate g d).seg j).state = .busy := by
  by_cases hj : j = g
  · subst hj
    have hs := (grantSequence_seg j j d).2.1
    unfold arbitrate
    split
    · unfold takeTransaction
      dsimp only
      split
      · exact .inl hs
      · exact .inr (by rw [seg_setSeg])
    · exact .inl rfl
  · exact .inl (by rw [arbitrate_other hj])

theorem arbitrate_noFault {g : Seg} {d : Dev} (h : d.NoFault) : (arbitrate g d).NoFault := by
  intro j hj
  rcases arbitrate_state g j d with hs | hs <;> rw [hs] at hj
  · exact h j hj
  · simp at hj

/-- A transaction handed on with no segment in FAULT does not complete SEG_FAULT (R145). -/
theorem submit_noFault {d : Dev} (h : d.NoFault) (g : Seg) (t : Txn) :
    (submit g t d).1.NoFault ∧ ((submit g t d).2 = none ∨ (submit g t d).2 = some .segReset) := by
  have hset : (d.setSeg g { d.seg g with
      queue := (d.seg g).queue ++ [{ t with order := (d.seg g).nextOrder }]
      nextOrder := (d.seg g).nextOrder + 1 }).NoFault := by
    intro j
    rw [seg_setSeg_if]
    split
    · rename_i hj
      exact hj ▸ h g
    · exact h j
  unfold submit
  dsimp only
  split
  · exact ⟨h, .inr rfl⟩
  · rename_i hf
    exact absurd hf (h g)
  all_goals exact ⟨arbitrate_noFault hset, .inl rfl⟩

theorem startPass_noFault {d : Dev} (h : d.NoFault) (k : Pack) :
    (startPass k d).1.NoFault ∧ (startPass k d).2 = false := by
  obtain ⟨hs, hc⟩ := submit_noFault h (segOf k) (chargerTxn k false d)
  unfold startPass issueWrite
  dsimp only
  split
  · rcases hc with hc | hc <;> rw [hc] <;> exact ⟨hs, rfl⟩
  · exact ⟨h, rfl⟩

/-- With no segment in FAULT the passes started tell no notice: no pack goes to FAULT (R79). -/
theorem startPasses_nsu_of_noFault {d : Dev} (h : d.NoFault) (n : Nat) (ks : List Pack) :
    (startPasses n ks d).nsu = d.nsu := by
  induction n generalizing ks d with
  | zero => cases ks <;> rfl
  | succ n ih =>
    cases ks with
    | nil => rfl
    | cons k ks =>
      obtain ⟨hs, hp⟩ := startPass_noFault h k
      have hn : (startPass k d).1.nsu = d.nsu := by simp
      simp only [startPasses, hp, Bool.false_eq_true, if_false]
      exact (ih hs ks).trans hn

theorem allocateAndWrite_nsu_of_noFault {d : Dev} (h : d.NoFault) : (allocateAndWrite d).nsu = d.nsu :=
  startPasses_nsu_of_noFault (d := allocate d) h _ _

/-- An allocation with its write passes changes the CHG, the segments, the PLI and the NSU at most (R72, R78). -/
theorem allocateAndWrite_eq (d : Dev) : allocateAndWrite d = { d with
    chg := (allocateAndWrite d).chg, segs := (allocateAndWrite d).segs, pli := (allocateAndWrite d).pli
    nsu := (allocateAndWrite d).nsu } := by
  obtain ⟨h1, h2, h3, h4, h5, h6, h7, h8, h9, h10, -⟩ := allocateAndWrite_frame d
  generalize allocateAndWrite d = e at *
  cases e
  simp only at h1 h2 h3 h4 h5 h6 h7 h8 h9 h10
  simp only [h1, h2, h3, h4, h5, h6, h7, h8, h9, h10]

end Sys2Proof.Machine

namespace Sys2Proof.Machine

/-! ## A press taken with the link UP (R23, R26, R27, R29, R31 to R33) -/

theorem pressUp_of_some {p : Nat} {x : KeyRec} {d : Dev} (h : d.ktu.keyRec p = some x) : pressUp p d = d := by
  simp only [pressUp, h]

theorem pressDown_of_some {p : Nat} {x : KeyRec} {d : Dev} (h : d.ktu.keyRec p = some x) : pressDown p d = d := by
  simp only [pressDown, h]

section
variable {p : Nat} {d : Dev}

/-- Under CLOSED or TABLET a matrix position is swallowed (R29). -/
theorem pressUp_of_shut (hk : d.ktu.keyRec p = none) (hs : d.shut p = true) :
    pressUp p d = d.setKtu (d.ktu.noted p (some ⟨.noKey, true, false⟩)) := by
  simp only [pressUp, hk, hs, if_true]
  rfl

/-- A press of what is no action (R29). -/
theorem pressUp_of_used {x : Used} (hk : d.ktu.keyRec p = none) (hs : ¬ d.shut p = true) (hx : d.lookupActive p = x)
    (ha : ∀ a, x ≠ .action a) : pressUp p d = pressUsed p x false d := by
  simp only [pressUp, hk, hx, if_neg hs]
  cases x with
  | action a => exact absurd rfl (ha a)
  | _ => rfl

/-- A press of an action, which is performed once it is recorded (R32). -/
theorem pressUp_of_action {a : Nat} (hk : d.ktu.keyRec p = none) (hs : ¬ d.shut p = true)
    (hx : d.lookupActive p = .action a) :
    pressUp p d = performAction a (d.setKtu (d.ktu.noted p (some ⟨.action a, false, false⟩))) := by
  simp only [pressUp, hk, hx, if_neg hs]
  rfl

end

/-- A press of a code by the state of the held-code list (R26, R27). -/
theorem pressCode_eq (u : Ktu) (p c : Nat) : u.pressCode p c false =
    if c ∈ u.held.map Prod.fst then
      { u.noted p (some ⟨.code c, false, false⟩) with
        held := u.held.map fun h => if h.1 = c then (h.1, h.2 + 1) else h }
    else if u.held.length < 16 then
      { u.noted p (some ⟨.code c, false, false⟩) with
        held := u.held ++ [(c, 1)]
        queue := u.queue ++ [⟨c, false, false, u.rollover⟩]
        rollover := false }
    else { u.noted p (some ⟨.rolled, false, false⟩) with rollover := true } := by
  by_cases hc : c ∈ u.held.map Prod.fst
  · rw [if_pos hc, pressCode_again hc]
    rfl
  · by_cases hl : u.held.length < 16
    · rw [if_neg hc, if_pos hl, pressCode_new hc hl]
      rfl
    · rw [if_neg hc, if_neg hl, pressCode_full hc hl]
      rfl

/-- A press of FN makes the layer 1 (R24). -/
theorem pressUsed_fn {p : Nat} {d : Dev} (hp : p < d.ktu.recs.length) : pressUsed p .fn false d =
    d.setKtu { d.ktu.noted p (some ⟨.fn, false, false⟩) with layer := 1 } := by
  have hl : layerOf (d.ktu.recs.set p (some (KeyRec.plain .fn))) d.tst.settings.fnLock = 1 :=
    layerOf_of_fn (q := p) (List.getElem?_set_self hp) _
  rw [← hl]
  rfl

/-! ### The actions (R32, R33) -/

theorem toggleAction_locked (x : Switch) {d : Dev} (h : d.tst.isLocked .settings = true) :
    toggleAction x d = raise (.actionLocked x.action) d := if_pos h

/-- SETTINGS with a switch inverted and the reservation clear, SETTINGS_CHANGED raised (R32). -/
def Dev.toggled (d : Dev) (x : Switch) : Dev :=
  raise (.settingsChanged x.field ((d.tst.settings.toggle x).switch x))
    (d.setTst ({ d.tst with settings := d.tst.settings.toggle x }.reserve .settings false))

theorem toggleAction_free (x : Switch) {d : Dev} (h : d.tst.isLocked .settings = false) :
    toggleAction x d = switchChanged x (d.toggled x) := if_neg (by simp [h])

/-- The ceiling switched (R32, R172): an allocation runs, and nothing but it and its write passes follows. -/
theorem toggleCeiling_spec {d : Dev} (h : d.tst.isLocked .settings = false) :
    toggleAction .ceiling d = { d.toggled .ceiling with
      chg := (toggleAction .ceiling d).chg, segs := (toggleAction .ceiling d).segs
      pli := (toggleAction .ceiling d).pli, nsu := (toggleAction .ceiling d).nsu } ∧
    (toggleAction .ceiling d).Raised 15 ∧ (toggleAction .ceiling d).chg.headroom = d.headroom ∧
    (d.NoFault → (toggleAction .ceiling d).nsu = (d.toggled .ceiling).nsu) := by
  have he : toggleAction .ceiling d = allocateAndWrite (d.toggled .ceiling) := toggleAction_free .ceiling h
  rw [he]
  exact ⟨allocateAndWrite_eq _, (allocateAndWrite_orderly (.refl _)).raised 15 (raise_raised (.settingsChanged ..) _
    (Notice.cls_lt _)), allocateAndWrite_headroom _, fun hn => allocateAndWrite_nsu_of_noFault hn⟩

end Sys2Proof.Machine

namespace Sys2Proof.Machine

/-! ## A press taken with the link DOWN (R39) -/

section
variable {d : Dev} {p : Nat} {e : KeymapEntry}

/-- A press with the link DOWN is offered as a wake when its entry has the wake mark and its source is enabled (R39). -/
theorem pressEnabled_iff (st : PowerState) (f : WakeEntry) : pressEnabled st f = true ↔
    ((st = .sleepEntry ∨ st = .sleep) ∧ f.inSleep = true) ∨ (st = .off ∧ f.inOff = true) := by
  cases st <;> simp [pressEnabled]

/-- The source of a position. -/
theorem keySource_eq (p : Nat) : keySource p = if p < 144 then .key else .sideButton := by
  unfold keySource
  simp only [isMatrix_iff]

/-- The KTU after a press that is offered as a wake: in the empty wake key slot a CODE whose source delivers, else
swallowed (R39). -/
def Ktu.offered (u : Ktu) (p : Nat) (kind : KeyKind) (deliver : Bool) : Ktu :=
  match kind with
  | .code c =>
    if deliver = true ∧ u.wakeKey = none then
      { u.noted p (some ⟨.code c, false, true⟩) with wakeKey := some ⟨p, c, none⟩ }
    else u.noted p (some ⟨.noKey, true, false⟩)
  | _ => u.noted p (some ⟨.noKey, true, false⟩)

theorem pressDown_of_none (hk : d.ktu.keyRec p = none) (he : d.tst.keymap[p]? = some e) :
    pressDown p d = if e.wakeMark = true ∧ pressEnabled d.ppu.power (d.wakeEntry (keySource p)) = true then
      offerWake (keySource p) (d.setKtu (d.ktu.offered p e.kind (d.wakeEntry (keySource p)).deliver))
    else d.setKtu (d.ktu.noted p (some ⟨.noKey, true, false⟩)) := by
  have hkm : keymapAt d.tst.keymap 0 p = e := keymapAt_of_getElem? (by simpa using he)
  have hl : lookup d.tst.keymap 0 p = e.kind.used := by simp [lookup, hkm]
  simp only [pressDown, hk, hkm, Bool.and_eq_true]
  refine if_congr Iff.rfl (congrArg (offerWake _) ?_) rfl
  unfold Dev.slotCode Ktu.offered
  rw [hl]
  cases e.kind with
  | code c =>
    cases hw : d.ktu.wakeKey <;> cases hd : (d.wakeEntry (keySource p)).deliver <;> simp [KeyKind.used] <;> rfl
  | _ => rfl

end

/-- Settles O8: the press by the record at its position, by the entry read there, and by what it may wake. -/
theorem pressOfCodeIsReported : Obligations.PressOfCodeIsReported := by
  refine ⟨fun s p sy rest ht hr => ?_, fun s p up sy x rest ht hr => ?_, fun s p sy rest e ht hr he => ?_⟩
  · generalize hd : s.dev.rawTaken rest s.dev.ktu = d
    have hkey : d.ktu.keyRec p = none := by rw [← hd]; exact keyRec_of_getElem? hr
    have hlt : p < d.ktu.recs.length := by rw [← hd]; exact (List.getElem?_eq_some_iff.mp hr).1
    have hshut : d.shut p = true ↔ p < 144 ∧ (s.dev.ppu.posture = .closed ∨ s.dev.ppu.posture = .tablet) := by
      rw [shut_iff, ← hd]; rfl
    have hreads {k : KeyKind} (h : s.dev.Reads s.dev.ktu.layer p k) : d.lookupActive p = k.used := by
      rw [← hd]; exact lookup_of_reads (d := s.dev) h
    have hev : takeEntry (.change p true sy) (s.dev.rawTaken rest s.dev.ktu) = pressUp p d := by
      rw [hd, takeEntry_press, if_pos (by rw [← hd]; exact ht.link)]
    have ends {x : Dev} (h : pressUp p d = x) : Ends .takeRawEvent s x := takeRaw_ends ht (hev.trans h)
    refine ⟨fun h => ?_, fun c hn hc => ?_, fun hn hk => ?_, fun hn hf => ?_, fun a hn ha => ?_⟩
    · refine ends ((pressUp_of_shut hkey (hshut.mpr h)).trans ?_)
      rw [← hd]; rfl
    · refine ends ((pressUp_of_used hkey (mt hshut.mp hn) (hreads hc) (by simp [KeyKind.used])).trans ?_)
      rw [← pressCode_eq, ← hd]; rfl
    · have hx : d.lookupActive p = .noKey := hk.elim hreads hreads
      refine ends ((pressUp_of_used hkey (mt hshut.mp hn) hx (by simp)).trans ?_)
      rw [← hd]; rfl
    · refine ends ((pressUp_of_used hkey (mt hshut.mp hn) (hreads hf) (by simp [KeyKind.used])).trans ?_)
      rw [show KeyKind.fn.used = .fn from rfl, pressUsed_fn hlt, ← hd]; rfl
    · have hact := ends (pressUp_of_action hkey (mt hshut.mp hn) (hreads ha))
      generalize hy : d.setKtu (d.ktu.noted p (some ⟨.action a, false, false⟩)) = y at hact
      subst hd
      have hfree (hl : s.dev.tst.isLocked .settings = false) : y.tst.isLocked .settings = false := by
        rw [← hy]; exact hl
      refine ⟨fun h1 h3 hl => ?_, fun h hl => ?_, fun h hl => ?_, fun h hl => ?_, fun h => ?_, fun h => ?_⟩
      · have hl' : y.tst.isLocked .settings = true := by rw [← hy]; exact hl
        have hlocked : performAction a y = raise (.actionLocked a) y := by
          obtain rfl | rfl | rfl : a = 1 ∨ a = 2 ∨ a = 3 := by omega
          · exact toggleAction_locked .ceiling hl'
          · exact toggleAction_locked .boost hl'
          · exact toggleAction_locked .fnLock hl'
        rw [hlocked, ← hy] at hact
        exact hact
      · subst h
        obtain ⟨heq, hraised, hroom, hnsu⟩ := toggleCeiling_spec (hfree hl)
        subst hy
        exact ⟨_, hact, heq, hraised, hroom, fun hf => hnsu hf⟩
      · subst h
        rw [show performAction 2 y = y.toggled .boost from toggleAction_free .boost (hfree hl), ← hy] at hact
        exact hact
      · subst h
        rw [show performAction 3 y = relayer (y.toggled .fnLock) from toggleAction_free .fnLock (hfree hl), ← hy] at hact
        exact ⟨_, hact, rfl, rfl⟩
      · subst h hy
        exact hact
      · subst h hy
        exact hact
  · refine takeRaw_ends ht ((takeEntry_press p sy _).trans ?_)
    split
    · exact pressUp_of_some (keyRec_of_getElem? hr)
    · exact pressDown_of_some (keyRec_of_getElem? hr)
  · intro w f awake swallowed slotted
    have hsource : keySource p = w := keySource_eq p
    have hev := (takeEntry_press p sy (s.dev.rawTaken rest s.dev.ktu)).trans
      ((if_neg (by simp [Dev.rawTaken, ht.link])).trans (pressDown_of_none (keyRec_of_getElem? hr) he))
    have hawake : awake ↔ e.wakeMark = true ∧ pressEnabled s.dev.ppu.power (s.dev.wakeEntry (keySource p)) = true := by
      rw [pressEnabled_iff, hsource]
    have hoff (h : awake) : takeEntry (.change p true sy) (s.dev.rawTaken rest s.dev.ktu) =
        offerWake w (s.dev.rawTaken rest slotted) := by
      have hpos := hev.trans (if_pos (hawake.mp h))
      rw [hsource] at hpos
      exact hpos
    refine ⟨fun h => takeRaw_ends ht (hev.trans (if_neg (mt hawake.mpr h))), fun h hp => ?_, fun h hp => ?_⟩
    · have hin : f.inSleep = true := (h.2.resolve_right fun ho => by simp [hp] at ho).2
      have hseen : BitVec.twoPow 7 w.index = if p < 144 then 4 else 8 := by
        by_cases hm : p < 144 <;> simp only [w, hm, if_true, if_false] <;> rfl
      have hlatch := takeRaw_ends ht ((hoff h).trans (offerWake_of_latch (w := w) hp hin))
      rw [Wku.woken, hseen] at hlatch
      exact hlatch
    · have hwould : s.dev.WouldWake w := by
        obtain ⟨-, ⟨hs, hin⟩ | ho⟩ := h
        · exact .inl ⟨hs.resolve_left hp, hin⟩
        · exact .inr ho
      obtain ⟨hwoken, hrises, -⟩ := offerWake_wakes (d := s.dev.rawTaken rest slotted) hwould
      exact ⟨_, takeRaw_ends ht (hoff h), hwoken.of_same rfl rfl rfl rfl rfl,
        hrises.of_same (.of_eq rfl rfl rfl rfl rfl) rfl rfl rfl⟩

end Sys2Proof.Machine

namespace Sys2Proof.Machine

/-! ## In ON no event that a request's take hands on moves the PPU (R82, R96) -/

/-- In ON the battery watch changes marks and timers alone (R82). -/
theorem batteryWatch_on {d : Dev} (h : d.ppu.power = .on) : (batteryWatch d).ppu = d.ppu := by
  unfold batteryWatch
  simp only [watchCompute_frame, h]
  split
  · simp
  · split <;> simp

/-- In ON the critical watch changes the mark and the grace timer alone (R96, R97). -/
theorem criticalWatch_on {d : Dev} (h : d.ppu.power = .on) : (criticalWatch d).ppu = d.ppu := by
  unfold criticalWatch
  simp only [computeCritical_frame, h]
  split
  · simp
  · split <;> simp

theorem takeTempReport_on (p : List Byte) {d : Dev} (h : d.ppu.power = .on) :
    (takeTempReport p d).ppu = d.ppu := by
  unfold takeTempReport
  split
  · rw [criticalWatch_on] <;> simp [h]
  · rfl

theorem skinFailed_on {d : Dev} (h : d.ppu.power = .on) : (skinFailed d).ppu = d.ppu := by
  unfold skinFailed
  dsimp only
  split
  · rw [criticalWatch_on] <;> simp [h]
  · rfl

theorem skinCompleted_on (c : Completion) {d : Dev} (h : d.ppu.power = .on) :
    (skinCompleted c d).ppu = d.ppu := by
  cases c with
  | ok data => exact (criticalWatch_on (by simp [h])).trans (by simp)
  | addrNack | dataNack | timeout | segReset | segFault => exact skinFailed_on h

theorem enterCommLost_on (k : Pack) {d : Dev} (h : d.ppu.power = .on) :
    (enterCommLost k d).ppu = d.ppu := by
  unfold enterCommLost
  simp only [raise_frame]
  rw [batteryWatch_on] <;> simp [h]

theorem abortCycle_on (k : Pack) {d : Dev} (h : d.ppu.power = .on) : (abortCycle k d).ppu = d.ppu := by
  unfold abortCycle
  dsimp only
  split
  · rw [enterCommLost_on] <;> simp [h]
  · simp

theorem commitSample_on (k : Pack) {d : Dev} (h : d.ppu.power = .on) :
    (commitSample k d).ppu = d.ppu := by
  unfold commitSample
  dsimp only
  split
  · simp only [raise_frame]
    rw [batteryWatch_on] <;> simp [h, setPackSource]
  · rw [batteryWatch_on] <;> simp [h, setPackSource]

theorem issueItem_on (k : Pack) (c : Cycle) {d : Dev} (h : d.ppu.power = .on) :
    (issueItem k c d).ppu = d.ppu := by
  unfold issueItem
  dsimp only
  split
  · simp
  · simp
  · rw [abortCycle_on] <;> simp [h]

theorem beginCycle_on (k : Pack) (x : CycleKind) {d : Dev} (h : d.ppu.power = .on) :
    (beginCycle k x d).ppu = d.ppu :=
  issueItem_on k _ (by simpa using h)

theorem judgeIdentity_on (k : Pack) {d : Dev} (h : d.ppu.power = .on) :
    (judgeIdentity k d).ppu = d.ppu := by
  unfold judgeIdentity
  dsimp only
  split
  · rw [beginCycle_on] <;> simp [h]
  · simp

theorem finishCycle_on (k : Pack) (x : CycleKind) {d : Dev} (h : d.ppu.power = .on) :
    (finishCycle k x d).ppu = d.ppu := by
  cases x with
  | identify => exact judgeIdentity_on k h
  | poll => exact commitSample_on k h

theorem itemRead_on (k : Pack) (c : Cycle) (data : List Byte) {d : Dev} (h : d.ppu.power = .on) :
    (itemRead k c data d).ppu = d.ppu := by
  unfold itemRead
  dsimp only
  split
  · rw [issueItem_on] <;> simp [h]
  · rw [finishCycle_on] <;> simp [h]

theorem packCompleted_on (k : Pack) (c : Completion) {d : Dev} (h : d.ppu.power = .on) :
    (packCompleted k c d).ppu = d.ppu := by
  unfold packCompleted orphanCompleted
  dsimp only
  repeat' split
  all_goals simp [beginCycle_on, itemRead_on, abortCycle_on, issueItem_on, h]

/-- A completion handed on in ON leaves the PPU (R146). -/
theorem deliver_on (g : Seg) (t : Txn) (c : Completion) {d : Dev} (h : d.ppu.power = .on) :
    (deliver g t c d).ppu = d.ppu := by
  unfold deliver
  split
  · simp
  · exact packCompleted_on _ c h
  · simp
  · exact skinCompleted_on c h
  · simp

theorem deliverAll_on (g : Seg) (c : Completion) (q : List Txn) {d : Dev} (h : d.ppu.power = .on) :
    (deliverAll g c q d).ppu = d.ppu := by
  unfold deliverAll
  induction q generalizing d with
  | nil => rfl
  | cons t q ih =>
    have ht : (deliver g t c d).ppu = d.ppu := deliver_on g t c h
    exact (ih (by rw [ht, h])).trans ht

theorem reqSegmentReset_on (p : List Byte) (i : Nat) {d : Dev} (h : d.ppu.power = .on) :
    (reqSegmentReset p i d).ppu = d.ppu := by
  unfold reqSegmentReset holdSegment enterHeld
  dsimp only
  repeat' split
  all_goals simp [deliverAll_on, h]

theorem handOn_on (t : TableId) (first count : Nat) (old : SettingsTab) {d : Dev}
    (h : d.ppu.power = .on) : (handOn t first count old d).ppu = d.ppu := by
  cases t
  case thermal => exact (criticalWatch_on (by simp [h])).trans (by simp)
  all_goals
    simp only [handOn]
    repeat' split
    all_goals simp

theorem applyWrite_on (t : TableId) (p : List Byte) (i : Nat) {d : Dev} (h : d.ppu.power = .on) :
    (applyWrite t p i d).ppu = d.ppu := by
  unfold applyWrite
  simp [handOn_on, h]

theorem reqTableWrite_on (p : List Byte) (i : Nat) {d : Dev} (h : d.ppu.power = .on) :
    (reqTableWrite p i d).ppu = d.ppu := by
  unfold reqTableWrite
  repeat' split
  all_goals simp [applyWrite_on, h]

theorem reqTableWriteCond_on (p : List Byte) (i : Nat) {d : Dev} (h : d.ppu.power = .on) :
    (reqTableWriteCond p i d).ppu = d.ppu := by
  unfold reqTableWriteCond
  dsimp only
  repeat' split
  all_goals simp [applyWrite_on, h]

/-- A POWER_REQUEST is BUSY while another is pending (R120). -/
theorem reqPowerRequest_pending (p : List Byte) (i : Nat) {d : Dev} (h : d.ppu.request ≠ none) :
    (reqPowerRequest p i d).ppu = d.ppu := by
  unfold reqPowerRequest takePowerRequest
  repeat' split
  all_goals simp_all

/-- In ON with a POWER_REQUEST pending a request that is taken leaves the PPU. -/
theorem answerControl_on (kind : Nat) (p : List Byte) (i : Nat) {d : Dev} (h : d.ppu.power = .on)
    (hr : d.ppu.request ≠ none) : (answerControl kind p i d).ppu = d.ppu := by
  unfold answerControl
  split
  all_goals simp [reqTableWrite_on, reqTableWriteCond_on, reqPowerRequest_pending,
    reqSegmentReset_on, h, hr]

theorem answerFrame_on (f : Frame) (i : Nat) {d : Dev} (h : d.ppu.power = .on)
    (hr : d.ppu.request ≠ none) : (answerFrame f i d).ppu = d.ppu := by
  unfold answerFrame
  split
  · exact answerControl_on f.kind f.payload i h hr
  all_goals simp

theorem takeHead_on {d : Dev} (h : d.ppu.power = .on) (hr : d.ppu.request ≠ none) :
    (takeHead d).ppu = d.ppu := by
  unfold takeHead
  split
  · split
    · simp [takeTempReport_on, h]
    · split
      · rfl
      · rw [(waitBehind_frame _ _).2.2.2.2.2.2.2.2.1]
        exact answerFrame_on _ _ h hr
  · rfl

theorem takeBefore_on (n : Nat) {d : Dev} (h : d.ppu.power = .on) (hr : d.ppu.request ≠ none) :
    (takeBefore n d).ppu = d.ppu := by
  induction n generalizing d with
  | zero => rfl
  | succ n ih =>
    have hd : (takeHead { d with draws := d.draws + 1 }).ppu = d.ppu := takeHead_on h hr
    obtain e | ⟨-, e | e⟩ := takeBefore_cases n d
    · rw [e]
    · rw [e]
    · rw [e, ih (by rw [hd, h]) (by rw [hd]; exact hr), hd]

end Sys2Proof.Machine

namespace Sys2Proof.Machine

/-! ## The end of a sent frame settled (R121 to R123, R177, R180, R182) -/

theorem freeSlot_isSome_iff (slots : List Slot) :
    (freeSlot slots).isSome = true ↔ ∃ x ∈ slots, x.state = .free := by
  constructor
  · intro h
    obtain ⟨i, hi⟩ := Option.isSome_iff_exists.1 h
    obtain ⟨x, hx, hf⟩ := freeSlot_spec hi
    exact ⟨x, List.mem_of_getElem? hx, hf⟩
  · rintro ⟨x, hx, hf⟩
    obtain ⟨i, hi⟩ := List.mem_iff_getElem?.1 hx
    simp only [freeSlot, Option.isSome_map, List.find?_isSome]
    exact ⟨(x, i), List.mem_zipIdx_iff_getElem?.2 hi, by simp [hf]⟩

/-- The head may be taken: the model's test agrees with R177. -/
theorem headTakable_iff (d : Dev) : d.HeadTakable ↔ d.mayTake = true := by
  unfold Dev.HeadTakable Dev.mayTake
  cases d.pli.rx with
  | nil => simp
  | cons f rest => simp [Frame.isTempReport, freeSlot_isSome_iff]

/-- The takes before a link DOWN end in one of the states that the free values allow (log entry 37). -/
theorem takeBefore_takesTo (n : Nat) (d : Dev) : Dev.TakesTo n d (takeBefore n d) := by
  induction n generalizing d with
  | zero => rfl
  | succ n ih =>
    by_cases hm : d.mayTake = true
    · refine .inr ⟨(headTakable_iff d).2 hm, ?_⟩
      by_cases ht : Config.takeFirst d.draws = true
      · exact .inr ⟨takeHead { d with draws := d.draws + 1 }, ends_of_run (f := takeHead) rfl rfl,
          by simpa [takeBefore, hm, ht] using ih _⟩
      · exact .inl (by simp [takeBefore, hm, ht])
    · exact .inl ⟨fun h => hm ((headTakable_iff d).1 h), takeBefore_of_not_mayTake _ _ (by simpa using hm)⟩

/-! ### A POWER_REQUEST carried out -/

/-- The state that a POWER_REQUEST enters (R121, R122). -/
def PowerReq.entered (v : PowerReq) : PowerState := if v = .sleep then .sleepEntry else .poweringDown

/-- The part as the change of power state finds it: no request pending, and the cause of a power-down recorded and
handed on (R122, R123, R125). -/
def PowerReq.ready (v : PowerReq) (d : Dev) : Dev :=
  let x := { d.ppu with request := none, restartPending := v == .restart || d.ppu.restartPending }
  match v with
  | .sleep => d.setPpu x
  | .off | .restart => handCause .hostRequest (d.setPpu { x with cause := .hostRequest, wakeLatch := false })

/-- With power-good a POWER_REQUEST is one change of power state. -/
theorem carryOut_eq (v : PowerReq) {d : Dev} (hg : d.pins.powerGood = true) :
    carryOut v d = powerTo v.entered (v.ready d) := by
  cases v with
  | sleep =>
    have hp : (powerTo .sleepEntry (PowerReq.sleep.ready d)).pins.powerGood = true := by
      simp [PowerReq.ready, hg]
    exact if_pos hp
  | off => exact (powerDown_eq .hostRequest _).trans (if_pos hg)
  | restart => exact (powerDown_eq .hostRequest _).trans (if_pos hg)

namespace PowerReq

variable (v : PowerReq) (d : Dev)

/-- Before the change of power state a POWER_REQUEST reaches the PPU and the WKU alone. -/
@[simp] theorem ready_frame : (v.ready d).tst = d.tst ∧ (v.ready d).pins = d.pins ∧ (v.ready d).mse = d.mse := by
  cases v <;> exact ⟨rfl, rfl, rfl⟩

theorem ready_alike (p : PowerState) : Dev.AlikeTo p d (v.ready d) := by
  cases v <;> exact .of_eq rfl rfl rfl rfl rfl

theorem ready_sameLink : Dev.SameLink d (v.ready d) := by cases v <;> exact ⟨rfl, rfl, rfl, rfl, rfl⟩

theorem ready_ppu : (v.ready d).ppu.request = none ∧
    (v.ready d).ppu.restartPending = (v == .restart || d.ppu.restartPending) ∧
    (v ≠ .sleep → (v.ready d).ppu.cause = .hostRequest) := by
  cases v <;> exact ⟨rfl, rfl, by simp [ready, handCause]⟩

theorem ready_wku : (v = .sleep → (v.ready d).wku = d.wku) ∧
    (v ≠ .sleep → (v.ready d).wku = { d.wku with lastCause := .hostRequest }) := by
  cases v <;> simp [ready, handCause]

theorem entered_ne : v.entered ≠ .on ∧ v.entered ≠ .off := by cases v <;> simp [entered]

end PowerReq

/-- What a POWER_REQUEST carried out with power-good does (R121 to R123, R183). -/
theorem carryOut_carries (v : PowerReq) {m : Dev} (hg : m.pins.powerGood = true) :
    let d := carryOut v m
    d.ppu.request = none ∧ d.pli.linkUp = false ∧
      d.mainRail = false ∧ d.tst = m.tst ∧ d.pins = m.pins ∧ d.ppu.power = v.entered ∧
      d.ppu.transition = some (Timer.ofMs m.tst.power.powerDownTimeout) ∧
      (v = .sleep → d.sleepRail = true ∧ d.wku = m.wku) ∧
      (v ≠ .sleep → d.sleepRail = false ∧
        d.ppu.cause = .hostRequest ∧ d.wku = { m.wku with lastCause := .hostRequest }) ∧
      d.ppu.restartPending = (v == .restart || m.ppu.restartPending) ∧
      m.Entered d v.entered ∧ m.mse.Retimed d.mse (m.scanCalled v.entered) ∧
      (m.pli.linkUp = true → m.LinkFell d) := by
  dsimp only
  rw [carryOut_eq v hg]
  obtain ⟨hreq, hpend, hcause⟩ := v.ready_ppu m
  obtain ⟨hsleep, hoff⟩ := v.ready_wku m
  obtain ⟨hon, hno⟩ := v.entered_ne
  obtain ⟨r, hr, hp⟩ := powerTo_ppu_eq v.entered (v.ready m)
  have hrails : (powerTo v.entered (v.ready m)).mainRail = false ∧
      (powerTo v.entered (v.ready m)).sleepRail = decide (v = .sleep) := by
    unfold Dev.mainRail Dev.sleepRail
    cases v <;> simp [PowerReq.entered]
  refine ⟨by rw [hp]; simpa [hreq] using hr, by simp [hon], hrails.1, by simp, by simp, by simp, ?_,
    fun hv => ⟨hrails.2.trans (by simp [hv]), by simp [hsleep hv]⟩,
    fun hv => ⟨by simp [hrails, hv], by rw [hp]; exact hcause hv, by simp [hoff hv]⟩, by rw [hp]; exact hpend,
    (powerTo_entered _ _).of_alike (v.ready_alike m _), ?_, fun hl => ?_⟩
  · cases v <;> simp [PowerReq.entered, Dev.transitionFor]
  · rw [← scanCalled_congr (v.ready_frame m).1, ← (v.ready_frame m).2.2]
    exact powerTo_retimed _ _
  · exact (powerTo_fell (by rw [(v.ready_sameLink m).pli, hl]) hon hno).of_same (v.ready_sameLink m)

/-! ### The settling -/

/-- The part after the end of a sent response, before its send is handed on: the transmitter IDLE, the slot FREE. -/
def Dev.freed (d : Dev) (j : Nat) : Dev :=
  { d with pli := { d.pli with tx := none, slots := d.pli.slots.set j Slot.empty } }

/-- The end of a sent response (R180). -/
theorem frameSentEvent_response {d : Dev} {j : Nat} {bytes : List Byte} {sl : Slot}
    (h : d.pli.tx = some ⟨.response j, bytes⟩) (hs : d.pli.slots[j]? = some sl) :
    frameSentEvent d = responseSent sl
      (if (d.freed j).carriesOut sl then takeBefore 6 (d.freed j) else d.freed j) := by
  have hj : d.pli.slots.getD j Slot.empty = sl := by simp [List.getD_eq_getElem?_getD, hs]
  unfold frameSentEvent
  rw [h]
  dsimp only
  rw [setPli_pli, hj]
  rfl

theorem okTo_iff {sl : Slot} {r : Response} (h : sl.response = some r) (k : Nat) :
    sl.okTo k = true ↔ sl.channel = 0 ∧ sl.kind = k ∧ r.status = .ok := by
  simp [Slot.okTo, h, and_assoc]

/-- The send of an OK to an IDENTIFY is handed to the power-on flag (R182). -/
theorem responseSent_identify {sl : Slot} (h0 : sl.okTo 0 = true) (h8 : sl.okTo 8 = false) (d : Dev) :
    responseSent sl d = if sl.carriedFlag then d.setPli { d.pli with powerOn := false } else d := by
  unfold responseSent
  simp only [h0, h8, Bool.true_and, Bool.false_eq_true, if_false]
  split <;> rfl

/-- The send of an OK to a POWER_REQUEST is handed to the PPU (R180). -/
theorem responseSent_power {sl : Slot} (h0 : sl.okTo 0 = false) (h8 : sl.okTo 8 = true) (d : Dev) :
    responseSent sl d = d.ppu.request.elim d fun r => carryOut r.1 d := by
  unfold responseSent
  simp only [h0, h8, Bool.false_and]
  cases h : d.ppu.request <;> simp [h]

/-- The send of any other response is handed to no block. -/
theorem responseSent_other {sl : Slot} (h0 : sl.okTo 0 = false) (h8 : sl.okTo 8 = false) (d : Dev) :
    responseSent sl d = d := by
  unfold responseSent
  simp only [h0, h8, Bool.false_and]
  split <;> rfl

/-- Settles O53: the slot is freed; an IDENTIFY answer clears the flag that it carried, and the OK to a POWER_REQUEST
carries it out behind the takes that come first. -/
theorem sentResponseIsActedOn : Obligations.SentResponseIsActedOn := by
  refine fun s bytes => ⟨fun x hx ht => ?_, fun j c n tag r ht hs => ?_⟩
  · refine ends_of_run (f := frameSentEvent) rfl ?_
    unfold frameSentEvent
    rw [ht]
    obtain rfl | rfl | rfl | rfl := hx <;> rfl
  · have hends {d : Dev} (h : frameSentEvent s.dev = d) : Ends .frameSent s d :=
      ends_of_run (f := frameSentEvent) rfl h
    have hev := frameSentEvent_response ht hs
    have hok (k : Nat) : (Slot.mk .sending c n tag (some r)).okTo k = true ↔ c = 0 ∧ n = k ∧ r.status = .ok :=
      okTo_iff rfl k
    have hflag : (Slot.mk .sending c n tag (some r)).carriedFlag = (r.data.getD 7 0 == 1) := rfl
    generalize Slot.mk .sending c n tag (some r) = sl at hs hev hok hflag
    refine ⟨fun h => hends ?_, fun hc hn hst => hends ?_, fun hc hn hst hr => hends ?_,
      fun hc hn hst hr hg => ?_⟩
    · have h0 : sl.okTo 0 = false := by grind
      have h8 : sl.okTo 8 = false := by grind
      rw [if_neg (by simp [Dev.carriesOut, h8])] at hev
      exact hev.trans (responseSent_other h0 h8 _)
    · have h0 : sl.okTo 0 = true := (hok 0).2 ⟨hc, hn, hst⟩
      have h8 : sl.okTo 8 = false := by grind
      rw [if_neg (by simp [Dev.carriesOut, h8])] at hev
      rw [hev, responseSent_identify h0 h8, hflag]
      by_cases hf : r.data.getD 7 0 = 1
      · simp only [hf, beq_self_eq_true, if_true]
        rfl
      · simp only [hf, beq_iff_eq, if_false]
        rfl
    · have h0 : sl.okTo 0 = false := by grind
      have h8 : sl.okTo 8 = true := (hok 8).2 ⟨hc, hn, hst⟩
      have hreq : (s.dev.freed j).ppu.request = none := hr
      rw [if_neg (by simp [Dev.carriesOut, hreq]), responseSent_power h0 h8, hreq] at hev
      exact hev
    · have h0 : sl.okTo 0 = false := by grind
      have h8 : sl.okTo 8 = true := (hok 8).2 ⟨hc, hn, hst⟩
      have hreq : (s.dev.freed j).ppu.request ≠ none := hr
      rw [if_pos (by simpa [Dev.carriesOut, h8] using Option.isSome_iff_ne_none.2 hreq),
        responseSent_power h0 h8] at hev
      have hpins : (takeBefore 6 (s.dev.freed j)).pins = s.dev.pins := (takeBefore_frame _ _).2
      refine ⟨_, _, takeBefore_takesTo 6 (s.dev.freed j), hends hev, hpins, fun hp => takeBefore_on 6 hp hreq,
        fun hm => by rw [hm]; rfl, fun v u hm => ?_⟩
      rw [hm]
      exact carryOut_carries v (by rw [hpins, hg])

end Sys2Proof.Machine

namespace Sys2Proof.Machine

/-! ## The transmit arbiter and the bytes of what is sent (R175, R186, R187, R195, R196) -/

/-! ### Frames and the CRC (R175, R195) -/

/-- The first byte of a frame holds the channel in bits 0 to 2 and the kind in bits 3 to 6 (R195). -/
theorem packBits_header {channel kind : Nat} (hc : channel < 8) (hk : kind < 16) :
    packBits [(3, channel), (4, kind)] = channel + 8 * kind := by
  simp only [packBits]
  omega

/-- The CRC-8 register after one bit of a byte, as a serial register takes it (R175). -/
def crcBit (b c : Byte) (n : Nat) : Byte :=
  if c.getLsbD 7 = b.getLsbD n then c <<< 1 else (c <<< 1) ^^^ 0b00000111

/-- A shift of the register that holds the bits to come is a step of the serial register: of the byte, shifted `k`
times so far, bit `7 - k` is the next. -/
theorem crcShift_xor (c b : Byte) {k : Nat} (hk : k < 8) :
    crcShift (c ^^^ (b <<< k)) = crcBit b c (7 - k) ^^^ (b <<< (k + 1)) := by
  have hm : (c ^^^ (b <<< k)).msb = (c.getLsbD 7 ^^ b.getLsbD (7 - k)) := by
    rw [BitVec.msb_eq_getLsbD_last, BitVec.getLsbD_xor, BitVec.getLsbD_shiftLeft]
    simp [show ¬ 7 < k by omega]
  have hs : (c ^^^ (b <<< k)) <<< 1 = (c <<< 1) ^^^ (b <<< (k + 1)) := by
    rw [BitVec.shiftLeft_xor_distrib, BitVec.shiftLeft_add]
  unfold crcShift crcBit
  rw [hm, hs]
  by_cases h : c.getLsbD 7 = b.getLsbD (7 - k)
  · simp only [h, Bool.xor_self, Bool.false_eq_true, if_true, if_false]
  · have hx : (c.getLsbD 7 ^^ b.getLsbD (7 - k)) = true := by simpa using h
    simp only [hx, h, if_true, if_false]
    rw [BitVec.xor_assoc, BitVec.xor_comm (b <<< (k + 1)), BitVec.xor_assoc]

/-- A byte taken into the CRC-8 is its bits taken from the most significant one (R175). -/
theorem crcByte_eq_bits (c b : Byte) : crcByte c b = [7, 6, 5, 4, 3, 2, 1, 0].foldl (crcBit b) c := by
  have h0 : c ^^^ b = c ^^^ (b <<< 0) := by simp
  have h8 : b <<< 8 = 0 := by simp
  simp only [crcByte, Nat.repeat, h0, crcShift_xor, Nat.lt_add_one, Nat.reduceLT, List.foldl, Nat.reduceAdd,
    Nat.reduceSub, h8]
  simp

theorem crc8_append (bs : List Byte) (b : Byte) : crc8 (bs ++ [b]) = crcByte (crc8 bs) b := by
  simp [crc8]

/-! ### Codes (R195, R196) -/

/-- Three flags as one number, the first in bit 0. -/
theorem packBits_flags (a b c : Bool) : packBits [(1, bitOf a), (1, bitOf b), (1, bitOf c)] =
    (if a then 1 else 0) + 2 * (if b then 1 else 0) + 4 * (if c then 1 else 0) := by
  cases a <;> cases b <;> cases c <;> rfl

theorem Status.code_eq (x : Status) : x.code = [Status.ok, .busy, .locked, .stale, .badRequest, .unsupported,
    .denied, .absent, .addrNack, .dataNack, .timeout, .segReset, .segFault].idxOf x := by
  cases x <;> rfl

theorem Stage.code_eq (x : Stage) : x.code =
    [Stage.none, .precharge, .fast, .topoff, .full, .hold, .inhibit, .fault].idxOf x := by
  cases x <;> rfl

theorem Cause.code_eq (x : Cause) : x.code =
    [Cause.none, .hostRequest, .buttonOverride, .thermal, .battery].idxOf x := by
  cases x <;> rfl

theorem WakeSource.index_eq (x : WakeSource) : x.index = [WakeSource.powerButton, .lidOpen, .key, .sideButton,
    .adapterChange, .batteryCritical, .wakeLine].idxOf x := by
  cases x <;> rfl

/-- The status byte of a response: its code, and CLAMPED in bit 7 (R195). -/
theorem packBits_status (x : Status) (clamped : Bool) : packBits [(4, x.code), (3, 0), (1, bitOf clamped)] =
    x.code + 128 * (if clamped then 1 else 0) := by
  have h : x.code < 16 := by cases x <;> decide
  cases clamped <;> simp [packBits, bitOf] <;> omega

theorem Response.bytes_toNat (r : Response) : r.bytes.map BitVec.toNat =
    (r.status.code + 128 * (if r.clamped then 1 else 0)) ::
      (if r.status = .ok then r.data.map BitVec.toNat else []) := by
  have h : r.status.code < 16 := by cases r.status <;> decide
  unfold Response.bytes
  rw [packBits_status, List.map_cons, BitVec.toNat_ofNat, Nat.mod_eq_of_lt (by split <;> omega), apply_ite (List.map _)]
  rfl

theorem KeyReport.bytes_eq (r : KeyReport) : r.bytes = [r.code, r.code / 256,
    (if r.release then 1 else 0) + 2 * (if r.synthesized then 1 else 0) + 4 * (if r.rollover then 1 else 0)].map
      (BitVec.ofNat 8) := by
  unfold KeyReport.bytes
  rw [packBits_flags]
  rfl

theorem StatusFrame.bytes_eq (f : StatusFrame) : f.bytes = [f.remaining, f.remaining / 256,
    (if f.skipped then 1 else 0) + 2 * (if f.half then 1 else 0) + 4 * (if f.complete then 1 else 0)].map
      (BitVec.ofNat 8) ++ f.record := by
  unfold StatusFrame.bytes
  rw [packBits_flags]
  rfl

theorem ofNat_congr {m n : Nat} (h : m % 256 = n % 256) : BitVec.ofNat 8 m = BitVec.ofNat 8 n :=
  BitVec.eq_of_toNat_eq (by simpa using h)

/-- A signed number in two's complement, low byte first. -/
theorem s16Bytes_eq (x : Int) :
    s16Bytes x = [(x % 256).toNat, (x / 256 % 256).toNat].map (BitVec.ofNat 8) := by
  have hlow : twosOf 16 x % 256 = (x % 256).toNat % 256 := by unfold twosOf; omega
  have hhigh : twosOf 16 x / 256 % 256 = (x / 256 % 256).toNat % 256 := by unfold twosOf; omega
  simp only [s16Bytes, leBytes, List.map_cons, List.map_nil, ofNat_congr hlow, ofNat_congr hhigh]

/-! ### The choice (R186, R187) -/

/-- The best source of a list that holds one: those before it are lower, those behind it no higher (R186). -/
theorem bestSource_spec (t : SettingsTab) {l : List TxSource} (hl : l ≠ []) :
    ∃ x before after, bestSource t l = some x ∧ l = before ++ x :: after ∧
      (∀ y ∈ before, t.level y < t.level x) ∧ ∀ y ∈ after, t.level y ≤ t.level x := by
  induction l with
  | nil => exact absurd rfl hl
  | cons z l ih =>
    rcases eq_or_ne l [] with rfl | hne
    · exact ⟨z, [], [], rfl, rfl, by simp, by simp⟩
    · obtain ⟨x, before, after, hx, rfl, hb, ha⟩ := ih hne
      unfold bestSource
      rw [hx]
      dsimp only
      by_cases hlt : t.level z < t.level x
      · exact ⟨x, z :: before, after, if_pos hlt, rfl, by simpa [hlt] using hb, ha⟩
      · refine ⟨z, [], _, if_neg hlt, rfl, by simp, fun y hy => ?_⟩
        have hy' : y ∈ before ∨ y = x ∨ y ∈ after := by simpa using hy
        have hzx : t.level x ≤ t.level z := Nat.le_of_not_lt hlt
        obtain h | rfl | h := hy'
        · exact (hb y h).le.trans hzx
        · exact hzx
        · exact (ha y h).trans hzx

/-- A source that is listed when its mark is set. -/
theorem filter_marked_cons (x : TxSource) (b : Bool) (l : List (TxSource × Bool)) :
    (((x, b) :: l).filter fun y => y.2).map Prod.fst =
      (if b then [x] else []) ++ (l.filter fun y => y.2).map Prod.fst := by
  cases b <;> rfl

/-- The sources that are not empty, in the fixed order (section 10.8). -/
theorem offers_eq (d : Dev) : d.offers = d.pli.readyOrder.head?.toList.map TxSource.response ++
    ([(TxSource.key, decide (d.ktu.queue ≠ [])), (.notice, decide (d.nsu.queue ≠ [])),
      (.battery, (d.stream .battery).slot.isSome), (.thermal, (d.stream .thermal).slot.isSome)].filter
        fun x => x.2).map Prod.fst := by
  have hlisted (x : TxSource) {α : Type} (q : List α) [Decidable (q ≠ [])] :
      (if decide (q ≠ []) then [x] else []) = if q.isEmpty then [] else [x] := by
    cases q <;> simp
  simp only [filter_marked_cons, hlisted, List.filter_nil, List.map_nil, List.append_nil]
  unfold Dev.offers
  cases d.pli.readyOrder <;> simp

theorem choiceEvent_of_kept (permit : Bool) {d : Dev}
    (h : d.pli.linkUp = false ∨ d.pli.tx ≠ none ∨ permit = false ∨ d.offers = []) :
    choiceEvent permit d = d.setPins { d.pins with txPermit := permit } := by
  unfold choiceEvent Dev.mayChoose
  dsimp only
  split
  case isFalse => rfl
  case isTrue hm =>
    have ho : (d.setPins { d.pins with txPermit := permit }).offers = [] := by
      obtain h | h | h | h := h
      · simp [h] at hm
      · simp [h] at hm
      · simp [h] at hm
      · exact h
    rw [ho]
    rfl

theorem choiceEvent_of_choice {d : Dev} {x : TxSource} (hl : d.pli.linkUp = true) (ht : d.pli.tx = none)
    (hx : bestSource d.tst.settings d.offers = some x) :
    choiceEvent true d = beginFrame x (d.setPins { d.pins with txPermit := true }) := by
  have hm : (d.setPins { d.pins with txPermit := true }).mayChoose = true := by simp [Dev.mayChoose, hl, ht]
  have hb : bestSource (d.setPins { d.pins with txPermit := true }).tst.settings
      (d.setPins { d.pins with txPermit := true }).offers = some x := hx
  unfold choiceEvent
  simp only [hm, hb, if_true]

/-- Settles O52: the arbiter begins a frame of the best source that is not empty, and the bytes are those of the codes
above. -/
theorem transmitterPicksHighestPriority : Obligations.TransmitterPicksHighestPriority := by
  refine ⟨fun channel kind tag p hc hk => ?_, ⟨rfl, fun bs b => ?_⟩, ?_, fun s permit => ?_⟩
  · unfold frameBytes
    rw [packBits_header hc hk]
    rfl
  · rw [crc8_append, crcByte_eq_bits]
    rfl
  · refine ⟨fun r => ?_, KeyReport.bytes_eq, StatusFrame.bytes_eq, fun n => ?_⟩
    · rw [← Status.code_eq]
      exact r.bytes_toNat
    · cases n with
      | linkUp w c p =>
        dsimp only
        rw [← Cause.code_eq]
        cases w with
        | none => rfl
        | some w => exact congrArg (fun i => byteOf 0 :: byteOf i :: _) w.index_eq
      | linkError c => cases c <;> rfl
      | keyOverrun => rfl
      | actionLocked a => rfl
      | button b => rfl
      | posture o n => cases o <;> cases n <;> rfl
      | packChange k st => cases k <;> cases st <;> rfl
      | chargeStage k o n =>
        dsimp only
        rw [← Stage.code_eq, ← Stage.code_eq]
        cases k <;> rfl
      | adapterChange p c r =>
        simp only [Notice.bytes, Notice.fields, leBytes, Nat.div_div_eq_div_mul]
        rfl
      | batteryCritical soc => rfl
      | fanFault f b => cases f <;> rfl
      | thermalZone o n x => exact congrArg (fun bs => byteOf 11 :: byteOf o :: byteOf n :: bs) (s16Bytes_eq x)
      | thermalCritical src x => exact congrArg (fun bs => byteOf 12 :: byteOf src :: bs) (s16Bytes_eq x)
      | thermalInputLost b => rfl
      | segmentEvent g e => cases g <;> cases e <;> rfl
      | settingsChanged f v => rfl
  · refine ⟨⟨fun _ => rfl, rfl, rfl, rfl, rfl⟩, offers_eq s.dev, fun h => ?_, fun hl ht hp ho => ?_⟩
    · exact ends_of_run (f := choiceEvent permit) rfl (choiceEvent_of_kept permit h)
    · subst hp
      obtain ⟨x, before, after, hx, hlist, hb, ha⟩ := bestSource_spec s.dev.tst.settings ho
      refine ⟨_, x, before, after,
        ends_of_run (f := choiceEvent true) rfl (choiceEvent_of_choice hl ht hx), hlist, hb, ha,
        ?_, ?_, ?_, ?_, ?_⟩
      · rintro j c n tag r rfl hs
        have hj : s.dev.pli.slots.getD j Slot.empty = ⟨.ready, c, n, tag, some r⟩ := by
          simp [List.getD_eq_getElem?_getD, hs]
        simp only [beginFrame, setPins_pli, hj]
        rfl
      · rintro rfl
        rfl
      · rintro n rest rfl hq
        simp only [beginFrame, setPins_nsu, hq]
        rfl
      · rintro f rfl hf
        have hf' : ((s.dev.setPins { s.dev.pins with txPermit := true }).stream .battery).slot = some f := hf
        simp only [beginFrame, hf']
        rfl
      · rintro f rfl hf
        have hf' : ((s.dev.setPins { s.dev.pins with txPermit := true }).stream .thermal).slot = some f := hf
        simp only [beginFrame, hf']
        rfl

end Sys2Proof.Machine

namespace Sys2Proof.Machine

/-! ## A restatement that goes on settled (R26, R27, R36) -/

/-! ### The run and its first move -/

/-- The steps that RESTATEMENT_RESUME allows are enough for every restatement (R36). -/
theorem Ktu.movesLeft_lt {u : Ktu} (h : u.held.length ≤ 16) : u.movesLeft < 320 := by
  unfold Ktu.movesLeft
  cases u.restate <;> dsimp only <;> omega

/-- RESTATEMENT_RESUME is the run of a restatement, which with none begun is no move. -/
theorem resumeEvent_eq (d : Dev) : resumeEvent d = restateRun 320 d := by
  cases hr : d.ktu.restate with
  | idle =>
    have hm : restateMove d = (d, false) := by simp only [restateMove, hr]
    rw [restateRun_succ, hm]
    simp only [resumeEvent, hr, Bool.false_eq_true, if_false]
  | releasing n | pressing p | pressWaiting p c => simp only [resumeEvent, hr]

theorem restateMove_release {d : Dev} {n : Nat} {h : Nat × Nat} (hr : d.ktu.restate = .releasing n)
    (hh : d.ktu.held[n]? = some h) (hq : d.ktu.queue.length < 32) :
    restateMove d = (setRestate (.releasing (n + 1)) (d.setKtu (d.ktu.report h.1 true true)), true) := by
  have hfull : d.ktu.full = false := Bool.eq_false_iff.mpr fun hf => absurd ((full_iff _).mp hf) (by omega)
  simp only [restateMove, hr, hh, hfull, Bool.false_eq_true, if_false]

theorem restateMove_press {d : Dev} {p c : Nat} (hr : d.ktu.restate = .pressWaiting p c)
    (hq : d.ktu.queue.length < 32) :
    restateMove d = (setRestate (.pressing (p + 1)) (d.setKtu (d.ktu.pressCode p c true)), true) := by
  have hfull : d.ktu.full = false := Bool.eq_false_iff.mpr fun hf => absurd ((full_iff _).mp hf) (by omega)
  simp only [restateMove, hr, hfull, Bool.false_eq_true, if_false]

/-- A first move that queues one report makes it the first of the run. -/
theorem restateRun_head {d e : Dev} {r : KeyReport} {n : Nat} {more : List KeyReport}
    (hm : restateMove d = (e, true)) (he : e.ktu.queue = d.ktu.queue ++ [r])
    (hd : (restateRun (n + 1) d).ktu.queue = d.ktu.queue ++ more) : more.head? = some r := by
  obtain ⟨⟨tail, htail, -⟩, -⟩ := restateRun_appends n e
  rw [restateRun_succ, hm, if_pos rfl, htail, he, List.append_assoc] at hd
  rw [← List.append_cancel_left hd]
  rfl

/-! ### Step 3 leaves the positions behind it -/

theorem pressCode_recs (u : Ktu) (p c : Nat) (b : Bool) :
    ∃ x, (u.pressCode p c b).recs = u.recs.set p (some x) := by
  unfold Ktu.pressCode
  split
  · exact ⟨_, rfl⟩
  · split <;> exact ⟨_, rfl⟩

theorem pressUsed_recs (p : Nat) (x : Used) (b : Bool) (d : Dev) :
    ∃ y, (pressUsed p x b d).ktu.recs = d.ktu.recs.set p (some y) := by
  cases x with
  | code c => exact pressCode_recs ..
  | fn | action a | noKey | rolled => exact ⟨_, rfl⟩

/-- What a visit of step 3 can do: pass the position over, wait there for room, or translate it (R36). -/
theorem visit_cases (p : Nat) (d : Dev) :
    (¬ (d.mse.plainDown p && (d.ktu.keyRec p).isNone && !d.shut p) = true ∧
      visit p d = setRestate (.pressing (p + 1)) d) ∨
    ((d.mse.plainDown p && (d.ktu.keyRec p).isNone && !d.shut p) = true ∧
      ((∃ c, 32 ≤ d.ktu.queue.length ∧ visit p d = setRestate (.pressWaiting p c) d) ∨
        visit p d = setRestate (.pressing (p + 1)) (pressUsed p (d.lookupActive p) true d))) := by
  by_cases hv : (d.mse.plainDown p && (d.ktu.keyRec p).isNone && !d.shut p) = true
  · refine .inr ⟨hv, ?_⟩
    by_cases hw : ∃ c, d.lookupActive p = .code c ∧ (d.ktu.wouldReport c && d.ktu.full) = true
    · obtain ⟨c, hc, hw⟩ := hw
      refine .inl ⟨c, (full_iff _).mp (Bool.and_eq_true_iff.mp hw).2, ?_⟩
      unfold visit
      rw [if_pos hv, hc]
      exact if_pos hw
    · refine .inr ?_
      unfold visit
      rw [if_pos hv]
      dsimp only
      cases hx : d.lookupActive p with
      | code c => exact if_neg fun h => hw ⟨c, hx, h⟩
      | fn | action a | noKey | rolled => rfl
  · exact .inl ⟨hv, visit_pass hv⟩

theorem visit_recs_ne {p q : Nat} (h : q ≠ p) (d : Dev) : (visit p d).ktu.recs[q]? = d.ktu.recs[q]? := by
  obtain ⟨-, hv⟩ | ⟨-, ⟨c, -, hv⟩ | hv⟩ := visit_cases p d <;> rw [hv]
  · rfl
  · rfl
  · obtain ⟨y, hy⟩ := pressUsed_recs p (d.lookupActive p) true d
    exact (congrArg (·[q]?) hy).trans (List.getElem?_set_ne (Ne.symm h))

/-- Step 3 has passed a position. -/
def Restatement.Past (r : Restatement) (q : Nat) : Prop :=
  match r with
  | .idle => True
  | .pressing p | .pressWaiting p _ => q < p
  | .releasing _ => False

theorem visit_past (p : Nat) (d : Dev) {q : Nat} (h : q < p) : (visit p d).ktu.restate.Past q := by
  obtain hv | ⟨c, hv⟩ := visit_restate p d <;> rw [hv]
  · exact Nat.lt_succ_of_lt h
  · exact h

/-- The record of a position that step 3 has passed stands. -/
theorem restateRun_past {d : Dev} {q : Nat} (h : d.ktu.restate.Past q) (n : Nat) :
    (restateRun n d).ktu.recs[q]? = d.ktu.recs[q]? := by
  refine (restateRun_keeps (P := fun e => e.ktu.restate.Past q ∧ e.ktu.recs[q]? = d.ktu.recs[q]?)
    (fun e ⟨hp, he⟩ => ?_) n ⟨h, rfl⟩).2
  have hm := restateMove_move e
  generalize restateMove e = m at hm ⊢
  cases hm with
  | idle | releaseWaits | pressWaits => exact ⟨hp, he⟩
  | done => exact ⟨trivial, he⟩
  | release n h hr | layer n hr => rw [hr] at hp; exact hp.elim
  | visit p hr =>
    rw [hr] at hp
    exact ⟨visit_past p e hp, (visit_recs_ne (Nat.ne_of_lt hp) e).trans he⟩
  | press p c hr =>
    rw [hr] at hp
    obtain ⟨x, hx⟩ := pressCode_recs e.ktu p c true
    exact ⟨Nat.lt_succ_of_lt hp,
      (congrArg (·[q]?) hx).trans ((List.getElem?_set_ne (Nat.ne_of_gt hp)).trans he)⟩

/-! ### Step 3 with any reports queued and any codes held -/

/-- A position that step 3, come to position `n`, is to translate (R36). -/
def Dev.Due (d : Dev) (n p : Nat) : Prop := n ≤ p ∧ d.ktu.recs[p]? = some none ∧ d.HeldDown p

/-- The codes that came into the held-code list are the presses queued since, in order (R26). -/
def Ktu.Told (v u : Ktu) : Prop := ∃ more, u.queue = v.queue ++ more ∧
  u.held.map Prod.fst = v.held.map Prod.fst ++ more.map KeyReport.code ∧ ∀ r ∈ more, r.release = false

/-- Step 3, come from position `n`, before position `p`: the due positions below `p` are made, every other record is as
it was. -/
structure Dev.GoesOn (d : Dev) (n : Nat) (u : Ktu) (p : Nat) : Prop where
  begun : n ≤ p
  layer : u.layer = d.ktu.layer
  length : u.recs.length = 148
  kept : ∀ q, ¬ d.Due n q ∨ p ≤ q → u.recs[q]? = d.ktu.recs[q]?
  made : ∀ q, d.Due n q → q < p → u.Made q (lookup d.tst.keymap d.ktu.layer q)
  size : u.held.length ≤ 16
  told : d.ktu.Told u

theorem Ktu.Told.refl (u : Ktu) : u.Told u := ⟨[], by simp, by simp, by simp⟩

/-- A code that comes into the held-code list with its press report (R26). -/
theorem Ktu.Told.press {u v w : Ktu} (h : v.Told u) {r : KeyReport} (hq : w.queue = u.queue ++ [r])
    (hh : w.held.map Prod.fst = u.held.map Prod.fst ++ [r.code]) (hr : r.release = false) : v.Told w := by
  obtain ⟨more, hmore, hheld, hrel⟩ := h
  refine ⟨more ++ [r], by rw [hq, hmore, List.append_assoc], by rw [hh, hheld]; simp, fun x hx => ?_⟩
  rcases List.mem_append.mp hx with hx | hx
  · exact hrel x hx
  · rw [List.mem_singleton.mp hx, hr]

/-- A change that queues nothing and brings no code in. -/
theorem Ktu.Told.same {u v w : Ktu} (h : v.Told u) (hq : w.queue = u.queue)
    (hh : w.held.map Prod.fst = u.held.map Prod.fst) : v.Told w := by
  obtain ⟨more, hmore, hheld, hrel⟩ := h
  exact ⟨more, hq.trans hmore, hh.trans hheld, hrel⟩

namespace Dev.GoesOn

variable {d : Dev} {n : Nat} {u : Ktu} {p : Nat}

theorem start (hl : d.ktu.recs.length = 148) (hh : d.ktu.held.length ≤ 16) : d.GoesOn n d.ktu n where
  begun := Nat.le_refl n
  layer := rfl
  length := hl
  kept _ _ := rfl
  made _ hd hlt := absurd hd.1 (Nat.not_le_of_lt hlt)
  size := hh
  told := .refl _

theorem restate (h : d.GoesOn n u p) (r : Restatement) : d.GoesOn n { u with restate := r } p :=
  ⟨h.begun, h.layer, h.length, h.kept, h.made, h.size, h.told⟩

/-- A position passed over is not due. -/
theorem pass (h : d.GoesOn n u p) (hp : ¬ d.Due n p) : d.GoesOn n u (p + 1) where
  begun := Nat.le_succ_of_le h.begun
  layer := h.layer
  length := h.length
  kept q hq := h.kept q (hq.imp_right Nat.le_of_succ_le)
  made q hd hlt := by
    refine h.made q hd (Nat.lt_of_le_of_ne (Nat.le_of_lt_succ hlt) ?_)
    rintro rfl
    exact hp hd
  size := h.size
  told := h.told

/-- A position translated. -/
theorem translate (h : d.GoesOn n u p) (hd : d.Due n p) {v : Ktu} {x : KeyRec}
    (hrecs : v.recs = u.recs.set p (some x)) (hlayer : v.layer = u.layer)
    (hgrow : ∀ c ∈ u.held.map Prod.fst, c ∈ v.held.map Prod.fst)
    (hfull : u.held.length = 16 → v.held.map Prod.fst = u.held.map Prod.fst)
    (hmade : v.Made p (lookup d.tst.keymap d.ktu.layer p)) (hsize : v.held.length ≤ 16)
    (htold : d.ktu.Told v) : d.GoesOn n v (p + 1) := by
  have hother {q : Nat} (hq : q ≠ p) : v.recs[q]? = u.recs[q]? := by rw [hrecs, List.getElem?_set_ne hq.symm]
  refine ⟨Nat.le_succ_of_le h.begun, hlayer.trans h.layer, by rw [hrecs, List.length_set, h.length], fun q hq => ?_,
    fun q hdq hlt => ?_, hsize, htold⟩
  · have hqp : q ≠ p := by
      rintro rfl
      exact hq.elim (fun hn => hn hd) fun hle => absurd hle (by omega)
    exact (hother hqp).trans (h.kept q (hq.imp_right Nat.le_of_succ_le))
  · by_cases hqp : q = p
    · exact hqp ▸ hmade
    · exact (h.made q hdq (by omega)).grow (hother hqp) hgrow hfull

/-- A due position still has no record when step 3 comes to it. -/
theorem empty (h : d.GoesOn n u p) (hd : d.Due n p) : u.recs[p]? = some none :=
  (h.kept p (.inr (Nat.le_refl p))).trans hd.2.1

theorem recorded (h : d.GoesOn n u p) (hd : d.Due n p) (x : Option KeyRec) : (u.recs.set p x)[p]? = some x :=
  List.getElem?_set_self (List.getElem?_eq_some_iff.mp (h.empty hd)).1

/-- A position translated as what is no code. -/
theorem mark (h : d.GoesOn n u p) (hd : d.Due n p) {x : Used} (hx : ∀ c, x ≠ .code c)
    (hl : lookup d.tst.keymap d.ktu.layer p = x) :
    d.GoesOn n (u.setRec p (some (KeyRec.plain x))) (p + 1) := by
  refine h.translate hd rfl rfl (fun _ hc => hc) (fun _ => rfl) ?_ h.size (h.told.same rfl rfl)
  rw [hl]
  cases x
  case code c => exact absurd rfl (hx c)
  all_goals exact h.recorded hd _

/-- A position translated as a code (R26, R27). -/
theorem press (h : d.GoesOn n u p) (hd : d.Due n p) {c : Nat} (hl : lookup d.tst.keymap d.ktu.layer p = .code c) :
    d.GoesOn n (u.pressCode p c true) (p + 1) := by
  by_cases hc : c ∈ u.held.map Prod.fst
  · have hfst := counted_fst u.held c
    rw [pressCode_again hc]
    refine h.translate hd rfl rfl (fun a ha => hfst.symm ▸ ha) (fun _ => hfst) ?_
      (by rw [List.length_map]; exact h.size) (h.told.same rfl hfst)
    rw [hl]
    exact ⟨fun _ => h.recorded hd _, fun hno => absurd (hfst.symm ▸ hc) hno⟩
  · by_cases hroom : u.held.length < 16
    · have hfst : (u.held ++ [(c, 1)]).map Prod.fst = u.held.map Prod.fst ++ [c] := by simp
      rw [pressCode_new hc hroom]
      refine h.translate hd rfl rfl (fun a ha => hfst.symm ▸ List.mem_append_left _ ha)
        (fun he => absurd he (Nat.ne_of_lt hroom)) ?_ (by simpa [Ktu.report] using hroom)
        (h.told.press (r := ⟨c, false, true, u.rollover⟩) rfl hfst rfl)
      rw [hl]
      exact ⟨fun _ => h.recorded hd _, fun hno => absurd (by simp [Ktu.report]) hno⟩
    · have hlen : u.held.length = 16 := Nat.le_antisymm h.size (Nat.not_lt.mp hroom)
      rw [pressCode_full hc hroom]
      refine h.translate hd rfl rfl (fun _ ha => ha) (fun _ => rfl) ?_ h.size (h.told.same rfl rfl)
      rw [hl]
      exact ⟨fun hy => absurd hy hc, fun _ => ⟨hlen, h.recorded hd _⟩⟩

/-- The positions that step 3 translates are the due ones. -/
theorem visited_iff (h : d.GoesOn n u p) (hp : p < 148) :
    (d.mse.plainDown p && (u.keyRec p).isNone && !d.shut p) = true ↔ d.Due n p := by
  have hrec : (u.keyRec p).isNone = true ↔ d.ktu.recs[p]? = some none := by
    have hlt : p < u.recs.length := h.length ▸ hp
    rw [← h.kept p (.inr (Nat.le_refl p)), Ktu.keyRec, List.getD_eq_getElem?_getD, List.getElem?_eq_getElem hlt]
    simp
  rw [Dev.Due, heldDown_iff, ← hrec]
  simp [h.begun, and_left_comm, and_assoc]

/-- A due position translated as it reads: an FN that step 3 comes to leaves the layer, which is 1 (R24, R36). -/
theorem pressUsed (h : d.GoesOn n u p) (hd : d.Due n p)
    (hfn : d.ktu.layer = 1 ∨ ∀ q, d.HeldDown q → ¬ d.Reads d.ktu.layer q .fn) :
    ∃ v, pressUsed p (lookup d.tst.keymap u.layer p) true (d.setKtu u) = d.setKtu v ∧ d.GoesOn n v (p + 1) := by
  rw [h.layer]
  cases hx : lookup d.tst.keymap d.ktu.layer p with
  | code c => exact ⟨_, rfl, h.press hd hx⟩
  | fn =>
    have hone : d.ktu.layer = 1 :=
      hfn.resolve_right fun hno => hno p hd.2.2 ((reads_fn_iff d _ p).mpr hx)
    have hlayer : layerOf (u.setRec p (some (KeyRec.plain .fn))).recs d.tst.settings.fnLock = u.layer := by
      rw [h.layer, hone]
      exact layerOf_of_fn (q := p) (h.recorded hd _) _
    refine ⟨u.setRec p (some (KeyRec.plain .fn)), ?_, h.mark hd (by simp) hx⟩
    change d.setKtu { u.setRec p (some (KeyRec.plain .fn)) with
      layer := layerOf (u.setRec p (some (KeyRec.plain .fn))).recs d.tst.settings.fnLock } = _
    rw [hlayer]
    rfl
  | action a => exact ⟨_, rfl, h.mark hd (by simp) hx⟩
  | noKey => exact ⟨_, rfl, h.mark hd (by simp) hx⟩
  | rolled => exact ⟨_, rfl, h.mark hd (by simp) hx⟩

end Dev.GoesOn

/-- Where a step 3 that goes on stands: at a position, done, or waiting with a full key report queue. -/
def Dev.InPress (d : Dev) (n : Nat) (u : Ktu) : Prop :=
  match u.restate with
  | .idle => ∃ p, 148 ≤ p ∧ d.GoesOn n u p
  | .pressing p => d.GoesOn n u p
  | .pressWaiting _ _ => 32 ≤ u.queue.length
  | .releasing _ => False

theorem Dev.InPress.move {d : Dev} {n : Nat} {u : Ktu} (h : d.InPress n u)
    (hfn : d.ktu.layer = 1 ∨ ∀ q, d.HeldDown q → ¬ d.Reads d.ktu.layer q .fn) :
    ∃ v, (restateMove (d.setKtu u)).1 = d.setKtu v ∧ d.InPress n v := by
  have hm := restateMove_move (d.setKtu u)
  generalize restateMove (d.setKtu u) = m at hm ⊢
  have at_ {r : Restatement} (hr : (d.setKtu u).ktu.restate = r) : d.InPress n { u with restate := r } := by
    rw [← hr]; exact h
  cases hm with
  | idle | releaseWaits | pressWaits => exact ⟨u, rfl, h⟩
  | release k x hr | layer k hr => exact (at_ hr).elim
  | press p c hr hq => exact absurd (at_ hr) (Nat.not_le_of_lt hq)
  | done p hr hp => exact ⟨_, rfl, p, hp, (at_ hr).restate .idle⟩
  | visit p hr hp =>
    have hat : d.GoesOn n u p := (at_ hr).restate u.restate
    obtain ⟨hv, he⟩ | ⟨hv, ⟨c, hq, he⟩ | he⟩ := visit_cases p (d.setKtu u) <;> rw [he]
    · exact ⟨_, rfl, (hat.pass fun hd => hv ((hat.visited_iff hp).mpr hd)).restate _⟩
    · exact ⟨_, rfl, hq⟩
    · obtain ⟨v, hpress, hnext⟩ := hat.pressUsed ((hat.visited_iff hp).mp hv) hfn
      exact ⟨{ v with restate := .pressing (p + 1) }, congrArg (setRestate (.pressing (p + 1))) hpress,
        hnext.restate _⟩

/-- A step 3 that is done has passed every position. -/
theorem restateRun_goesOn {d : Dev} {n : Nat} (hr : d.ktu.restate = .pressing n) (hh : d.ktu.held.length ≤ 16)
    (hl : d.ktu.recs.length = 148)
    (hfn : d.ktu.layer = 1 ∨ ∀ q, d.HeldDown q → ¬ d.Reads d.ktu.layer q .fn)
    (hidle : (restateRun 320 d).ktu.restate = .idle) : ∃ p, 148 ≤ p ∧ d.GoesOn n (restateRun 320 d).ktu p := by
  have hstart : d.InPress n d.ktu := by
    rw [Dev.InPress, hr]
    exact .start hl hh
  obtain ⟨v, hv, hin⟩ := restateRun_keeps (P := fun e => ∃ u, e = d.setKtu u ∧ d.InPress n u)
    (by rintro e ⟨u, rfl, h⟩; exact h.move hfn) 320 ⟨_, rfl, hstart⟩
  have hv : (restateRun 320 d).ktu = v := congrArg Dev.ktu hv
  rw [hv] at hidle ⊢
  rwa [Dev.InPress, hidle] at hin

/-- Settles O11: the run queues behind what is queued, goes on with the release or the press that it had come to, and a
step 3 that it ends has translated the due positions. -/
theorem restatementGoesOn : Obligations.RestatementGoesOn := by
  intro s hh
  obtain ⟨⟨more, hmore, hsyn⟩, -⟩ := restateRun_appends 320 s.dev
  refine ⟨restateRun 320 s.dev, more, ends_of_run (f := resumeEvent) rfl (resumeEvent_eq s.dev),
    restateRun_ktu 320 s.dev, hmore, hsyn, (restateRun_paused (Ktu.movesLeft_lt hh)).imp_right And.left,
    fun n h hr hn hq => restateRun_head (restateMove_release hr hn hq) rfl hmore,
    fun p c hr hq hroom hc hp => ?_, fun n hr hidle hl hfn => ?_⟩
  · have hm := restateMove_press hr hq
    have hnew := pressCode_new (p := p) hc hroom true
    have hpast : (Restatement.pressing (p + 1)).Past p := Nat.lt_succ_self p
    refine ⟨restateRun_head hm (congrArg Ktu.queue hnew) hmore, ?_⟩
    rw [restateRun_succ, hm, if_pos rfl, restateRun_past hpast]
    exact (congrArg (fun u : Ktu => u.recs[p]?) hnew).trans (List.getElem?_set_self hp)
  · obtain ⟨p, hp, hdone⟩ := restateRun_goesOn hr hh hl hfn hidle
    obtain ⟨more', hmore', hheld, hrel⟩ := hdone.told
    obtain rfl : more' = more := List.append_cancel_left (hmore'.symm.trans hmore)
    refine ⟨hdone.layer, hheld, hrel, fun q => ⟨fun hd => hdone.kept q (.inl hd), fun hd k hk => ?_⟩⟩
    have hlt : q < 148 := hl ▸ (List.getElem?_eq_some_iff.mp hd.2.1).1
    exact (hdone.made q hd (by omega)).restated hk

end Sys2Proof.Machine

namespace Sys2Proof.Machine

/-! ## SHADOW settled (R49, R59) -/

/-- The first ITEMMAP item with a command byte is found. -/
theorem itemOf_of_first {map : List Nat} {command j : Nat} (hj : map[j]? = some command)
    (hfirst : ∀ l < j, map[l]? ≠ some command) : itemOf map command = some j := by
  obtain ⟨hlt, hget⟩ := List.getElem?_eq_some_iff.mp hj
  have hfound : map.zipIdx.find? (fun x => x.1 == command) = some (command, j) := by
    refine List.find?_eq_some_iff_getElem.mpr ⟨by simp, j, by simpa using hlt, by simp [hget], fun l hl => ?_⟩
    have hne := hfirst l hl
    rw [List.getElem?_eq_getElem (hl.trans hlt)] at hne
    simpa using hne
  simp [itemOf, hfound]

theorem itemOf_of_not_mem {map : List Nat} {command : Nat} (h : command ∉ map) : itemOf map command = none := by
  have hnone : map.zipIdx.find? (fun x => x.1 == command) = none := by
    refine List.find?_eq_none.mpr fun x hx hc => h ?_
    rw [← beq_iff_eq.mp hc]
    exact List.mem_of_getElem? (List.mem_zipIdx_iff_getElem?.mp hx)
  simp [itemOf, hnone]

/-- The answer by the item's value in the record (R59). -/
def itemAnswer : Option Nat → Response
  | none => ⟨.absent, false, []⟩
  | some x => ⟨.ok, false, leBytes 2 x⟩

theorem shadowAnswer_of_item {g : Seg} {command i : Nat} {d : Dev} (h : itemOf d.tst.itemmap command = some i) :
    shadowAnswer g command d = itemAnswer ((d.mon (packOf g)).record.item i) := by
  cases hv : (d.mon (packOf g)).record.item i <;> simp [shadowAnswer, itemAnswer, h, hv]

/-- No telemetry item is in a record without telemetry. -/
theorem item_of_no_telemetry {r : PackRecord} (h : r.telemetry = none) {j : Nat} (hj : j < 8) : r.item j = none := by
  match j, hj with
  | 0, _ | 1, _ | 2, _ | 3, _ | 4, _ | 5, _ | 6, _ | 7, _ => simp [PackRecord.item, h]

/-- No identity item is in a record without identity, and no record has an item beyond them. -/
theorem item_of_no_identity {r : PackRecord} (h : r.identity = none) {j : Nat} (hj : 8 ≤ j) : r.item j = none := by
  match j, hj with
  | 8, _ | 9, _ | 10, _ => simp [PackRecord.item, h]
  | _ + 11, _ => rfl

/-- The status word is a byte with its three low bits 0 that gives the five flags back (R59, R196). -/
theorem PackStatus.word_spec (x : PackStatus) :
    x.word < 256 ∧ x.word % 8 = 0 ∧ PackStatus.ofWord x.word = x := by
  obtain ⟨a, b, c, d, e⟩ := x
  revert a b c d e
  decide

/-- Settles O42, item by item. -/
theorem shadowAnswersFromRecord : Obligations.ShadowAnswersFromRecord := by
  intro g command d r
  have hrecord : (d.mon (packOf g)).record = r := by cases g <;> rfl
  refine ⟨fun hn => by simp [shadowAnswer, itemOf_of_not_mem hn], fun j hj hfirst => ?_⟩
  have hanswer : shadowAnswer g command d = itemAnswer (r.item j) :=
    hrecord ▸ shadowAnswer_of_item (itemOf_of_first hj hfirst)
  rw [hanswer]
  refine ⟨fun hlt ht => by rw [item_of_no_telemetry ht hlt]; rfl,
    fun hge hi => by rw [item_of_no_identity hi hge]; rfl, fun t ht => ?_, fun n hn => ?_⟩
  · refine ⟨?_, ?_, ?_, ?_, ?_, ?_, ?_, ?_⟩ <;> rintro rfl
    case refine_8 =>
      obtain ⟨hlt, hlow, hflags⟩ := t.status.word_spec
      have hbyte : (BitVec.ofNat 8 t.status.word).toNat = t.status.word := by simp; omega
      refine ⟨by simp [PackRecord.item, ht, itemAnswer], BitVec.ofNat 8 t.status.word, ?_, by rw [hbyte, hlow],
        by rw [hbyte, hflags]⟩
      simp [PackRecord.item, ht, itemAnswer, leBytes, Nat.div_eq_of_lt hlt]
    case refine_6 => cases h : t.reqCurrent <;> simp [PackRecord.item, ht, h, itemAnswer]
    case refine_7 => cases h : t.reqVoltage <;> simp [PackRecord.item, ht, h, itemAnswer]
    all_goals simp [PackRecord.item, ht, itemAnswer, twosOf]
  · refine ⟨?_, ?_, ?_⟩ <;> rintro rfl <;> simp [PackRecord.item, hn, itemAnswer]

end Sys2Proof.Machine

namespace Sys2Proof.Machine

/-! ## The items of a pack on their way to a segment (R48, R51, R53, R55, R57) -/

/-- A part is known by its blocks. -/
theorem Dev.eq_of_blocks {d e : Dev} (h : e.profile = d.profile ∧ e.pins = d.pins ∧ e.mse = d.mse ∧ e.ktu = d.ktu ∧
    e.pkm = d.pkm ∧ e.chg = d.chg ∧ e.tfu = d.tfu ∧ e.ppu = d.ppu ∧ e.wku = d.wku ∧ e.segs = d.segs ∧
    e.tst = d.tst ∧ e.pli = d.pli ∧ e.nsu = d.nsu ∧ e.draws = d.draws) : e = d := by
  obtain ⟨h1, h2, h3, h4, h5, h6, h7, h8, h9, h10, h11, h12, h13, h14⟩ := h
  cases d; cases e
  simp only at h1 h2 h3 h4 h5 h6 h7 h8 h9 h10 h11 h12 h13 h14
  subst h1 h2 h3 h4 h5 h6 h7 h8 h9 h10 h11 h12 h13 h14
  rfl

theorem setMon_eq (d : Dev) (k : Pack) (x : PackMonitor) : d.setMon k x = { d with pkm := d.pkm.set k.ix x } := rfl

/-! ### What one segment's records do to the segments and the link -/

/-- Between two moments one segment alone moved; with no sequence PENDING on it the link is as it was, and none is
PENDING after (R153). -/
structure Dev.MovesSeg (d e : Dev) (g : Seg) : Prop where
  other : ∀ j, j ≠ g → e.seg j = d.seg j
  link : (∀ i, (d.seg g).sequence ≠ .pending i) → e.pli = d.pli ∧ ∀ i, (e.seg g).sequence ≠ .pending i

theorem Dev.MovesSeg.moved {d e : Dev} {g : Seg} (h : d.MovesSeg e g) : d.SegmentMoved e g :=
  ⟨h.other, fun hs => (h.link hs).1⟩

theorem Dev.MovesSeg.trans {d e f : Dev} {g : Seg} (h : d.MovesSeg e g) (k : e.MovesSeg f g) : d.MovesSeg f g := by
  refine ⟨fun j hj => (k.other j hj).trans (h.other j hj), fun hs => ?_⟩
  obtain ⟨hp, hs'⟩ := h.link hs
  obtain ⟨hp', hs''⟩ := k.link hs'
  exact ⟨hp'.trans hp, hs''⟩

/-- What leaves the segments and the link as they are moves no segment. -/
theorem Dev.MovesSeg.of_same {d e : Dev} (g : Seg) (hs : e.segs = d.segs) (hp : e.pli = d.pli) : d.MovesSeg e g := by
  have hseg (j : Seg) : e.seg j = d.seg j := by simp [Dev.seg, hs]
  exact ⟨fun j _ => hseg j, fun h => ⟨hp, by simpa [hseg] using h⟩⟩

/-- A segment replaced with the sequence record that it has. -/
theorem Dev.MovesSeg.setSeg {d e : Dev} {g : Seg} (h : d.MovesSeg e g) (x : Segment)
    (hx : x.sequence = (e.seg g).sequence := by rfl) : d.MovesSeg (e.setSeg g x) g :=
  h.trans ⟨fun j hj => by rw [seg_setSeg_if, if_neg (Ne.symm hj)], fun hs => ⟨rfl, by simpa [hx] using hs⟩⟩

theorem grantSequence_of_none {g : Seg} {d : Dev} (h : ∀ i, (d.seg g).sequence ≠ .pending i) :
    grantSequence g d = d := by
  unfold grantSequence
  split
  · exact absurd ‹_› (h _)
  all_goals rfl

theorem takeTransaction_pli (g : Seg) (d : Dev) : (takeTransaction g d).pli = d.pli := by simp

theorem takeTransaction_sequence (g : Seg) (d : Dev) :
    ((takeTransaction g d).seg g).sequence = (d.seg g).sequence := by
  unfold takeTransaction
  dsimp only
  split
  · rfl
  · rw [seg_setSeg]

theorem Dev.MovesSeg.arbitrate {d e : Dev} {g : Seg} (h : d.MovesSeg e g) : d.MovesSeg (arbitrate g e) g := by
  refine h.trans ⟨fun j hj => arbitrate_other hj e, fun hs => ?_⟩
  unfold Machine.arbitrate
  rw [grantSequence_of_none hs]
  split
  · exact ⟨takeTransaction_pli g e, by simpa [takeTransaction_sequence] using hs⟩
  · exact ⟨rfl, hs⟩

theorem Dev.MovesSeg.submit {d e : Dev} {g : Seg} (h : d.MovesSeg e g) (t : Txn) :
    d.MovesSeg (submit g t e).1 g := by
  unfold Machine.submit
  dsimp only
  split
  · exact h
  · exact h
  all_goals exact (h.setSeg _).arbitrate

theorem Dev.MovesSeg.becomeIdle {d e : Dev} {g : Seg} (h : d.MovesSeg e g) : d.MovesSeg (becomeIdle g e) g :=
  (h.setSeg _).arbitrate

theorem Dev.MovesSeg.setMon {d e : Dev} {g : Seg} (h : d.MovesSeg e g) (k : Pack) (x : PackMonitor) :
    d.MovesSeg (e.setMon k x) g := ⟨h.other, h.link⟩

theorem Dev.MovesSeg.refl (d : Dev) (g : Seg) : d.MovesSeg d g := .of_same g rfl rfl

/-- A record of an internal requester stays in the queue that the arbiter acts on. -/
theorem Dev.Queued.arbitrate {d : Dev} {g : Seg} {cls : Nat} {who : Requester} {write : Bool} {address command : Nat}
    {data : List Byte} (h : d.Queued g cls who write address command data) (j : Seg) :
    (arbitrate j d).Queued g cls who write address command data := by
  obtain ⟨t, ht, his⟩ := h
  by_cases hj : g = j
  · subst hj
    obtain ⟨b, hb⟩ := arbitrate_mem ht
    exact ⟨_, hb, his⟩
  · exact ⟨t, by rwa [arbitrate_other hj], his⟩

theorem Dev.Queued.becomeIdle {d : Dev} {g : Seg} {cls : Nat} {who : Requester} {write : Bool} {address command : Nat}
    {data : List Byte} (h : d.Queued g cls who write address command data) (j : Seg) :
    (becomeIdle j d).Queued g cls who write address command data := by
  obtain ⟨t, ht, his⟩ := h
  refine Dev.Queued.arbitrate ⟨t, ?_, his⟩ j
  rw [seg_setSeg_if]
  split
  · rename_i hj
    exact hj ▸ ht
  · exact ht

/-- The records handed to a segment that takes arrivals are in its queue. -/
theorem submit_queued {g : Seg} {d : Dev} (cls : Nat) (who : Requester) (write : Bool) (address command : Nat)
    (data : List Byte) (h : (d.seg g).Takes) :
    (submit g (internalTxn cls who write address command data) d).1.Queued g cls who write address command data := by
  obtain ⟨-, ⟨b, hb⟩, -⟩ := submit_takes (internalTxn cls who write address command data) h
  exact ⟨_, hb, rfl, rfl, rfl, rfl, rfl, rfl, rfl, rfl, rfl⟩

/-! ### An item issued (R48, R55, R57) -/

/-- On a segment that takes arrivals the read of the item stands in the queue. -/
theorem issueItem_takes {k : Pack} {d : Dev} (c : Cycle) (h : (d.seg (segOf k)).Takes) :
    issueItem k c d = { d with
      pkm := d.pkm.set k.ix { d.mon k with cycle := some c, outstanding := true }
      segs := (issueItem k c d).segs, pli := (issueItem k c d).pli } ∧
    d.MovesSeg (issueItem k c d) (segOf k) ∧
    (issueItem k c d).Queued (segOf k) 1 .pkm false (d.mon k).copyAddress
      ((d.mon k).copyCommands.getD c.itemIndex 0) [] := by
  generalize hx : d.setMon k { d.mon k with cycle := some c } = x
  have hx' : (x.seg (segOf k)).Takes := hx ▸ h
  have hm : x.mon k = { d.mon k with cycle := some c } := by rw [← hx, mon_setMon]
  have hq := submit_queued 1 .pkm false (d.mon k).copyAddress ((d.mon k).copyCommands.getD c.itemIndex 0) [] hx'
  have ht : packTxn (x.mon k) c =
    internalTxn 1 .pkm false (d.mon k).copyAddress ((d.mon k).copyCommands.getD c.itemIndex 0) [] := by rw [hm]; rfl
  have he : issueItem k c d = (submit (segOf k) (packTxn (x.mon k) c) x).1.setMon k
      { d.mon k with cycle := some c, outstanding := true } := by
    have hmon : (submit (segOf k) (packTxn (x.mon k) c) x).1.mon k = x.mon k := by simp [Dev.mon]
    unfold issueItem
    dsimp only
    rw [hx, (submit_takes _ hx').1]
    dsimp only
    rw [hmon, hm]
  have hmoves : d.MovesSeg x (segOf k) := hx ▸ (Dev.MovesSeg.refl d (segOf k)).setMon k _
  rw [ht] at he
  refine ⟨Dev.eq_of_blocks ?_, ?_, ?_⟩
  · rw [he, ← hx]
    simp
  · rw [he]
    exact (hmoves.submit _).setMon k _
  · rw [he]
    exact hq

/-- On a HELD segment the read ends the cycle at once (R57). -/
theorem issueItem_held {k : Pack} {d : Dev} (c : Cycle) (h : (d.seg (segOf k)).state = .held) :
    issueItem k c d = d.setMon k (d.mon k).endCycle := by
  unfold issueItem
  dsimp only
  rw [(submit_refused _).1 (by simpa using h)]
  simp [PackMonitor.endCycle]

/-- On a segment in FAULT the read and its retry fail at once (R55). -/
theorem issueItem_fault {k : Pack} {d : Dev} (c : Cycle) (h : (d.seg (segOf k)).state = .fault) :
    issueItem k c d = abortCycle k d := by
  unfold issueItem
  dsimp only
  rw [(submit_refused _).2 (by simpa using h)]
  simp [abortCycle, PackMonitor.endCycle]

/-! ### A cycle aborted (R55) -/

/-- What the PKM holds for a pack whose cycle has aborted, less a loss of contact (R55). -/
def PackMonitor.aborted (m : PackMonitor) : PackMonitor :=
  { m with cycle := none, staged := [], record := { m.record with failures := min 3 (m.record.failures + 1) } }

/-- An abort of a pack with this record is a loss of contact (R56). -/
def PackRecord.Loses (r : PackRecord) : Prop := 2 ≤ r.failures ∧ (r.state = .identifying ∨ r.state = .ready)

theorem abortCycle_counts {k : Pack} {d : Dev} (h : ¬ (d.mon k).record.Loses) :
    abortCycle k d = d.setMon k (d.mon k).aborted := by
  unfold abortCycle
  dsimp only
  rw [if_neg]
  · rfl
  · rintro ⟨hn, hs⟩
    exact h ⟨by simp only [PackMonitor.endCycle] at hn; omega, hs⟩

theorem abortCycle_loses {k : Pack} {d : Dev} (h : (d.mon k).record.Loses) :
    abortCycle k d = enterCommLost k (d.setMon k (d.mon k).aborted) := by
  obtain ⟨hn, hs⟩ := h
  unfold abortCycle
  dsimp only
  rw [if_pos]
  · rfl
  · exact ⟨by simp only [PackMonitor.endCycle]; omega, hs⟩

theorem PackRecord.not_loses {r : PackRecord} (h : r.failures < 2 ∨ (r.state ≠ .identifying ∧ r.state ≠ .ready)) :
    ¬ r.Loses := by
  rintro ⟨hf, hs⟩
  rcases h with h | ⟨h1, h2⟩
  · omega
  · exact hs.elim h1 h2

/-! ### A cycle begun (R48, R53) -/

/-- What the PKM holds for a pack as a cycle begins: the staged sample empty, the cycle copy taken (R48). -/
def Dev.begun (d : Dev) (k : Pack) : PackMonitor :=
  { d.mon k with
    staged := [], copyAddress := d.tst.power.packAddress.get k.ix, copyCommands := d.tst.itemmap }

theorem beginCycle_eq (k : Pack) (kind : CycleKind) (d : Dev) :
    beginCycle k kind d = issueItem k ⟨kind, 0, false⟩ (d.setMon k (d.begun k)) := rfl

/-- The ITEMMAP index of the first item of a cycle (R50). -/
def CycleKind.first : CycleKind → Nat
  | .identify => 8
  | .poll => 0

theorem itemIndex_eq (c : Cycle) : c.itemIndex = c.kind.first + c.item := by
  obtain ⟨kind, item, r⟩ := c
  cases kind <;> simp [Cycle.itemIndex, CycleKind.first]

/-- On a segment that takes arrivals the first read of the cycle stands in the queue. -/
theorem beginCycle_takes {k : Pack} {d : Dev} (kind : CycleKind) (h : (d.seg (segOf k)).Takes) :
    beginCycle k kind d = { d with
      pkm := d.pkm.set k.ix { d.begun k with cycle := some ⟨kind, 0, false⟩, outstanding := true }
      segs := (beginCycle k kind d).segs, pli := (beginCycle k kind d).pli } ∧
    d.MovesSeg (beginCycle k kind d) (segOf k) ∧
    (beginCycle k kind d).Queued (segOf k) 1 .pkm false (d.tst.power.packAddress.get k.ix)
      (d.tst.itemmap.getD kind.first 0) [] := by
  rw [beginCycle_eq]
  obtain ⟨he, hm, hq⟩ := issueItem_takes (d := d.setMon k (d.begun k)) ⟨kind, 0, false⟩ h
  rw [itemIndex_eq] at hq
  simp only [mon_setMon] at hq he
  refine ⟨?_, ((Dev.MovesSeg.refl d _).setMon k _).trans hm, hq⟩
  rw [he]
  simp [setMon_eq]

theorem beginCycle_held {k : Pack} {d : Dev} (kind : CycleKind) (h : (d.seg (segOf k)).state = .held) :
    beginCycle k kind d = d.setMon k { d.begun k with cycle := none } := by
  rw [beginCycle_eq, issueItem_held (d := d.setMon k (d.begun k)) _ h]
  simp [Dev.begun, PackMonitor.endCycle]

theorem beginCycle_fault {k : Pack} {d : Dev} (kind : CycleKind) (h : (d.seg (segOf k)).state = .fault) :
    beginCycle k kind d = abortCycle k (d.setMon k (d.begun k)) := by
  rw [beginCycle_eq, issueItem_fault (d := d.setMon k (d.begun k)) _ h]

end Sys2Proof.Machine

namespace Sys2Proof.Machine

/-! ## A pack that becomes present settled (R46, R48, R51, R55) -/

/-- The three ways in which a segment meets an arrival (R145). -/
theorem Segment.takes_or (sg : Segment) : sg.Takes ∨ sg.state = .held ∨ sg.state = .fault := by
  by_cases hh : sg.state = .held
  · exact .inr (.inl hh)
  · by_cases hf : sg.state = .fault
    · exact .inr (.inr hf)
    · exact .inl ⟨hh, hf⟩

/-- What the PKM holds for a pack that becomes present, before its first read (R46). -/
def Dev.present (d : Dev) (k : Pack) : PackMonitor :=
  { d.mon k with
    presence := Debounce.accept true
    record := { PackRecord.empty with state := .identifying }
    pollTimer := some (Timer.ofMs d.pollInterval) }

/-- The part as a pack becomes present, before its first read (R46). -/
def Dev.arrival (d : Dev) (k : Pack) : Dev :=
  { d with
    pins := { d.pins with presence := d.pins.presence.set k.ix true }
    pkm := d.pkm.set k.ix (d.present k)
    nsu := d.nsu.raise d.tst.settings.noticeMask (.packChange k .identifying) }

theorem arrival_mon (d : Dev) (k : Pack) : (d.arrival k).mon k = d.present k := Pair.get_set_self _ _ _

theorem presenceEvent_eq {k : Pack} {d : Dev} (hf : d.packFitted k = true)
    (ha : (d.mon k).presence.accepted ≠ some true) : presenceEvent k d =
      if (d.mon k).outstanding then d.arrival k else beginCycle k .identify (d.arrival k) := by
  have ho : ((d.arrival k).mon k).outstanding = (d.mon k).outstanding := by rw [arrival_mon]; rfl
  unfold presenceEvent
  rw [if_neg (by simp [hf, ha]), ← ho]
  rfl

/-- Settles O13, by the three ways in which the segment meets the first read. -/
theorem presenceStartsIdentification : Obligations.PresenceStartsIdentification := by
  intro k s hf ha
  refine ⟨presenceEvent k s.dev, rfl, ?_⟩
  have hev := presenceEvent_eq hf ha
  have hm := arrival_mon s.dev k
  cases ho : (s.dev.mon k).outstanding <;> rw [ho] at hev
  case true =>
    rw [hev]
    simp only [if_true, hm]
    exact ⟨rfl, rfl, rfl, rfl, fun _ => ⟨rfl, rfl, rfl⟩, nofun⟩
  case false =>
    have hseg : (s.dev.arrival k).seg (segOf k) = s.dev.seg (segOf k) := rfl
    rw [hev]
    simp only [Bool.false_eq_true, if_false, false_imp_iff, true_and, true_imp_iff]
    rcases (s.dev.seg (segOf k)).takes_or with ht | hh | hx
    · obtain ⟨he, hmoves, hq⟩ := beginCycle_takes (d := s.dev.arrival k) .identify ht
      have hmon : (beginCycle k .identify (s.dev.arrival k)).mon k =
          { (s.dev.arrival k).begun k with cycle := some ⟨.identify, 0, false⟩, outstanding := true } := by
        rw [he]; exact Pair.get_set_self _ _ _
      have hmoves : s.dev.SegmentMoved (beginCycle k .identify (s.dev.arrival k)) (segOf k) :=
        ⟨hmoves.moved.other, hmoves.moved.link⟩
      refine ⟨?_, ?_, ?_, ?_, fun _ => ⟨by rw [hmon], by rw [hmon]; rfl, by rw [hmon], hmoves, hq⟩⟩
      · rw [hmon]
        refine he.trans ?_
        simp [Dev.arrival]
      · rw [hmon, if_neg (by exact ht.2)]
        simp [Dev.begun, hm, Dev.present, PackRecord.empty]
      · rw [hmon]
        simp [Dev.begun, hm, Dev.present, Debounce.accept]
      · rw [hmon]
        simp [Dev.begun, hm, Dev.present]
    · rw [beginCycle_held .identify (hseg ▸ hh)]
      refine ⟨?_, ?_, ?_, ?_, fun ht => absurd hh ht.1⟩
      · simp [setMon_eq, Dev.arrival, Dev.mon]
      all_goals simp [Dev.begun, hm, Dev.present, PackRecord.empty, Debounce.accept, hh]
    · have hn : ¬ (((s.dev.arrival k).setMon k ((s.dev.arrival k).begun k)).mon k).record.Loses := by
        simp [Dev.begun, hm, Dev.present, PackRecord.empty, PackRecord.Loses]
      rw [beginCycle_fault .identify (hseg ▸ hx), abortCycle_counts hn]
      refine ⟨?_, ?_, ?_, ?_, fun ht => absurd hx ht.2⟩
      · simp [setMon_eq, Dev.arrival, Dev.mon]
      all_goals simp [Dev.begun, hm, Dev.present, PackMonitor.aborted, PackRecord.empty, Debounce.accept, hx]

end Sys2Proof.Machine

namespace Sys2Proof.Machine

/-! ## What the part's own requesters hand on

The events of the packs, the CHG and the TFU reach the segments, the link and the notices by three operations: a
transaction handed to a segment, a notice raised, and in SLEEP a change of power state that moves the link.  A
property of those three blocks that each operation keeps is kept by every event. -/

/-- A record as the part's own requesters make it: class 0 to 2, no slot, no member (R143). -/
def Txn.Own (t : Txn) : Prop := t.cls ≠ 3 ∧ t.slot = none ∧ t.member = false ∧ t.inFlight = false

/-- A property of the segments, the PLI and the NSU that a transaction handed on and a notice raised keep. -/
structure HandsOn (P : Dev → Prop) : Prop where
  same : ∀ d e : Dev, e.segs = d.segs → e.pli = d.pli → e.nsu = d.nsu → P d → P e
  submit : ∀ g t d, Txn.Own t → P d → P (submit g t d).1
  raise : ∀ n d, n.cls ∉ [0, 9, 14] → P d → P (raise n d)

/-- A property that BATTERY_CRITICAL raised keeps. -/
def KeepsLow (P : Dev → Prop) : Prop := ∀ x d, P d → P (raise (.batteryCritical x) d)

/-- A property that a change of the link keeps. -/
structure MovesLink (P : Dev → Prop) : Prop where
  low : KeepsLow P
  up : ∀ d, P d → P (linkUp d)
  down : ∀ d, P d → P (linkDown d)

section
variable {P : Dev → Prop} {d : Dev}

theorem HandsOn.ite {a b : Dev} {p : Prop} [Decidable p] (ha : P a) (hb : P b) : P (if p then a else b) := by
  split
  · exact ha
  · exact hb

/-- What leaves the three blocks as they are keeps the property. -/
theorem HandsOn.keep (h : HandsOn P) {e : Dev} (hd : P d) (hs : e.segs = d.segs := by rfl)
    (hp : e.pli = d.pli := by rfl) (hn : e.nsu = d.nsu := by rfl) : P e :=
  h.same d e hs hp hn hd

/-! ### The CHG (R65, R69, R72, R78, R79) -/

theorem HandsOn.issueWrite (h : HandsOn P) (k : Pack) (volt retry : Bool) (hd : P d) :
    P (issueWrite k volt retry d).1 := by
  have hs := h.submit (segOf k) (chargerTxn k volt d) d ⟨by simp [chargerTxn, internalTxn], rfl, rfl, rfl⟩ hd
  unfold Machine.issueWrite passDead
  dsimp only
  split <;> exact h.keep hs

theorem HandsOn.startPass (h : HandsOn P) (k : Pack) (hd : P d) : P (startPass k d).1 := by
  unfold Machine.startPass
  split
  · exact h.issueWrite k _ _ hd
  · exact h.keep hd

theorem HandsOn.endPass (h : HandsOn P) (k : Pack) (hd : P d) : P (endPass k d).1 := by
  unfold Machine.endPass
  dsimp only
  split
  · exact h.issueWrite k _ _ (h.keep hd)
  · exact h.keep hd

theorem HandsOn.stageChange (h : HandsOn P) (k : Pack) (new : Stage) (hd : P d) : P (stageChange k new d) :=
  h.keep (h.raise (.chargeStage k (d.chp k).stage new) (d.setChp k ((d.chp k).enter new))
    (by simp [Notice.cls]) (h.keep hd))

theorem HandsOn.startPasses (h : HandsOn P) (n : Nat) (ks : List Pack) (hd : P d) : P (startPasses n ks d) := by
  induction n generalizing ks d with
  | zero => cases ks <;> exact hd
  | succ n ih =>
    cases ks with
    | nil => exact hd
    | cons k ks =>
      simp only [Machine.startPasses]
      split
      · exact ih _ (h.stageChange k .fault (h.startPass k hd))
      · exact ih _ (h.startPass k hd)

theorem HandsOn.allocateAndWrite (h : HandsOn P) (hd : P d) : P (allocateAndWrite d) :=
  h.startPasses 8 _ (h.keep (e := allocate d) hd)

theorem HandsOn.changeStage (h : HandsOn P) (k : Pack) (new : Stage) (hd : P d) : P (changeStage k new d) :=
  h.startPasses 8 _ (h.stageChange k new hd)

theorem HandsOn.settlePass (h : HandsOn P) (k : Pack) {r : Dev × Bool} (hr : P r.1) : P (settlePass k r) := by
  unfold Machine.settlePass
  split
  · exact h.startPasses 8 _ (h.stageChange k .fault hr)
  · exact hr

theorem HandsOn.chargerCompleted (h : HandsOn P) (k : Pack) (c : Completion) (hd : P d) :
    P (chargerCompleted k c d) := by
  unfold Machine.chargerCompleted
  dsimp only
  split
  · split
    · exact h.settlePass k (h.endPass k hd)
    · exact h.settlePass k (h.issueWrite k _ _ hd)
  · exact h.keep hd
  all_goals
    split
    · exact h.settlePass k (h.issueWrite k _ _ hd)
    · split
      · exact h.settlePass k (h.keep hd)
      · exact h.settlePass k (h.endPass k hd)

theorem HandsOn.inputFailed (h : HandsOn P) (hd : P d) : P (inputFailed d) :=
  h.allocateAndWrite (h.keep hd)

theorem HandsOn.inputCompleted (h : HandsOn P) (c : Completion) (hd : P d) : P (inputCompleted c d) := by
  unfold Machine.inputCompleted
  split
  · have hs := h.submit .seg0 (inputTxn d.tst.power.cmdSystemCurrent d) d ⟨by simp [inputTxn, internalTxn], rfl, rfl, rfl⟩ hd
    unfold issueInput
    dsimp only
    split
    · exact h.keep hs
    · exact h.inputFailed hs
  · exact h.allocateAndWrite (h.keep hd)
  · exact hd
  · exact hd
  · exact h.inputFailed hd

theorem HandsOn.sampleComplete (h : HandsOn P) (k : Pack) (hd : P d) : P (sampleComplete k d) :=
  h.allocateAndWrite (HandsOn.ite (h.keep hd) (h.changeStage k _ (h.keep hd)))

theorem HandsOn.packGone (h : HandsOn P) (k : Pack) (removal : Bool) (hd : P d) : P (packGone k removal d) :=
  h.startPasses 8 _ (HandsOn.ite (h.keep hd) (h.stageChange k _ hd))

/-! ### The TFU (R77, R92, R94, R95) -/

theorem HandsOn.evalZone (h : HandsOn P) (hd : P d) : P (evalZone d) := by
  unfold Machine.evalZone zoneChange
  dsimp only
  refine HandsOn.ite hd (h.raise _ _ (by simp [Notice.cls]) (h.startPasses 8 _ ?_))
  split <;> exact h.keep hd

theorem HandsOn.raiseCritical (h : HandsOn P) (hd : P d) : P (raiseCritical d) :=
  h.raise _ _ (by simp [Notice.cls]) hd

/-! ### Changes of power state (R116 to R126, R132) -/

theorem HandsOn.offRecovery (h : HandsOn P) (f : Fan) (hd : P d) : P (offRecovery f d) := by
  unfold Machine.offRecovery fanStateChange
  exact HandsOn.ite (h.allocateAndWrite (h.raise _ _ (by simp [Notice.cls]) (h.keep hd))) hd

theorem HandsOn.powerTo (h : HandsOn P) (hl : MovesLink P) (st : PowerState) (hd : P d) : P (powerTo st d) := by
  have hc : P (chargeTold st d) := by
    have hw : P (watchCompute (retimeAllocation (retimePolls (mseRetime (d.setPpu { d.ppu with
        power := st, transition := d.transitionFor st }))))) := h.keep hd
    unfold chargeTold chgPower
    dsimp only
    refine HandsOn.ite (HandsOn.ite ?_ hw) (h.keep hw)
    exact h.keep (hl.low _ _ hw)
  have hh : P (heatPower (chargeTold st d)) := by
    have hm : P (computeCritical (hostPower (chargeTold st d))) := h.keep hc
    unfold heatPower criticalPower
    dsimp only
    refine HandsOn.ite (HandsOn.ite ?_ hm) (h.keep hm)
    exact h.keep (h.raiseCritical hm)
  have hb : P (blocksTold st d) := by
    unfold blocksTold
    rw [tfuPower_eq]
    refine HandsOn.ite (h.offRecovery .fan2 (h.offRecovery .fan1 (h.keep hh ?_ ?_ ?_))) hh <;> simp
  rw [powerTo_eq]
  exact HandsOn.ite (hl.up _ hb) (HandsOn.ite (hl.down _ hb) hb)

theorem HandsOn.riseUp (h : HandsOn P) (hl : MovesLink P) (hd : P d) : P (riseUp d) :=
  HandsOn.ite (h.powerTo hl .on (h.powerTo hl .poweringUp hd)) (h.powerTo hl .poweringUp hd)

theorem HandsOn.reachOff (h : HandsOn P) (hl : MovesLink P) (hd : P d) : P (reachOff d) :=
  HandsOn.ite (h.keep (h.powerTo hl .off hd)) (h.powerTo hl .off hd)

theorem HandsOn.forcedOff (h : HandsOn P) (hl : MovesLink P) (c : Cause) (hd : P d) : P (forcedOff c d) := by
  have hdown (x : Dev) (hx : P x) : P (powerDown c x) := by
    have hp : P (Machine.powerTo .poweringDown (handCause c (x.setPpu { x.ppu with cause := c, wakeLatch := false }))) :=
      h.powerTo hl .poweringDown (h.keep hx)
    exact HandsOn.ite hp (h.reachOff hl hp)
  unfold Machine.forcedOff
  split
  case h_5 | h_6 => exact HandsOn.ite (h.keep hd) hd
  all_goals exact hdown _ (h.keep hd)

theorem HandsOn.offerWake (h : HandsOn P) (hl : MovesLink P) (w : WakeSource) (hd : P d) : P (offerWake w d) := by
  unfold Machine.offerWake
  split
  · exact HandsOn.ite (h.keep hd) hd
  · exact HandsOn.ite (h.riseUp hl (h.keep hd)) hd
  · exact HandsOn.ite (h.riseUp hl (h.keep hd)) hd
  all_goals exact hd

/-! ### The two watches (R82, R83, R96 to R98) -/

theorem HandsOn.batteryWatch (h : HandsOn P) (hn : KeepsLow P) (hl : d.ppu.power = .sleep → MovesLink P) (hd : P d) :
    P (batteryWatch d) := by
  have hw : P (watchCompute d) := h.keep hd
  unfold Machine.batteryWatch
  dsimp only
  split
  · refine HandsOn.ite (h.keep hw) (HandsOn.ite hw ?_)
    exact h.keep (hn _ _ hw)
  · rename_i hs
    have hs := hl hs
    have ho : P (if (watchCompute d).chg.lowMark && !d.chg.lowMark then Machine.offerWake .batteryCritical
        (Machine.raise (.batteryCritical ((watchCompute d).chg.systemSoc.getD 0)) (watchCompute d))
      else watchCompute d) :=
      HandsOn.ite (h.offerWake hs _ (hn _ _ hw)) hw
    exact HandsOn.ite (h.forcedOff hs _ ho) ho
  all_goals exact hw

theorem HandsOn.criticalWatch (h : HandsOn P) (hl : d.ppu.power = .sleep → MovesLink P) (hd : P d) :
    P (criticalWatch d) := by
  have hw : P (computeCritical d) := h.keep hd
  unfold Machine.criticalWatch
  dsimp only
  split
  · refine HandsOn.ite (h.keep hw) (HandsOn.ite hw ?_)
    exact h.keep (h.raiseCritical hw)
  · exact HandsOn.ite (h.forcedOff (hl ‹_›) _ (h.raiseCritical hw)) hw
  all_goals exact hw

end
end Sys2Proof.Machine

namespace Sys2Proof.Machine

/-! ## The segments while the part's own requesters work (R145, R146, R159) -/

/-- The completion with which a segment in a state refuses an arrival, if it does (R145). -/
def SegState.refusal : SegState → Option Completion
  | .held => some .segReset
  | .fault => some .segFault
  | .idle | .busy | .recovering => none

theorem takes_iff_refusal (sg : Segment) : sg.Takes ↔ sg.state.refusal = none := by
  unfold Segment.Takes
  cases sg.state <;> simp [SegState.refusal]

theorem refusal_eq_held {st : SegState} : st.refusal = some .segReset ↔ st = .held := by
  cases st <;> simp [SegState.refusal]

theorem refusal_eq_fault {st : SegState} : st.refusal = some .segFault ↔ st = .fault := by
  cases st <;> simp [SegState.refusal]

theorem submit_snd (g : Seg) (t : Txn) (d : Dev) : (submit g t d).2 = (d.seg g).state.refusal := by
  cases hs : (d.seg g).state <;> simp [submit, hs, SegState.refusal]

theorem arbitrate_refusal (g j : Seg) (d : Dev) :
    ((arbitrate g d).seg j).state.refusal = (d.seg j).state.refusal := by
  by_cases hi : (d.seg g).state = .idle
  · rcases arbitrate_state g j d with hs | hs <;> rw [hs]
    by_cases hj : j = g
    · rw [hj, hi]; rfl
    · rw [← hs, arbitrate_other hj]
  · rw [arbitrate, if_neg hi]

theorem submit_refusal (g j : Seg) (t : Txn) (d : Dev) :
    ((submit g t d).1.seg j).state.refusal = (d.seg j).state.refusal := by
  unfold submit
  dsimp only
  split
  · rfl
  · rfl
  all_goals
    rw [arbitrate_refusal, seg_setSeg_if]
    split
    · rename_i hj; rw [← hj]
    · rfl

/-- The segments have gone on: each refuses arrivals as before, and what internal requesters had queued is queued. -/
structure Dev.Serves (d e : Dev) : Prop where
  refusal : ∀ g, (e.seg g).state.refusal = (d.seg g).state.refusal
  queued : ∀ g cls who write address command data, d.Queued g cls who write address command data →
    e.Queued g cls who write address command data

theorem Dev.Serves.trans {d e f : Dev} (h : d.Serves e) (k : e.Serves f) : d.Serves f :=
  ⟨fun g => (k.refusal g).trans (h.refusal g), fun _ _ _ _ _ _ _ q => k.queued _ _ _ _ _ _ _ (h.queued _ _ _ _ _ _ _ q)⟩

theorem Dev.Serves.of_segs {d e : Dev} (h : e.segs = d.segs) : d.Serves e := by
  have hseg (g : Seg) : e.seg g = d.seg g := by simp [Dev.seg, h]
  exact ⟨fun g => by rw [hseg], fun _ _ _ _ _ _ _ ⟨t, ht, hi⟩ => ⟨t, by rwa [hseg], hi⟩⟩

theorem Dev.Serves.refl (d : Dev) : d.Serves d := .of_segs rfl

/-- Records appended to a queue, and the arbiter's act, leave what was queued. -/
theorem submit_serves (g : Seg) (t : Txn) (d : Dev) : d.Serves (submit g t d).1 := by
  refine ⟨fun j => submit_refusal g j t d, fun j cls who write a c data h => ?_⟩
  unfold submit
  dsimp only
  split
  · exact h
  · exact h
  all_goals
    obtain ⟨u, hu, hi⟩ := h
    refine Dev.Queued.arbitrate ⟨u, ?_, hi⟩ g
    rw [seg_setSeg_if]
    split
    · rename_i hj
      exact List.mem_append_left _ (hj ▸ hu)
    · exact hu

/-- A link DOWN releases slots and members, which no internal requester's record has (R151, R159). -/
theorem segLinkDown_serves (g : Seg) (d : Dev) : d.Serves (segLinkDown g d) := by
  refine ⟨fun j => ?_, fun j cls who write a c data ⟨u, hu, hi⟩ => Dev.Queued.arbitrate ⟨u.released, ?_, ?_⟩ g⟩
  · unfold segLinkDown
    rw [arbitrate_refusal, seg_setSeg_if]
    split
    · rename_i hj; rw [← hj]
    · rfl
  · rw [seg_setSeg_if]
    split
    · rename_i hj
      refine List.mem_map.mpr ⟨{ u with member := false }, List.mem_map_of_mem (hj ▸ hu), rfl⟩
    · obtain ⟨-, -, -, -, -, -, -, hs, hm⟩ := hi
      have hr : u.released = u := by cases u; simp_all [Txn.released]
      rwa [hr]
  · obtain ⟨h1, h2, h3, h4, h5, h6, h7, -, -⟩ := hi
    exact ⟨h1, h2, h3, h4, h5, h6, h7, rfl, rfl⟩

theorem linkDown_serves (d : Dev) : d.Serves (linkDown d) :=
  (((Dev.Serves.of_segs (d := d) (e := linkEmptied d) rfl).trans (segLinkDown_serves .seg0 _)).trans
    (segLinkDown_serves .seg1 _)).trans (.of_segs (by rw [linkDown_eq]; simp [segsFallen]))

theorem serves_handsOn (d : Dev) : HandsOn d.Serves where
  same _ _ hs _ _ h := h.trans (.of_segs hs)
  submit g t e _ h := h.trans (submit_serves g t e)
  raise _ _ _ h := h.trans (.of_segs (by simp))

theorem serves_keepsLow (d : Dev) : KeepsLow d.Serves := fun _ _ h => h.trans (.of_segs (by simp))

theorem serves_movesLink (d : Dev) : MovesLink d.Serves where
  low := serves_keepsLow d
  up _ h := h.trans (.of_segs (by simp))
  down _ h := h.trans (linkDown_serves _)

theorem batteryWatch_serves (d : Dev) : d.Serves (batteryWatch d) :=
  (serves_handsOn d).batteryWatch (serves_keepsLow d) (fun _ => serves_movesLink d) (.refl d)

/-! ## A pack that gets no current (R65, R69, R74, R77) -/

/-- A pack has no commanded values and no demand: its stage draws no current, its segment is HELD, or the skin zone
is 3. -/
structure Dev.Unfed (d : Dev) (k : Pack) : Prop where
  cause : (d.chp k).stage.charging = false ∨ (d.seg (segOf k)).state.refusal = some .segReset ∨ d.tfu.zone = 3
  current : (d.chp k).current = 0
  voltage : (d.chp k).voltage = 0

theorem Dev.Unfed.demand {d : Dev} {k : Pack} (h : d.Unfed k) : d.demand k = 0 := by
  have hb : d.baseDemand k * zoneFactor d.tst.power d.tfu.zone / 100 = 0 := by
    rcases h.cause with hs | hh | hz
    · have he : d.eligible k = false := by simp [Dev.eligible, hs]
      unfold Dev.baseDemand
      split <;> simp [he]
    · have he : d.eligible k = false := by simp [Dev.eligible, refusal_eq_held.mp hh]
      unfold Dev.baseDemand
      split <;> simp [he]
    · simp [hz, zoneFactor]
  simp [Dev.demand, hb]

/-- An allocation leaves such a pack as it is (R76). -/
theorem Dev.Unfed.allocated {d : Dev} {k : Pack} (h : d.Unfed k) (granted : Nat) : d.allocated k granted = d.chp k := by
  have hi : d.newCurrent k granted = 0 := by
    simp [Dev.newCurrent, slewed, grantCurrent, h.demand, h.current]
  unfold Dev.allocated
  rw [hi]
  have hc := h.current
  have hv := h.voltage
  cases hx : d.chp k
  simp_all [ChargePack.command, commandedVoltage]

theorem Dev.Unfed.allocate_chp {d : Dev} {k : Pack} (h : d.Unfed k) : (allocate d).chp k = d.chp k := by
  cases k
  · exact h.allocated _
  · exact h.allocated _

/-- Nothing has moved a pack that gets no current. -/
structure Dev.LeavesUnfed (d e : Dev) (k : Pack) : Prop where
  chp : e.chp k = d.chp k
  cause : e.Unfed k

theorem Dev.Unfed.leaves {d : Dev} {k : Pack} (h : d.Unfed k) : d.LeavesUnfed d k := ⟨rfl, h⟩

section
variable {d e : Dev} {k : Pack}

/-- What the pack's state of charge is read from has not moved. -/
theorem Dev.LeavesUnfed.same (h : d.LeavesUnfed e k) {f : Dev} (hc : f.chp k = e.chp k)
    (hs : ∀ g, (f.seg g).state.refusal = (e.seg g).state.refusal) (hz : f.tfu.zone = e.tfu.zone) :
    d.LeavesUnfed f k := by
  obtain ⟨hchp, ⟨hcause, hcur, hvolt⟩⟩ := h
  exact ⟨hc.trans hchp, ⟨by rw [hc, hs, hz]; exact hcause, by rw [hc, hcur], by rw [hc, hvolt]⟩⟩

theorem Dev.LeavesUnfed.allocate (h : d.LeavesUnfed e k) : d.LeavesUnfed (allocate e) k :=
  h.same h.cause.allocate_chp (fun _ => rfl) rfl

theorem Dev.LeavesUnfed.startPass (h : d.LeavesUnfed e k) {j : Pack} (hj : j ≠ k) :
    d.LeavesUnfed (startPass j e).1 k := by
  refine h.same ?_ (fun g => ?_) (by simp)
  · have hs (t : Txn) (x : ChargePack) : ((submit (segOf j) t e).1.setChp j x).chp k = e.chp k := by
      rw [chp_setChp_if, if_neg hj]
      simp [Dev.chp]
    unfold Machine.startPass issueWrite passDead setWriter setAgain
    dsimp only
    split
    · split
      · exact hs _ _
      · exact hs _ _
      · simp only [chp_setChp, setChp_setChp]
        exact hs _ _
    · rw [chp_setChp_if, if_neg hj]
  · exact (serves_handsOn e).startPass j (.refl e) |>.refusal g

theorem Dev.LeavesUnfed.stageChange (h : d.LeavesUnfed e k) {j : Pack} (hj : j ≠ k) (new : Stage) :
    d.LeavesUnfed (stageChange j new e) k := by
  refine Dev.LeavesUnfed.allocate (h.same ?_ (fun _ => rfl) rfl)
  show (e.setChp j ((e.chp j).enter new)).chp k = _
  rw [chp_setChp_if, if_neg hj]

/-- A pack whose commanded values have not moved is not among the changed ones. -/
theorem not_mem_changedPacks {before after : Dev} (h : after.chp k = before.chp k) : k ∉ changedPacks before after := by
  simp [changedPacks, h]

theorem Dev.LeavesUnfed.startPasses (h : d.LeavesUnfed e k) (n : Nat) {ks : List Pack} (hk : k ∉ ks) :
    d.LeavesUnfed (startPasses n ks e) k := by
  induction n generalizing ks e with
  | zero => cases ks <;> exact h
  | succ n ih =>
    cases ks with
    | nil => exact h
    | cons j ks =>
      obtain ⟨hj, hks⟩ := not_or.mp (mt List.mem_cons.mpr hk)
      have hp := h.startPass (Ne.symm hj)
      have hf := hp.stageChange (Ne.symm hj) .fault
      simp only [Machine.startPasses]
      split
      · refine ih hf ?_
        simp only [faultPack, List.mem_append, List.mem_cons, List.mem_filter, not_or, not_and]
        exact ⟨hks, hj, fun hm => absurd hm (not_mem_changedPacks (hf.chp.trans hp.chp.symm))⟩
      · exact ih hp hks

theorem Dev.LeavesUnfed.allocateAndWrite (h : d.LeavesUnfed e k) : d.LeavesUnfed (allocateAndWrite e) k :=
  h.allocate.startPasses 8 (not_mem_changedPacks h.cause.allocate_chp)

end
end Sys2Proof.Machine

namespace Sys2Proof.Machine

/-! ### A write pass begun (R78, R79, R145) -/

theorem submit_chp (g : Seg) (t : Txn) (d : Dev) (k : Pack) : (submit g t d).1.chp k = d.chp k := by simp [Dev.chp]

theorem raise_chp (n : Notice) (d : Dev) (k : Pack) : (raise n d).chp k = d.chp k := rfl

theorem issueWrite_takes {k : Pack} {d : Dev} (volt retry : Bool) (h : (d.seg (segOf k)).Takes) :
    issueWrite k volt retry d = (setWriter k (if volt then .writingVoltage else .writingCurrent) retry
      (submit (segOf k) (chargerTxn k volt d) d).1, false) := by
  unfold issueWrite
  dsimp only
  rw [(submit_takes _ h).1]

theorem issueWrite_held {k : Pack} {d : Dev} (volt retry : Bool) (h : (d.seg (segOf k)).state = .held) :
    issueWrite k volt retry d = (setWriter k .idle false d, false) := by
  unfold issueWrite
  dsimp only
  rw [(submit_refused _).1 h]

theorem issueWrite_fault {k : Pack} {d : Dev} (volt retry : Bool) (h : (d.seg (segOf k)).state = .fault) :
    issueWrite k volt retry d = passDead k d := by
  unfold issueWrite
  dsimp only
  rw [(submit_refused _).2 h]

/-- What a write pass leaves of its pack: the stage, the count, the time and the commanded values (R78, R79). -/
theorem issueWrite_chp (k : Pack) (volt retry : Bool) (d : Dev) :
    (issueWrite k volt retry d).1.chp k = { d.chp k with
      writer := ((issueWrite k volt retry d).1.chp k).writer
      retryUsed := ((issueWrite k volt retry d).1.chp k).retryUsed
      again := ((issueWrite k volt retry d).1.chp k).again } := by
  rcases (d.seg (segOf k)).takes_or with h | h | h
  · simp [issueWrite_takes volt retry h, setWriter, submit_chp]
  · simp [issueWrite_held volt retry h, setWriter]
  · simp [issueWrite_fault volt retry h, passDead, setWriter, setAgain]

theorem startPass_chp (k : Pack) (d : Dev) : (startPass k d).1.chp k = { d.chp k with
    writer := ((startPass k d).1.chp k).writer
    retryUsed := ((startPass k d).1.chp k).retryUsed
    again := ((startPass k d).1.chp k).again } := by
  unfold startPass
  split
  · exact issueWrite_chp k _ _ d
  · simp [setAgain]

/-- A pass of a pack that does not fault ends without FAULT (R79). -/
theorem startPass_spares {k : Pack} {d : Dev} (h : d.faultsPack k = false) : (startPass k d).2 = false := by
  unfold startPass
  split
  · rcases (d.seg (segOf k)).takes_or with hs | hs | hs
    · rw [issueWrite_takes _ _ hs]
    · rw [issueWrite_held _ _ hs]
    · rw [issueWrite_fault _ _ hs]
      exact h
  · rfl

/-- The start of a pass for a pack with commanded values 0 is the zero write (R69, R78). -/
theorem startPass_zeroWrites {k : Pack} {d : Dev} (h : (d.chp k).current = 0) :
    d.ZeroWrites (startPass k d).1 k := by
  refine ⟨fun hw ht => ?_, fun hw ht => ?_, fun hw => ?_⟩
  · have hq := submit_queued 0 .charger true (d.tst.power.chargerAddress.get k.ix) d.tst.power.cmdCurrent [0, 0] ht
    have htxn : chargerTxn k false d = internalTxn 0 .charger true (d.tst.power.chargerAddress.get k.ix)
        d.tst.power.cmdCurrent [0, 0] := by
      simp [chargerTxn, h, leBytes]
    rw [startPass, if_pos hw, issueWrite_takes _ _ ht, htxn]
    exact ⟨by simp [setWriter], by simp [setWriter], hq⟩
  · rcases (d.seg (segOf k)).takes_or with hs | hs | hs
    · exact absurd hs ht
    · rw [startPass, if_pos hw, issueWrite_held _ _ hs]
      simp [setWriter]
    · rw [startPass, if_pos hw, issueWrite_fault _ _ hs]
      simp [passDead, setWriter, setAgain]
  · rw [startPass, if_neg hw]
    simp [setAgain]

/-! ### A pack that gets no current, through a change of power state (R99, R105, R116) -/

section
variable {d e : Dev} {k : Pack}

theorem Dev.LeavesUnfed.keep (h : d.LeavesUnfed e k) {f : Dev} (hc : f.chg.packs = e.chg.packs := by rfl)
    (hs : f.segs = e.segs := by rfl) (hz : f.tfu.zone = e.tfu.zone := by rfl) : d.LeavesUnfed f k :=
  h.same (by simp [Dev.chp, hc]) (fun _ => by simp [Dev.seg, hs]) hz

theorem Dev.LeavesUnfed.ite {a b : Dev} {p : Prop} [Decidable p] (ha : d.LeavesUnfed a k)
    (hb : d.LeavesUnfed b k) : d.LeavesUnfed (if p then a else b) k := by
  split
  · exact ha
  · exact hb

theorem Dev.LeavesUnfed.offRecovery (h : d.LeavesUnfed e k) (f : Fan) : d.LeavesUnfed (offRecovery f e) k := by
  unfold Machine.offRecovery fanStateChange
  split
  · exact Dev.LeavesUnfed.allocateAndWrite (h.keep)
  · exact h

theorem setFittedDuty_zone (f : Fan) (v : Nat) (d : Dev) : (setFittedDuty f v d).tfu.zone = d.tfu.zone := by
  unfold setFittedDuty setDuty markLowDuty
  split <;> rfl

theorem heatPower_blocks (d : Dev) : (heatPower d).chg = d.chg ∧ (heatPower d).segs = d.segs := by simp [heatPower]

theorem Dev.LeavesUnfed.tfuPower (h : d.LeavesUnfed e k) : d.LeavesUnfed (tfuPower e) k := by
  obtain ⟨hc, hs⟩ := heatPower_blocks e
  have hh : d.LeavesUnfed (heatPower e) k := h.keep (by rw [hc]) hs (by rw [heatPower_tfu])
  rw [tfuPower_eq]
  split
  · have hd : d.LeavesUnfed (dutiesOff (heatPower e)) k :=
      hh.keep (by rw [(dutiesOff_frame _).2.1]) (by simp [dutiesOff])
        (by rw [dutiesOff, setFittedDuty_zone, setFittedDuty_zone])
    rw [fansOff_eq]
    exact (hd.offRecovery .fan1).offRecovery .fan2
  · exact hh

theorem Dev.LeavesUnfed.powerTo (h : d.LeavesUnfed e k) (st : PowerState) : d.LeavesUnfed (powerTo st e) k := by
  have hc : d.LeavesUnfed (chargeTold st e) k :=
    h.keep (by rw [chargeTold_chg]) (by simp [chargeTold]) (by rw [(chargeTold_frame st e).1])
  have hb : d.LeavesUnfed (blocksTold st e) k := hc.tfuPower
  have hr : (blocksTold st e).Serves (relink (blocksTold st e)) :=
    HandsOn.ite ((serves_movesLink _).up _ (.refl _)) (HandsOn.ite ((serves_movesLink _).down _ (.refl _)) (.refl _))
  rw [powerTo_eq]
  exact hb.same (by simp [Dev.chp]) hr.refusal (by simp)

theorem Dev.LeavesUnfed.riseUp (h : d.LeavesUnfed e k) : d.LeavesUnfed (riseUp e) k := by
  rw [riseUp_eq]
  exact Dev.LeavesUnfed.ite ((h.powerTo _).powerTo _) (h.powerTo _)

theorem Dev.LeavesUnfed.reachOff (h : d.LeavesUnfed e k) : d.LeavesUnfed (reachOff e) k :=
  Dev.LeavesUnfed.ite ((h.powerTo .off).keep) (h.powerTo .off)

theorem Dev.LeavesUnfed.powerDown (h : d.LeavesUnfed e k) (c : Cause) : d.LeavesUnfed (powerDown c e) k := by
  have hp : d.LeavesUnfed (Machine.powerTo .poweringDown (handCause c (e.setPpu { e.ppu with
      cause := c, wakeLatch := false }))) k := Dev.LeavesUnfed.powerTo (h.keep) _
  exact Dev.LeavesUnfed.ite hp hp.reachOff

theorem Dev.LeavesUnfed.forcedOff (h : d.LeavesUnfed e k) (c : Cause) : d.LeavesUnfed (forcedOff c e) k := by
  unfold Machine.forcedOff
  split
  case h_5 | h_6 => exact Dev.LeavesUnfed.ite (h.keep) h
  all_goals exact Dev.LeavesUnfed.powerDown (h.keep) c

theorem Dev.LeavesUnfed.offerWake (h : d.LeavesUnfed e k) (w : WakeSource) : d.LeavesUnfed (offerWake w e) k := by
  unfold Machine.offerWake
  split
  · exact Dev.LeavesUnfed.ite (h.keep) h
  · exact Dev.LeavesUnfed.ite (Dev.LeavesUnfed.riseUp (h.keep)) h
  · exact Dev.LeavesUnfed.ite (Dev.LeavesUnfed.riseUp (h.keep)) h
  all_goals exact h

theorem Dev.LeavesUnfed.batteryWatch (h : d.LeavesUnfed e k) : d.LeavesUnfed (batteryWatch e) k := by
  have hw : d.LeavesUnfed (watchCompute e) k := h.keep
  unfold Machine.batteryWatch
  dsimp only
  split
  · exact Dev.LeavesUnfed.ite (hw.keep) (Dev.LeavesUnfed.ite hw (hw.keep))
  · have ho : d.LeavesUnfed (if (watchCompute e).chg.lowMark && !e.chg.lowMark then
        Machine.offerWake .batteryCritical (Machine.raise (.batteryCritical ((watchCompute e).chg.systemSoc.getD 0))
          (watchCompute e)) else watchCompute e) k :=
      Dev.LeavesUnfed.ite (Dev.LeavesUnfed.offerWake (hw.keep) _) hw
    exact Dev.LeavesUnfed.ite (ho.forcedOff _) ho
  all_goals exact hw

end

/-! ### A pack lost, and a removal (R69) -/

/-- The stage that a pack lost and a removal leave (R69). -/
def Stage.gone (st : Stage) (removal : Bool) : Stage := if st = .fault && !removal then .fault else .none

/-- The part after the stage and the commanded values of a pack are gone, before the write passes (R69). -/
def goneStage (k : Pack) (removal : Bool) (d : Dev) : Dev :=
  if (d.chp k).stage.gone removal = (d.chp k).stage then d.setChp k ((d.chp k).command 0 0)
  else stageChange k ((d.chp k).stage.gone removal) d

theorem packGone_eq (k : Pack) (removal : Bool) (d : Dev) : packGone k removal d =
    startPasses 8 (k :: (changedPacks d (goneStage k removal d)).filter (· != k)) (goneStage k removal d) := rfl

theorem gone_not_charging (st : Stage) (removal : Bool) : (st.gone removal).charging = false := by
  unfold Stage.gone
  split <;> rfl

/-- A stage change to one that draws no current takes the commanded values away, and its allocation leaves them. -/
theorem stageChange_unfed {k : Pack} {new : Stage} (d : Dev) (h : new.charging = false) :
    (stageChange k new d).Unfed k ∧ (stageChange k new d).chp k = (d.chp k).enter new := by
  have hu : (Machine.raise (.chargeStage k (d.chp k).stage new) (d.setChp k ((d.chp k).enter new))).Unfed k := by
    refine ⟨.inl ?_, ?_, ?_⟩ <;> rw [raise_chp] <;> simp [ChargePack.enter, h]
  have hc : (stageChange k new d).chp k = (d.chp k).enter new := by
    rw [show stageChange k new d = allocate _ from rfl, hu.allocate_chp, raise_chp, chp_setChp]
  exact ⟨(hu.leaves.allocate).cause, hc⟩

theorem goneStage_unfed (k : Pack) (removal : Bool) (d : Dev) : (goneStage k removal d).Unfed k ∧
    ((goneStage k removal d).chp k).stage = (d.chp k).stage.gone removal ∧
    ((goneStage k removal d).chp k).writer = (d.chp k).writer := by
  have hg := gone_not_charging (d.chp k).stage removal
  unfold goneStage
  split
  · rename_i hs
    rw [hs] at hg
    exact ⟨⟨.inl (by simpa [ChargePack.command] using hg), by simp [ChargePack.command], by simp [ChargePack.command]⟩,
      by simp [ChargePack.command, hs], by simp [ChargePack.command]⟩
  · obtain ⟨hu, hc⟩ := stageChange_unfed (k := k) d hg
    exact ⟨hu, by rw [hc]; rfl, by rw [hc]; rfl⟩

theorem goneStage_blocks (k : Pack) (removal : Bool) (d : Dev) : (goneStage k removal d).segs = d.segs ∧
    (goneStage k removal d).tst = d.tst ∧ (goneStage k removal d).pkm = d.pkm := by
  unfold goneStage
  split <;> simp [stageChange]

/-- What a pack lost and a removal make of the pack at the CHG, at the end of their passes (R69, R78). -/
structure Dev.GoesUnfed (d e : Dev) (k : Pack) (removal : Bool) : Prop where
  stage : (e.chp k).stage = (d.chp k).stage.gone removal
  unfed : e.Unfed k
  write : d.ZeroWrites e k

/-- What leaves the pack as it is and the segments serving leaves the zero write. -/
theorem Dev.GoesUnfed.after {d e f : Dev} {k : Pack} {removal : Bool} (h : d.GoesUnfed e k removal)
    (hl : e.LeavesUnfed f k) (hs : e.Serves f) : d.GoesUnfed f k removal := by
  obtain ⟨hbegin, hend, hwait⟩ := h.write
  refine ⟨by rw [hl.chp]; exact h.stage, hl.cause, ⟨fun hw ht => ?_, ?_, ?_⟩⟩
  · obtain ⟨h1, h2, h3⟩ := hbegin hw ht
    exact ⟨by rw [hl.chp, h1], by rw [hl.chp, h2], hs.queued _ _ _ _ _ _ _ h3⟩
  · rw [hl.chp]; exact hend
  · rw [hl.chp]; exact hwait

theorem Dev.GoesUnfed.of_before {d e f : Dev} {k : Pack} {removal : Bool} (h : e.GoesUnfed f k removal)
    (hc : e.chp k = d.chp k) (hs : (e.seg (segOf k)).Takes ↔ (d.seg (segOf k)).Takes) (ht : e.tst = d.tst) :
    d.GoesUnfed f k removal := by
  obtain ⟨hstage, hunfed, hbegin, hend, hwait⟩ := h
  rw [hc] at hstage hbegin hend hwait
  rw [hs, ht] at hbegin
  rw [hs] at hend
  exact ⟨hstage, hunfed, hbegin, hend, hwait⟩

theorem packGone_goesUnfed (k : Pack) (removal : Bool) {d : Dev} (h : (d.mon k).record.state ≠ .ready) :
    d.GoesUnfed (packGone k removal d) k removal := by
  obtain ⟨hu, hst, hw⟩ := goneStage_unfed k removal d
  obtain ⟨hsegs, htst, hpkm⟩ := goneStage_blocks k removal d
  rw [packGone_eq]
  generalize goneStage k removal d = x at *
  generalize hks : (changedPacks d x).filter (· != k) = ks
  have hk : k ∉ ks := by simp [← hks]
  have hseg (g : Seg) : x.seg g = d.seg g := by simp [Dev.seg, hsegs]
  have hspare : x.faultsPack k = false := by
    have hm : x.mon k = d.mon k := by simp [Dev.mon, hpkm]
    simp [Dev.faultsPack, hm, h]
  have hstart : startPasses 8 (k :: ks) x = startPasses 7 ks (startPass k x).1 := by
    simp [startPasses, startPass_spares hspare]
  have hchp := startPass_chp k x
  have hu1 : (startPass k x).1.Unfed k := by
    refine ⟨.inl ?_, by rw [hchp]; exact hu.current, by rw [hchp]; exact hu.voltage⟩
    rw [hchp]
    show (x.chp k).stage.charging = false
    rw [hst]
    exact gone_not_charging _ _
  have hpass : d.GoesUnfed (startPass k x).1 k removal := by
    obtain ⟨hbegin, hend, hwait⟩ := startPass_zeroWrites hu.current
    rw [hw] at hbegin hend hwait
    rw [hseg, htst] at hbegin
    rw [hseg] at hend
    exact ⟨by rw [hchp]; exact hst, hu1, hbegin, hend, hwait⟩
  rw [hstart]
  exact hpass.after (hu1.leaves.startPasses 7 hk) ((serves_handsOn _).startPasses 7 ks (.refl _))

/-- A pack that gets no current stays so through the battery watch. -/
theorem Dev.GoesUnfed.batteryWatch {d e : Dev} {k : Pack} {removal : Bool} (h : d.GoesUnfed e k removal) :
    d.GoesUnfed (batteryWatch e) k removal :=
  h.after (h.unfed.leaves.batteryWatch) (batteryWatch_serves e)

theorem Dev.GoesUnfed.raise {d e : Dev} {k : Pack} {removal : Bool} (h : d.GoesUnfed e k removal) (n : Notice) :
    d.GoesUnfed (raise n e) k removal :=
  h.after (h.unfed.leaves.keep) (.of_segs rfl)

end Sys2Proof.Machine

namespace Sys2Proof.Machine

/-! ## What the battery watch does (R82, R83) -/

/-- The watch has been computed, and the records and the tables that it is read from are still as they were. -/
structure Dev.Watched (d e : Dev) : Prop where
  stands : e.WatchStands
  soc : e.batterySoc = d.batterySoc
  tst : e.tst = d.tst

theorem Dev.Watched.systemSoc {d e : Dev} (h : d.Watched e) : e.chg.systemSoc = d.batterySoc := h.stands.soc.trans h.soc

theorem Dev.Watched.mark {d e : Dev} (h : d.Watched e) :
    e.chg.lowMark = true ↔ ∃ x, d.batterySoc = some x ∧ x ≤ d.tst.power.criticalSoc := by
  rw [h.stands.mark, h.systemSoc, h.tst]

/-- Every state that the watch stands in has one low mark. -/
theorem Dev.Watched.lowMark_eq {d e f : Dev} (h : d.Watched e) (k : d.Watched f) : e.chg.lowMark = f.chg.lowMark :=
  Bool.eq_iff_iff.mpr (h.mark.trans k.mark.symm)

/-- Changes of power state leave the watch standing (R82, R116). -/
theorem Dev.Watched.passes {d e : Dev} (h : d.Watched e) {f : Dev} {ps : List PowerState} (hp : e.Passes f ps) :
    d.Watched f := by
  induction ps generalizing e with
  | nil => exact hp.elim
  | cons p ps ih =>
    have entered {m : Dev} (hm : e.Entered m p) : d.Watched m :=
      ⟨hm.watch, hm.batterySoc.trans h.soc, hm.frame.1.trans h.tst⟩
    cases ps with
    | nil => exact entered hp
    | cons q ps =>
      obtain ⟨m, hm, hr⟩ := hp
      exact ih (entered hm) hr

/-- What leaves the records, the CHG and the tables leaves the watch standing. -/
theorem Dev.Watched.same {d e f : Dev} (h : d.Watched e) (hm : f.pkm = e.pkm) (hc : f.chg = e.chg) (ht : f.tst = e.tst) :
    d.Watched f := by
  have hmon (k : Pack) : f.mon k = e.mon k := by simp [Dev.mon, hm]
  have hb : f.batterySoc = e.batterySoc :=
    batterySoc_congr (fun k => by rw [hmon]) (fun k => by rw [hmon]) (by rw [hc])
  exact ⟨⟨by rw [hc, hb]; exact h.stands.soc, by rw [hc, ht]; exact h.stands.mark⟩, hb.trans h.soc, ht.trans h.tst⟩

theorem watchCompute_watched (d : Dev) : d.Watched (watchCompute d) := by
  have hb : (watchCompute d).batterySoc = d.batterySoc := batterySoc_congr (fun _ => rfl) (fun _ => rfl) rfl
  refine ⟨⟨?_, ?_⟩, hb, rfl⟩
  · rw [hb]; exact computeSoc_eq_batterySoc d
  · exact socAtOrBelow_iff _ _

/-- A change to another state than ON leaves a notice of the watch standing (R116, R189). -/
theorem powerTo_keeps_low {x : Nat} {st : PowerState} (hst : st ≠ .on) {d : Dev}
    (h : Notice.batteryCritical x ∈ d.nsu.queue) : Notice.batteryCritical x ∈ (powerTo st d).nsu.queue := by
  have hc : Notice.batteryCritical x ∈ (chargeTold st d).nsu.queue := by
    have hn : (chargeTold st d).nsu = d.nsu := by
      have hp : (watchCompute (retimeAllocation (retimePolls (mseRetime (d.setPpu { d.ppu with
          power := st, transition := d.transitionFor st }))))).ppu.power = st := by simp
      unfold chargeTold chgPower
      dsimp only
      rw [if_neg (by rw [hp]; exact hst)]
      simp
    rwa [hn]
  rw [powerTo_eq]
  refine relink_keeps_notice (by simp [Notice.cls]) (tfuPower_keeps_notice (by simp [Notice.cls]) (by simp [Notice.cls]) ?_)
  exact heatPower_keeps_notice (by simp [Notice.cls]) hc

/-- The notice of a crossing stands at the end of a rise (R82, R189). -/
theorem riseUp_keeps_low {x : Nat} {d : Dev} (hn : d.tst.settings.noticeMask.getLsbD 9 = true)
    (hs : d.batterySoc = some x) (hl : x ≤ d.tst.power.criticalSoc) (h : Notice.batteryCritical x ∈ d.nsu.queue) :
    Notice.batteryCritical x ∈ (riseUp d).nsu.queue := by
  have hup := powerTo_keeps_low (st := .poweringUp) (by simp) h
  rw [riseUp_eq]
  split
  · have hm := powerTo_entered .poweringUp d
    have he := powerTo_entered .on (powerTo .poweringUp d)
    have hsoc := he.watch.soc.trans (he.batterySoc.trans (hm.batterySoc.trans hs))
    have ht := he.frame.1.trans hm.frame.1
    refine (he.low rfl (he.watch.mark.mpr ⟨x, hsoc, by rw [ht]; exact hl⟩)).2 ?_ x hsoc
    rw [hm.frame.1, hn]
  · exact hup

theorem powerDown_keeps_low {x : Nat} {d : Dev} (c : Cause) (h : Notice.batteryCritical x ∈ d.nsu.queue) :
    Notice.batteryCritical x ∈ (powerDown c d).nsu.queue := by
  have hd : Notice.batteryCritical x ∈ (powerTo .poweringDown (handCause c (d.setPpu { d.ppu with
      cause := c, wakeLatch := false }))).nsu.queue := powerTo_keeps_low (by simp) h
  rw [powerDown_eq]
  dsimp only
  generalize powerTo .poweringDown (handCause c (d.setPpu { d.ppu with cause := c, wakeLatch := false })) = y at hd
  split
  · exact hd
  · have ho : Notice.batteryCritical x ∈ (powerTo .off y).nsu.queue := powerTo_keeps_low (by simp) hd
    rcases reachOff_eq y with he | ⟨-, he⟩ <;> rw [he] <;> exact ho

/-! ### The watch in SLEEP (R83) -/

/-- In SLEEP the watch has been computed and at most told: nothing else has moved. -/
structure Dev.Asleep (d x : Dev) : Prop where
  watched : d.Watched x
  same : x = { d with chg := x.chg, nsu := x.nsu }
  raised : ∀ c, d.Raised c → x.Raised c

theorem Dev.Asleep.wokenBy {d x e : Dev} (h : d.Asleep x) {w : WakeSource} (hw : x.WokenBy e w) : d.WokenBy e w := by
  obtain ⟨h1, h2, h3, h4, h5, h6⟩ := hw
  rw [h.same] at h2 h3 h5 h6
  exact ⟨h1, h2, h3, h4, h5, h6⟩

/-- A crossing that the wake enable lets rise the platform (R83, R118). -/
theorem Dev.Asleep.wakes {d x : Dev} (h : d.Asleep x) (hp : d.ppu.power = .sleep)
    (he : (d.wakeEntry .batteryCritical).inSleep = true) :
    d.Watched (offerWake .batteryCritical x) ∧ d.WokenBy (offerWake .batteryCritical x) .batteryCritical ∧
    (d.RiseLinks → d.ktu.Delivers (offerWake .batteryCritical x).ktu d.tst.settings.fnLock) ∧
    (offerWake .batteryCritical x).ppu.power ≠ .sleep ∧
    (d.tst.settings.noticeMask.getLsbD 9 = true → ∀ y, d.batterySoc = some y → y ≤ d.tst.power.criticalSoc →
      .batteryCritical y ∈ x.nsu.queue → .batteryCritical y ∈ (offerWake .batteryCritical x).nsu.queue) := by
  have hwould : x.WouldWake .batteryCritical := by
    rw [h.same]
    exact .inl ⟨hp, he⟩
  obtain ⟨hw, hr, -, -, t, r, hppu⟩ := offerWake_wakes hwould
  refine ⟨h.watched.passes hr.blocks, h.wokenBy hw, fun hl => ?_, ?_, fun hn y hy hle hq => ?_⟩
  · have hlink := (hr.link (by rw [h.same]; exact hl)).keys
    rwa [congrArg Dev.ktu h.same, h.watched.tst] at hlink
  · rw [hppu]
    dsimp only
    split <;> simp
  · rw [offerWake_of_would hwould]
    have hx : ((x.setWku (x.wku.woken .batteryCritical)).setPpu x.ppu.forWake).batterySoc = d.batterySoc := h.watched.soc
    refine riseUp_keeps_low ?_ (hx.trans hy) ?_ hq
    · show x.tst.settings.noticeMask.getLsbD 9 = true
      rw [h.watched.tst, hn]
    · show y ≤ x.tst.power.criticalSoc
      rw [h.watched.tst]
      exact hle

/-- A system SoC at or below the shutdown SoC (R83). -/
theorem Dev.Asleep.shuts {d x : Dev} (h : d.Asleep x) (hp : d.ppu.power = .sleep) :
    d.Watched (forcedOff .battery x) ∧
    (forcedOff .battery x).ppu.power = (if d.pins.powerGood then .poweringDown else .off) ∧
    (forcedOff .battery x).wku.lastCause = .battery ∧
    (∀ y, .batteryCritical y ∈ x.nsu.queue → .batteryCritical y ∈ (forcedOff .battery x).nsu.queue) := by
  have hpx : x.ppu.power = .sleep := by rw [h.same]; exact hp
  rw [forcedOff_of_up .battery (by rw [hpx]; simp) (by rw [hpx]; simp)]
  generalize hy : x.setPpu { x.ppu with request := none, wakeLatch := false } = y
  have hwy : d.Watched y := h.watched.same (by rw [← hy]; rfl) (by rw [← hy]; rfl) (by rw [← hy]; rfl)
  obtain ⟨r, t, -, hppu⟩ := powerDown_ppu .battery y
  have hpins : y.pins = d.pins := by rw [← hy, setPpu_pins, h.same]
  refine ⟨hwy.passes (powerDown_passes .battery y), by rw [hppu, hpins], by rw [powerDown_wku], fun z hz => ?_⟩
  exact powerDown_keeps_low .battery (by rw [← hy]; exact hz)

/-- The watch in SLEEP by its two questions: does a crossing wake, does the shutdown check shut (R83). -/
theorem watchSleep_cases {d x : Dev} (hp : x.ppu.power = .sleep) (crossing : Bool)
    (hx : x = if crossing then raise (.batteryCritical (d.chg.systemSoc.getD 0)) d else d) :
    watchSleep crossing d =
      if crossing = true ∧ (x.wakeEntry .batteryCritical).inSleep = true then offerWake .batteryCritical x
      else if (x.wakeEntry .batteryCritical).inSleep = false ∧ socAtOrBelow x.chg.systemSoc x.tst.power.shutdownSoc = true
        then forcedOff .battery x
      else x := by
  have hcheck (h : (x.wakeEntry .batteryCritical).inSleep = false ∨ crossing = false) :
      watchSleep crossing d = shutdownCheck x := by
    unfold watchSleep
    cases crossing
    · rw [hx]; rfl
    · have h : (x.wakeEntry .batteryCritical).inSleep = false := h.resolve_right (by simp)
      have ho : offerWake .batteryCritical x = x := by
        refine offerWake_of_not ?_ (by rw [hp]; simp)
        rintro (⟨-, hi⟩ | ⟨hq, -⟩)
        · rw [h] at hi; simp at hi
        · rw [hp] at hq; simp at hq
      rw [if_pos rfl] at hx
      rw [if_pos rfl, ← hx, ho]
  cases hw : (x.wakeEntry .batteryCritical).inSleep
  · rw [hcheck (.inl hw), if_neg (by simp)]
    simp [shutdownCheck, hp, hw]
  · cases crossing
    · rw [hcheck (.inr rfl), if_neg (by simp), if_neg (by simp)]
      simp [shutdownCheck, hw]
    · rw [if_pos ⟨rfl, rfl⟩]
      have hwould : x.WouldWake .batteryCritical := .inl ⟨hp, hw⟩
      obtain ⟨-, -, -, -, t, r, hppu⟩ := offerWake_wakes hwould
      rw [if_pos rfl] at hx
      unfold watchSleep shutdownCheck
      rw [if_pos rfl, ← hx, if_neg]
      rintro ⟨hs, -⟩
      rw [hppu] at hs
      dsimp only at hs
      split at hs <;> simp at hs

theorem batteryWatch_sleep {d : Dev} (hp : d.ppu.power = .sleep) : batteryWatch d =
    watchSleep ((watchCompute d).chg.lowMark && !d.chg.lowMark) (watchCompute d) := by
  have hc : (watchCompute d).ppu.power = .sleep := hp
  unfold batteryWatch
  simp only [hc]

theorem batteryWatch_acts_sleep {d : Dev} (hp : d.ppu.power = .sleep) : d.WatchActs (batteryWatch d) := by
  have hw := watchCompute_watched d
  rw [batteryWatch_sleep hp]
  generalize hcr : ((watchCompute d).chg.lowMark && !d.chg.lowMark) = crossing
  generalize hx : (if crossing then raise (.batteryCritical ((watchCompute d).chg.systemSoc.getD 0)) (watchCompute d)
    else watchCompute d) = x
  have hxc : x.chg = (watchCompute d).chg := by rw [← hx]; split <;> rfl
  have ha : d.Asleep x := by
    rw [← hx]
    cases crossing
    · exact ⟨hw, rfl, fun _ h => h⟩
    · exact ⟨hw.same rfl rfl rfl, rfl, fun c h => raise_keeps_raised _ _ _ h⟩
  have hpx : x.ppu.power = .sleep := by rw [ha.same]; exact hp
  have hen : x.wakeEntry .batteryCritical = d.wakeEntry .batteryCritical := wakeEntry_congr ha.watched.tst _
  have hold {e : Dev} (he : d.Watched e) (h0 : d.chg.lowMark = false) (h1 : e.chg.lowMark = true) :
      crossing = true := by
    rw [← hcr, ← he.lowMark_eq hw, h1, h0]; rfl
  have htold (hc : crossing = true) : x.Raised 9 ∧ (d.tst.settings.noticeMask.getLsbD 9 = true →
      ∀ y, d.batterySoc = some y → .batteryCritical y ∈ x.nsu.queue) := by
    rw [← hx, if_pos hc]
    refine ⟨raise_raised (.batteryCritical _) _ (Notice.cls_lt _), fun hn y hy => ?_⟩
    have hs : (watchCompute d).chg.systemSoc = some y := hw.systemSoc.trans hy
    have hq := raise_queues (.batteryCritical y) (watchCompute d) hn
    simpa [hs] using hq
  rw [watchSleep_cases hpx crossing hx.symm, hen, ha.watched.systemSoc, ha.watched.tst]
  have hon {p : Prop} (h : d.ppu.power = .on) : p := by rw [hp] at h; simp at h
  split
  · rename_i hc
    obtain ⟨hcross, hwake⟩ := hc
    obtain ⟨hwd, hwo, hke, hns, hno⟩ := ha.wakes hp hwake
    have hr : (offerWake .batteryCritical x).Raised 9 :=
      (offerWake_orderly _ (.refl x)).raised 9 (htold hcross).1
    refine ⟨hwd.stands, hon, hon, hon, fun _ h0 h1 hn y hy => ?_, fun _ _ _ => ⟨hr, fun _ => ⟨hwo, hke⟩⟩,
      fun _ h => by rw [hwake] at h; simp at h, fun _ h => ?_⟩
    · have hy : d.batterySoc = some y := hwd.systemSoc.symm.trans hy
      obtain ⟨z, hz, hle⟩ := hwd.mark.mp h1
      obtain rfl : y = z := by rw [hy] at hz; exact Option.some.inj hz
      exact hno hn y hy hle ((htold hcross).2 hn y hy)
    · have hlow : (offerWake .batteryCritical x).chg.lowMark = true ∧ d.chg.lowMark = false := by
        rw [hwd.lowMark_eq hw]
        rw [← hcr] at hcross
        simpa using hcross
      rcases h hlow.1 with h | h
      · rw [hlow.2] at h; simp at h
      · rw [hwake] at h; simp at h
  · rename_i hc
    split
    · rename_i hs
      obtain ⟨hno, hle⟩ := hs
      obtain ⟨hwd, hpow, hcause, hno'⟩ := ha.shuts hp
      have hr (h : crossing = true) : (forcedOff .battery x).Raised 9 :=
        (forcedOff_orderly _ (.refl x)).raised 9 (htold h).1
      refine ⟨hwd.stands, hon, hon, hon, fun _ h0 h1 hn y hy => ?_, fun _ h0 h1 => ⟨hr (hold hwd h0 h1), fun h => ?_⟩,
        fun _ _ y _ _ => ⟨hpow, hcause⟩, fun _ _ h => ?_⟩
      · exact hno' y ((htold (hold hwd h0 h1)).2 hn y (hwd.systemSoc.symm.trans hy))
      · rw [hno] at h; simp at h
      · obtain ⟨y, hy, hl⟩ := (socAtOrBelow_iff _ _).mp hle
        rcases h y (hwd.systemSoc.trans hy) with h | h
        · rw [hno] at h; simp at h
        · omega
    · rename_i hs
      refine ⟨ha.watched.stands, hon, hon, hon, fun _ h0 h1 hn y hy => ?_, fun _ h0 h1 =>
        ⟨(htold (hold ha.watched h0 h1)).1, fun h => absurd ⟨hold ha.watched h0 h1, h⟩ hc⟩, fun _ hno y hy hl => ?_,
        fun _ _ _ => hpx⟩
      · exact (htold (hold ha.watched h0 h1)).2 hn y (ha.watched.systemSoc.symm.trans hy)
      · exact absurd ⟨hno, (socAtOrBelow_iff _ _).mpr ⟨y, ha.watched.systemSoc.symm.trans hy, hl⟩⟩ hs

/-! ### The watch in every state -/

theorem batteryWatch_acts_on {d : Dev} (hp : d.ppu.power = .on) : d.WatchActs (batteryWatch d) := by
  have hw := watchCompute_watched d
  have hc : (watchCompute d).ppu.power = .on := hp
  have hsleep {p : Prop} (h : d.ppu.power = .sleep) : p := by rw [hp] at h; simp at h
  unfold batteryWatch
  simp only [hc]
  cases hl : (watchCompute d).chg.lowMark
  · have hf {p : Prop} (h : (stopBatteryGrace (watchCompute d)).chg.lowMark = true) : p := by
      exact absurd (hl.symm.trans h) (by simp)
    simp only [Bool.not_false, if_true]
    exact ⟨⟨hw.stands.soc, hw.stands.mark⟩, fun _ _ => rfl, fun _ _ => hf, fun _ _ => hf, fun _ _ => hf, hsleep, hsleep, hsleep⟩
  · cases h0 : d.chg.lowMark
    · simp only [Bool.not_true, Bool.false_eq_true, if_false]
      have hr : (batteryCrossing (watchCompute d)).Raised 9 := raise_raised (.batteryCritical _) _ (Notice.cls_lt _)
      refine ⟨⟨hw.stands.soc, hw.stands.mark⟩, fun _ h => ?_, fun _ h => ?_, fun _ _ _ => ⟨hr, rfl⟩,
        fun _ _ _ hn y hy => ?_, hsleep, hsleep, hsleep⟩
      · exact absurd (hl.symm.trans h) (by simp)
      · rw [h0] at h; simp at h
      · have hy : (watchCompute d).chg.systemSoc = some y := hy
        have hq := raise_queues (.batteryCritical y) (watchCompute d) hn
        simpa [batteryCrossing, hy] using hq
    · simp only [Bool.not_true, Bool.false_eq_true, if_false, if_true]
      refine ⟨hw.stands, fun _ h => ?_, fun _ _ _ => rfl, fun _ h => ?_, fun _ h => ?_, hsleep, hsleep, hsleep⟩
      · exact absurd (hl.symm.trans h) (by simp)
      · rw [h0] at h; simp at h
      · rw [h0] at h; simp at h

/-- The battery watch acts as R82 and R83 say, whatever the power state. -/
theorem batteryWatch_acts (d : Dev) : d.WatchActs (batteryWatch d) := by
  by_cases hon : d.ppu.power = .on
  · exact batteryWatch_acts_on hon
  · by_cases hs : d.ppu.power = .sleep
    · exact batteryWatch_acts_sleep hs
    · have he : batteryWatch d = watchCompute d := by
        have hc : (watchCompute d).ppu = d.ppu := rfl
        unfold batteryWatch
        dsimp only
        rw [hc]
        cases hp : d.ppu.power <;> simp_all
      have ho {p : Prop} (h : d.ppu.power = .on) : p := absurd h hon
      have hn {p : Prop} (h : d.ppu.power = .sleep) : p := absurd h hs
      rw [he]
      exact ⟨(watchCompute_watched d).stands, ho, ho, ho, fun h => h.elim ho hn, hn, hn, hn⟩

end Sys2Proof.Machine

namespace Sys2Proof.Machine

/-! ## What stands apart from the battery watch -/

/-- Between two moments the part has been told on: responses in slots, classes raised, and what the watch told the hub
still stands. -/
structure Dev.Tells (d e : Dev) : Prop where
  pli : e.pli = { d.pli with slots := e.pli.slots, readyOrder := e.pli.readyOrder }
  raised : ∀ c, d.Raised c → e.Raised c
  low : ∀ n ∈ d.nsu.queue, n.cls = 9 → n ∈ e.nsu.queue
  head : ∀ n, n.cls = 0 → d.nsu.queue.head? = some n → e.nsu.queue.head? = some n

theorem Dev.Tells.of_same {d e : Dev} (hp : e.pli = d.pli) (hn : e.nsu = d.nsu) : d.Tells e :=
  ⟨by rw [hp], fun c h => by unfold Dev.Raised; rw [hn]; exact h, fun n h _ => hn ▸ h, fun n _ h => hn ▸ h⟩

theorem Dev.Tells.refl (d : Dev) : d.Tells d := .of_same rfl rfl

theorem Dev.Tells.trans {d e f : Dev} (h : d.Tells e) (k : e.Tells f) : d.Tells f :=
  ⟨by rw [k.pli, h.pli], fun c x => k.raised c (h.raised c x), fun n x hn => k.low n (h.low n x hn) hn,
    fun n hn x => k.head n hn (h.head n hn x)⟩

/-- A notice raised of another class leaves the LINK_UP at the head (R189). -/
theorem raise_head {n m : Notice} {d : Dev} (hm : m.cls ≠ n.cls) (h : d.nsu.queue.head? = some n) :
    (raise m d).nsu.queue.head? = some n := by
  obtain ⟨rest, hq⟩ : ∃ rest, d.nsu.queue = n :: rest := by
    cases hq : d.nsu.queue with
    | nil => simp [hq] at h
    | cons x rest => exact ⟨rest, by simpa [hq] using h⟩
  simp only [raise, setNsu_nsu, Nsu.raise, hq]
  split
  · unfold coalesce
    split
    · simp [Ne.symm hm]
    · simp
  · simp

theorem raise_tells {n : Notice} (h0 : n.cls ≠ 0) (h9 : n.cls ≠ 9) (d : Dev) : d.Tells (raise n d) :=
  ⟨by simp, fun c => raise_keeps_raised n d c, fun m hm hc => raise_keeps_notice hm (by rw [hc]; exact Ne.symm h9),
    fun m hc => raise_head (by rw [hc]; exact h0)⟩

/-- An answer moves a slot and the ready order at most (R179). -/
theorem answerWith_pli (i : Nat) (r : Response) (d : Dev) : (answerWith i r d).pli = { d.pli with
    slots := (answerWith i r d).pli.slots, readyOrder := (answerWith i r d).pli.readyOrder } := by
  have h (p : Pli) : p.respond i r = { p with
      slots := (p.respond i r).slots, readyOrder := (p.respond i r).readyOrder } := by
    unfold Pli.respond
    dsimp only
    split <;> rfl
  exact h d.pli

theorem answerWith_tells (i : Nat) (r : Response) (d : Dev) : d.Tells (answerWith i r d) :=
  ⟨answerWith_pli i r d, fun _ h => h, fun _ h _ => h, fun _ _ h => h⟩

theorem setSeg_tells (g : Seg) (x : Segment) (d : Dev) : d.Tells (d.setSeg g x) := .of_same rfl rfl

theorem grantSequence_tells (g : Seg) (d : Dev) : d.Tells (grantSequence g d) := by
  unfold grantSequence
  split
  · split
    · exact (setSeg_tells g _ d).trans (answerWith_tells _ _ _)
    · exact .refl d
  all_goals exact .refl d

theorem arbitrate_tells (g : Seg) (d : Dev) : d.Tells (arbitrate g d) := by
  unfold arbitrate
  split
  · exact (grantSequence_tells g d).trans (.of_same (by simp) (by simp))
  · exact .refl d

theorem submit_tells (g : Seg) (t : Txn) (d : Dev) : d.Tells (submit g t d).1 := by
  unfold submit
  dsimp only
  split
  · exact .refl d
  · exact .refl d
  all_goals exact (setSeg_tells g _ d).trans (arbitrate_tells g _)

theorem tells_handsOn (d : Dev) : HandsOn d.Tells where
  same _ _ _ hp hn h := h.trans (.of_same hp hn)
  submit g t e _ h := h.trans (submit_tells g t e)
  raise n e hn h := h.trans (raise_tells (fun h0 => hn (by simp [h0])) (fun h9 => hn (by simp [h9])) e)

/-- Between two moments nothing has moved that the watch reads, but records, and nothing that it wrote. -/
structure Dev.Apart (d e : Dev) : Prop where
  chg : e.chg = { d.chg with
    reader := e.chg.reader, inputFailures := e.chg.inputFailures, headroom := e.chg.headroom, packs := e.chg.packs }
  tst : e.tst = d.tst
  ppu : e.ppu = d.ppu
  wku : e.wku = d.wku
  ktu : e.ktu = d.ktu
  pins : e.pins.powerGood = d.pins.powerGood ∧ e.pins.platformReset = d.pins.platformReset
  told : d.Tells e

theorem Dev.Apart.trans {d e f : Dev} (h : d.Apart e) (k : e.Apart f) : d.Apart f :=
  ⟨by rw [k.chg, h.chg], k.tst.trans h.tst, k.ppu.trans h.ppu, k.wku.trans h.wku, k.ktu.trans h.ktu,
    ⟨k.pins.1.trans h.pins.1, k.pins.2.trans h.pins.2⟩, h.told.trans k.told⟩

theorem Dev.Apart.riseLinks {d e : Dev} (h : d.Apart e) : e.RiseLinks ↔ d.RiseLinks := by
  unfold Dev.RiseLinks
  rw [h.told.pli, h.pins.1, h.pins.2]

theorem Dev.Apart.marks {d e : Dev} (h : d.Apart e) : e.chg.lowMark = d.chg.lowMark ∧
    e.chg.graceTimer = d.chg.graceTimer ∧ e.chg.systemSoc = d.chg.systemSoc ∧ e.chg.adapter = d.chg.adapter := by
  rw [h.chg]
  exact ⟨rfl, rfl, rfl, rfl⟩

/-- The watch acts between two moments as well where what stands apart from it has moved before. -/
theorem Dev.WatchActs.of_before {d x e : Dev} (h : x.WatchActs e) (ha : d.Apart x) : d.WatchActs e := by
  obtain ⟨stands, clears, keeps, crosses, tells, wakes, shuts, sleeps⟩ := h
  obtain ⟨hm, hg, -, -⟩ := ha.marks
  have hw := wakeEntry_congr ha.tst .batteryCritical
  simp only [ha.ppu, hm, hg, ha.tst, ha.pins.1, hw] at clears keeps crosses tells wakes shuts sleeps
  refine ⟨stands, clears, keeps, crosses, tells, fun hp h0 h1 => ?_, shuts, sleeps⟩
  obtain ⟨hr, hwake⟩ := wakes hp h0 h1
  refine ⟨hr, fun he => ?_⟩
  obtain ⟨⟨h1, h2, h3, h4, h5, h6⟩, hd⟩ := hwake he
  simp only [ha.riseLinks, ha.tst, ha.ktu, ha.wku, ha.pins.1, ha.pins.2] at h2 h3 h5 h6 hd
  exact ⟨⟨h1, h2, h3, h4, h5, h6⟩, hd⟩

/-- The watch acts between two moments as well where what stands apart from it has moved after. -/
theorem Dev.WatchActs.after {d e f : Dev} (h : d.WatchActs e) (ha : e.Apart f)
    (hr : ∀ k, (f.mon k).record.state = (e.mon k).record.state ∧
      (f.mon k).record.telemetry = (e.mon k).record.telemetry) : d.WatchActs f := by
  obtain ⟨⟨hsoc, hmark⟩, clears, keeps, crosses, tells, wakes, shuts, sleeps⟩ := h
  obtain ⟨hm, hg, hs, had⟩ := ha.marks
  have hb : f.batterySoc = e.batterySoc := batterySoc_congr (fun k => (hr k).1) (fun k => (hr k).2) had
  simp only [← hm, ← hg, ← hs, ← ha.ppu, ← ha.wku] at clears keeps crosses tells wakes shuts sleeps
  refine ⟨⟨by rw [hs, hb, hsoc], by rw [hm, hs, ha.tst]; exact hmark⟩, clears, keeps,
    fun hp h0 h1 => ⟨ha.told.raised _ (crosses hp h0 h1).1, (crosses hp h0 h1).2⟩,
    fun hp h0 h1 hn x hx => ha.told.low _ (tells hp h0 h1 hn x hx) rfl, fun hp h0 h1 => ?_, shuts, sleeps⟩
  obtain ⟨hr, hwake⟩ := wakes hp h0 h1
  refine ⟨ha.told.raised _ hr, fun he => ?_⟩
  obtain ⟨⟨h1, h2, h3, h4, h5, h6⟩, hd⟩ := hwake he
  refine ⟨⟨by rw [ha.wku]; exact h1, by rw [ha.wku]; exact h2, by rw [ha.ppu]; exact h3, by rw [ha.ppu]; exact h4,
    by rw [ha.told.pli]; exact h5, fun hl => ?_⟩, by rw [ha.ktu]; exact hd⟩
  obtain ⟨h6, h7, h8, h9, h10, h11⟩ := h6 hl
  refine ⟨ha.told.raised _ h6, ?_, ?_, ?_, ?_, fun hn => ?_⟩
  · rw [ha.told.pli]; exact h7
  · rw [ha.told.pli]; exact h8
  · rw [ha.told.pli]; exact h9
  · rw [ha.told.pli]; exact h10
  · rw [ha.wku]
    exact ha.told.head _ rfl (h11 hn)

/-! ### What the watch leaves -/

/-- What each change of power state keeps is kept by changes in a row (R116). -/
theorem Dev.Passes.keeps {Q : Dev → Prop} (hQ : ∀ d e p, d.Entered e p → Q d → Q e) {d e : Dev} {ps : List PowerState}
    (h : d.Passes e ps) (hd : Q d) : Q e := by
  induction ps generalizing d with
  | nil => exact h.elim
  | cons p ps ih =>
    cases ps with
    | nil => exact hQ _ _ _ h hd
    | cons q qs =>
      obtain ⟨m, hm, hr⟩ := h
      exact ih hr (hQ _ _ _ hm hd)

/-- The watch has moved its own part of the CHG and told at most. -/
structure Dev.WatchOnly (d e : Dev) : Prop where
  chg : e.chg = { d.chg with
    systemSoc := e.chg.systemSoc, lowMark := e.chg.lowMark, graceTimer := e.chg.graceTimer }
  same : e = { d with chg := e.chg, nsu := e.nsu }

/-- The watch moves its own part alone where the power state is not SLEEP, and in SLEEP where the part stays there. -/
theorem batteryWatch_only {d : Dev} (h : d.ppu.power = .sleep → (batteryWatch d).ppu.power = .sleep) :
    d.WatchOnly (batteryWatch d) := by
  by_cases hp : d.ppu.power = .sleep
  · have h := h hp
    rw [batteryWatch_sleep hp] at h ⊢
    generalize hc : ((watchCompute d).chg.lowMark && !d.chg.lowMark) = crossing at h ⊢
    generalize hy : (if crossing = true then
      raise (.batteryCritical ((watchCompute d).chg.systemSoc.getD 0)) (watchCompute d) else watchCompute d) = y at h ⊢
    have hpy : y.ppu.power = .sleep ∧ d.WatchOnly y := by
      rw [← hy]
      cases crossing <;> exact ⟨hp, rfl, rfl⟩
    rw [watchSleep_cases hpy.1 crossing hy.symm] at h ⊢
    split at h
    · rename_i hw
      obtain ⟨-, -, -, -, t, r, hppu⟩ := offerWake_wakes (d := y) (w := .batteryCritical) (.inl ⟨hpy.1, hw.2⟩)
      rw [hppu] at h
      dsimp only at h
      split at h <;> simp at h
    · split at h
      · rw [forcedOff_of_up .battery (by rw [hpy.1]; simp) (by rw [hpy.1]; simp)] at h
        obtain ⟨r, t, -, hppu⟩ := powerDown_ppu .battery (y.setPpu { y.ppu with request := none, wakeLatch := false })
        rw [hppu] at h
        dsimp only at h
        split at h <;> simp at h
      · rename_i h1 h2
        rw [if_neg h1, if_neg h2]
        exact hpy.2
  · have hc : (watchCompute d).ppu = d.ppu := rfl
    unfold batteryWatch
    dsimp only
    rw [hc]
    split
    · split
      · exact ⟨rfl, rfl⟩
      · split <;> exact ⟨rfl, rfl⟩
    · exact absurd ‹_› hp
    all_goals exact ⟨rfl, rfl⟩

/-- Out of SLEEP the watch moves the CHG's marks and tells at most. -/
theorem batteryWatch_same {d : Dev} (h : d.ppu.power ≠ .sleep) :
    batteryWatch d = { d with chg := (batteryWatch d).chg, nsu := (batteryWatch d).nsu } :=
  (batteryWatch_only fun hp => absurd hp h).same

/-- What a change of power state keeps and the watch's own part of the CHG does not enter is kept by the watch. -/
theorem batteryWatch_keeps {Q : Dev → Prop} (hQ : ∀ d e p, d.Entered e p → Q d → Q e)
    (hsame : ∀ d e : Dev, e.pkm = d.pkm → e.tfu = d.tfu → e.tst = d.tst → e.chg = { d.chg with
      systemSoc := e.chg.systemSoc, lowMark := e.chg.lowMark, graceTimer := e.chg.graceTimer } → Q d → Q e)
    {d : Dev} (hd : Q d) : Q (batteryWatch d) := by
  have only {x y : Dev} (h : x.WatchOnly y) (hx : Q x) : Q y :=
    hsame x y (by rw [h.same]) (by rw [h.same]) (by rw [h.same]) h.chg hx
  by_cases hp : d.ppu.power = .sleep
  · have hx (x : Dev) (hpx : x.ppu.power = .sleep) (hm : Q x) :
        Q (offerWake .batteryCritical x) ∧ Q (forcedOff .battery x) := by
      constructor
      · by_cases hw : x.WouldWake .batteryCritical
        · exact (offerWake_wakes hw).2.1.blocks.keeps hQ hm
        · rw [offerWake_of_not hw (by rw [hpx]; simp)]
          exact hm
      · rw [forcedOff_of_up .battery (by rw [hpx]; simp) (by rw [hpx]; simp)]
        exact (powerDown_passes .battery _).keeps hQ (hsame x _ rfl rfl rfl rfl hm)
    rw [batteryWatch_sleep hp]
    generalize hc : ((watchCompute d).chg.lowMark && !d.chg.lowMark) = crossing
    generalize hy : (if crossing = true then
      raise (.batteryCritical ((watchCompute d).chg.systemSoc.getD 0)) (watchCompute d) else watchCompute d) = y
    have hm : Q y ∧ y.ppu.power = .sleep := by
      rw [← hy]
      cases crossing <;> exact ⟨hsame d _ rfl rfl rfl rfl hd, hp⟩
    rw [watchSleep_cases hm.2 crossing hy.symm]
    split
    · exact (hx y hm.2 hm.1).1
    · split
      · exact (hx y hm.2 hm.1).2
      · exact hm.1
  · exact only (batteryWatch_only fun h => absurd h hp) hd

/-- The watch leaves a pack's monitor, but for what a new poll interval calls for (R45, R53). -/
theorem batteryWatch_mon {Q : PackMonitor → Prop} (hQ : ∀ ms m, Q m → Q (m.retime ms)) {d : Dev} {k : Pack}
    (hd : Q (d.mon k)) : Q ((batteryWatch d).mon k) := by
  refine batteryWatch_keeps (Q := fun d => Q (d.mon k)) (fun d e p he h => ?_) (fun d e hm _ _ _ h => ?_) hd
  · rw [(he.polls k).trans (retime_eq ..).symm]
    exact hQ _ _ h
  · simpa [Dev.mon, hm] using h

theorem batteryWatch_pack (d : Dev) : (batteryWatch d).tfu.pack = d.tfu.pack :=
  batteryWatch_keeps (Q := fun e => e.tfu.pack = d.tfu.pack) (fun x e p he h => by rw [he.heat]; exact h)
    (fun x e _ ht _ _ h => by rw [ht]; exact h) rfl

end Sys2Proof.Machine

namespace Sys2Proof.Machine

/-! ## A removal settled (R47, R69, R78, R81 to R83, R93) -/

theorem goneStage_core (k : Pack) (removal : Bool) (d : Dev) : (goneStage k removal d).chg.core = d.chg.core := by
  unfold goneStage
  split <;> rfl

/-- A pack lost and a removal stand apart from the watch. -/
theorem packGone_apart (k : Pack) (removal : Bool) (d : Dev) : d.Apart (packGone k removal d) := by
  have hc : (packGone k removal d).chg.core = d.chg.core := by
    rw [packGone_eq, startPasses_core, goneStage_core]
  refine ⟨?_, by simp, by simp, by simp, by simp, by simp, (tells_handsOn d).packGone k removal (.refl d)⟩
  rw [(Chg.core_eq_iff _ _).mp hc]

theorem raise_apart {n : Notice} (h0 : n.cls ≠ 0) (h9 : n.cls ≠ 9) (d : Dev) : d.Apart (raise n d) :=
  ⟨by simp, by simp, by simp, by simp, by simp, by simp, raise_tells h0 h9 d⟩

theorem packGone_same (k : Pack) (removal : Bool) (d : Dev) : packGone k removal d = { d with
    chg := (packGone k removal d).chg, segs := (packGone k removal d).segs, pli := (packGone k removal d).pli
    nsu := (packGone k removal d).nsu } := by
  apply Dev.eq_of_blocks
  simp

/-- A stage that the loss of a pack takes away is told (R65, R69). -/
theorem packGone_tells {k : Pack} {removal : Bool} {d : Dev} (h : (d.chp k).stage.gone removal ≠ (d.chp k).stage) :
    (packGone k removal d).Raised 7 := by
  have hg : (goneStage k removal d).Raised 7 := by
    rw [goneStage, if_neg h]
    exact raise_raised (.chargeStage k _ _) _ (Notice.cls_lt _)
  rw [packGone_eq]
  exact (startPasses_orderly 8 _ (.refl _)).raised 7 hg

/-- What the PKM holds for a pack that has been removed (R47). -/
def PackMonitor.removed (m : PackMonitor) : PackMonitor :=
  { m with
    record := PackRecord.empty, presence := Debounce.accept false, cycle := none, staged := [], pollTimer := none
    ageTick := none, orphan := m.outstanding }

/-- The part as a pack is removed, before the CHG is told (R47, R93). -/
def Dev.departure (d : Dev) (k : Pack) : Dev :=
  { d with
    pins := { d.pins with presence := d.pins.presence.set k.ix false }
    pkm := d.pkm.set k.ix (d.mon k).removed
    tfu := { d.tfu with pack := d.tfu.pack.set k.ix none } }

theorem removalEvent_eq {k : Pack} {d : Dev} (h : (d.mon k).presence.accepted = some true) : removalEvent k d =
    raise (.packChange k .absent) (batteryWatch (packGone k true (d.departure k))) := by
  unfold removalEvent
  rw [if_pos h]
  rfl

theorem departure_apart (d : Dev) (k : Pack) : d.Apart (d.departure k) :=
  ⟨rfl, rfl, rfl, rfl, rfl, ⟨rfl, rfl⟩, .of_same rfl rfl⟩

/-- Settles O14: the part as the pack departs, the CHG told, the watch, and PACK_CHANGE. -/
theorem removalEmptiesRecord : Obligations.RemovalEmptiesRecord := by
  intro k s h
  refine ⟨removalEvent k s.dev, rfl, ?_⟩
  rw [removalEvent_eq h]
  generalize hx : packGone k true (s.dev.departure k) = x
  have hmon : (s.dev.departure k).mon k = (s.dev.mon k).removed := Pair.get_set_self _ _ _
  have hgone : s.dev.GoesUnfed x k true := by
    rw [← hx]
    exact (packGone_goesUnfed k true (by rw [hmon]; simp [PackMonitor.removed, PackRecord.empty])).of_before rfl Iff.rfl rfl
  have hend : s.dev.GoesUnfed (raise (.packChange k .absent) (batteryWatch x)) k true := hgone.batteryWatch.raise _
  have hstage : (s.dev.chp k).stage.gone true = .none := by simp [Stage.gone]
  have hpkm : x.pkm = (s.dev.departure k).pkm := by rw [← hx]; simp
  have hbefore : s.dev.Apart x := by
    rw [← hx]
    exact (departure_apart s.dev k).trans (packGone_apart k true _)
  refine ⟨?_, hend.stage.trans hstage, hend.unfed.current, hend.unfed.voltage, hend.write, ?_,
    raise_raised (.packChange k .absent) _ (Notice.cls_lt _), ?_, fun hs => ?_, fun hp => ?_⟩
  · refine batteryWatch_mon (Q := fun m => m = (s.dev.mon k).removed) (fun ms m hm => ?_) ?_
    · rw [hm]; rfl
    · rw [← hmon]
      simp [Dev.mon, hpkm]
  · show (batteryWatch x).tfu.pack.get k.ix = none
    rw [batteryWatch_pack, ← hx, (packGone_frame k true _).2.2.2.2.2.2.1]
    exact Pair.get_set_self _ _ _
  · exact ((batteryWatch_acts x).of_before hbefore).after (raise_apart (by simp [Notice.cls]) (by simp [Notice.cls]) _)
      fun _ => ⟨rfl, rfl⟩
  · refine raise_keeps_raised _ _ _ ((batteryWatch_orderly (.refl x)).raised 7 ?_)
    rw [← hx]
    refine packGone_tells (d := s.dev.departure k) ?_
    show (s.dev.chp k).stage.gone true ≠ _
    rw [hstage]
    exact Ne.symm hs
  · have hxp : x.ppu.power ≠ .sleep := by rw [hbefore.ppu]; exact hp
    have hw := batteryWatch_same hxp
    have hg := packGone_same k true (s.dev.departure k)
    rw [hx] at hg
    have hm : (raise (.packChange k .absent) (batteryWatch x)).mon k = (s.dev.mon k).removed := by
      show (batteryWatch x).mon k = _
      rw [hw]
      show x.pkm.get k.ix = _
      rw [hpkm]
      exact hmon
    rw [hm]
    generalize batteryWatch x = y at *
    rw [hw, hg]
    rfl

end Sys2Proof.Machine

namespace Sys2Proof.Machine

/-! ## A pack that loses contact (R55, R56, R69) -/

/-- A pack's record at entry to COMM_LOST (R56). -/
def PackRecord.lost (r : PackRecord) : PackRecord :=
  { r with state := .commLost, stale := r.stale || r.telemetry.isSome }

theorem enterCommLost_eq (k : Pack) (d : Dev) : enterCommLost k d = raise (.packChange k .commLost)
    (batteryWatch (packGone k false (d.setMon k { d.mon k with record := (d.mon k).record.lost }))) := rfl

/-- The part as the third cycle of a pack in a row has aborted, before the loss of contact, between it and the part
before the event nothing but this pack's monitor, lines and segments having moved. -/
structure Dev.Doomed (d x : Dev) (k : Pack) : Prop where
  record : (x.mon k).record = { (d.mon k).record with failures := 3 }
  cycle : (x.mon k).cycle = none ∧ (x.mon k).staged = [] ∧ (x.mon k).outstanding = false
  same : x = { d with
    pins := x.pins, pkm := d.pkm.set k.ix (x.mon k), segs := x.segs, pli := x.pli, nsu := x.nsu }
  apart : d.Apart x
  takes : (x.seg (segOf k)).Takes ↔ (d.seg (segOf k)).Takes

/-- The record of a lost pack and its cycle, which a new poll interval leaves (R45, R53). -/
def PackMonitor.IsLost (r : PackRecord) (m : PackMonitor) : Prop :=
  m.record = { r with state := .commLost, failures := 3, stale := r.stale || r.telemetry.isSome } ∧
    m.cycle = none ∧ m.staged = [] ∧ m.outstanding = false

theorem PackMonitor.IsLost.retime {r : PackRecord} (ms : Nat) (m : PackMonitor) (h : m.IsLost r) :
    (m.retime ms).IsLost r := by
  obtain ⟨hr, hc⟩ := h
  unfold PackMonitor.retime staleTest
  split
  · exact ⟨hr, hc⟩
  · split
    · exact ⟨hr, hc⟩
    · refine ⟨?_, hc⟩
      dsimp only
      split
      · rename_i ht
        rw [hr] at ht ⊢
        have ht : r.telemetry.isSome = true := (Bool.and_eq_true _ _ ▸ ht).1
        simp [ht]
      · exact hr

/-- The third aborted cycle in a row loses the pack. -/
theorem Dev.Doomed.loses {d x : Dev} {k : Pack} (h : d.Doomed x k) : d.LosesPack (enterCommLost k x) k := by
  rw [enterCommLost_eq]
  generalize hy : x.setMon k { x.mon k with record := (x.mon k).record.lost } = y
  have hmon : y.mon k = { x.mon k with record := (x.mon k).record.lost } := by rw [← hy, mon_setMon]
  have hlost : (y.mon k).IsLost (d.mon k).record := by
    rw [hmon]
    exact ⟨by simp only [h.record, PackRecord.lost], h.cycle⟩
  have hxy : x.Apart y := by
    rw [← hy]
    exact ⟨rfl, rfl, rfl, rfl, rfl, ⟨rfl, rfl⟩, .of_same rfl rfl⟩
  generalize hz : packGone k false y = z
  have hapart : d.Apart z := by
    rw [← hz]
    exact (h.apart.trans hxy).trans (packGone_apart k false y)
  have hpkm : z.pkm = y.pkm := by rw [← hz]; simp
  have hgone : d.GoesUnfed z k false := by
    rw [← hz]
    refine (packGone_goesUnfed k false ?_).of_before ?_ ?_ ?_
    · rw [hlost.1]; simp
    · rw [← hy, h.same]; rfl
    · rw [← hy]; exact h.takes
    · rw [← hy]; exact h.apart.tst
  have hend : d.GoesUnfed (raise (.packChange k .commLost) (batteryWatch z)) k false := hgone.batteryWatch.raise _
  obtain ⟨hrec, hcyc⟩ : ((batteryWatch z).mon k).IsLost (d.mon k).record :=
    batteryWatch_mon (fun ms m => PackMonitor.IsLost.retime ms m) (by simpa [Dev.mon, hpkm] using hlost)
  refine ⟨hrec, hcyc, ⟨?_, hend.unfed.current, hend.unfed.voltage⟩, hend.write,
    raise_raised (.packChange k .commLost) _ (Notice.cls_lt _), ?_, fun hp => ?_⟩
  · rw [hend.stage]
    simp [Stage.gone]
  · exact ((batteryWatch_acts z).of_before hapart).after (raise_apart (by simp [Notice.cls]) (by simp [Notice.cls]) _)
      fun _ => ⟨rfl, rfl⟩
  · have hw := batteryWatch_same (d := z) (by rw [hapart.ppu]; exact hp)
    have hg := packGone_same k false y
    rw [hz] at hg
    have hm : (raise (.packChange k .commLost) (batteryWatch z)).mon k = y.mon k := by
      show (batteryWatch z).mon k = _
      rw [hw]
      show z.pkm.get k.ix = _
      rw [hpkm]
      rfl
    rw [hm, hmon]
    generalize batteryWatch z = w at *
    rw [hw, hg, ← hy, h.same]
    simp [Dev.mon, raise, setMon_eq, Dev.setNsu]

/-- A pack that was lost stays so where what is queued stays and what the watch reads and wrote stands. -/
theorem Dev.LosesPack.after {d e f : Dev} {k : Pack} (h : d.LosesPack e k)
    (same : f = { e with pins := f.pins, segs := f.segs, pli := f.pli, nsu := f.nsu }) (apart : e.Apart f)
    (queued : ∀ g cls who write address command data, e.Queued g cls who write address command data →
      f.Queued g cls who write address command data) : d.LosesPack f k := by
  have hmon (j : Pack) : f.mon j = e.mon j := by rw [same]; rfl
  have hchp : f.chp k = e.chp k := by rw [same]; rfl
  obtain ⟨record, cycle, charge, ⟨begins, ends, waits⟩, told, watch, rest⟩ := h
  refine ⟨by rw [hmon]; exact record, by rw [hmon]; exact cycle, by rw [hchp]; exact charge,
    ⟨fun hw ht => ?_, by rw [hchp]; exact ends, by rw [hchp]; exact waits⟩, apart.told.raised 6 told,
    watch.after apart fun j => by rw [hmon]; exact ⟨rfl, rfl⟩, fun hp => ?_⟩
  · obtain ⟨h1, h2, h3⟩ := begins hw ht
    exact ⟨by rw [hchp]; exact h1, by rw [hchp]; exact h2, queued _ _ _ _ _ _ _ h3⟩
  · have he := rest hp
    rw [hmon]
    generalize e.mon k = m at he
    rw [same, he]

/-- A cycle that aborts for the third time in a row. -/
theorem PackMonitor.aborted_of_loses {m : PackMonitor} (h : m.record.Loses) :
    m.aborted = { m with cycle := none, staged := [], record := { m.record with failures := 3 } } := by
  obtain ⟨hf, -⟩ := h
  have h3 : min 3 (m.record.failures + 1) = 3 := by omega
  simp only [PackMonitor.aborted, h3]

/-! ## The timers of a pack settled (R45, R53, R55 to R57) -/

/-- The part as a poll timer has started anew (R53). -/
def Dev.polled (d : Dev) (k : Pack) : Dev :=
  d.setMon k { d.mon k with pollTimer := some (Timer.ofMs d.pollInterval) }

theorem polled_mon (d : Dev) (k : Pack) :
    (d.polled k).mon k = { d.mon k with pollTimer := some (Timer.ofMs d.pollInterval) } := by
  simp [Dev.polled]

theorem pollEvent_eq {k : Pack} {d : Dev} {t : Timer} (h : (d.mon k).pollTimer = some t) : pollEvent k d =
    if (d.mon k).cycle.isNone && !(d.mon k).outstanding then beginCycle k (d.mon k).nextKind (d.polled k)
    else d.polled k := by
  have hm := polled_mon d k
  have hn : ((d.polled k).mon k).nextKind = (d.mon k).nextKind := by rw [hm]; rfl
  have hc : ((d.polled k).mon k).cycle = (d.mon k).cycle ∧ ((d.polled k).mon k).outstanding = (d.mon k).outstanding := by
    rw [hm]; exact ⟨rfl, rfl⟩
  rw [← hn, ← hc.1, ← hc.2]
  unfold pollEvent
  rw [h]
  rfl

/-- The pack's part of the PKM as the cycle of a poll timer begins (R48, R53). -/
theorem polled_begun (d : Dev) (k : Pack) : (d.polled k).begun k = { d.mon k with
    pollTimer := some (Timer.ofMs d.pollInterval), staged := []
    copyAddress := d.tst.power.packAddress.get k.ix, copyCommands := d.tst.itemmap } := by
  unfold Dev.begun
  rw [polled_mon]
  rfl

theorem nextKind_eq (m : PackMonitor) :
    m.nextKind = (if m.record.identity = none then .identify else .poll) ∧
    m.nextKind.first = (if m.record.identity = none then 8 else 0) := by
  unfold PackMonitor.nextKind
  cases m.record.identity <;> exact ⟨rfl, rfl⟩

theorem ageEvent_eq {k : Pack} {d : Dev} {t : Timer} (h : (d.mon k).ageTick = some t) : ageEvent k d =
    d.setMon k { d.mon k with
      ageTick := some ⟨t.period, t.period⟩
      record := { (d.mon k).record with
        age := min 65535 ((d.mon k).record.age + 1)
        stale := (d.mon k).record.stale || ((d.mon k).record.telemetry.isSome &&
          decide (3 * d.pollInterval < min 65535 ((d.mon k).record.age + 1) * 1000)) } } := by
  unfold ageEvent staleTest
  simp only [h, Timer.again]
  cases hs : (d.mon k).record.telemetry.isSome &&
      decide (3 * d.pollInterval < min 65535 ((d.mon k).record.age + 1) * 1000) <;> simp

/-- Settles O15, the poll timer by the three ways in which the segment meets the first read. -/
theorem packTimersRun : Obligations.PackTimersRun := by
  intro k s
  refine ⟨fun t ht => ⟨fun hbusy => ?_, fun hc ho => ?_⟩, fun t ht => ends_of_run rfl (ageEvent_eq ht)⟩
  · refine ends_of_run rfl ?_
    have hn : ¬ ((s.dev.mon k).cycle.isNone && !(s.dev.mon k).outstanding) = true := by
      rcases hbusy with h | h
      · rw [← Option.not_isSome, h]; simp
      · simp [h]
    rw [pollEvent_eq ht, if_neg hn]
    rfl
  · have hrun {e : Dev} (he : beginCycle k (s.dev.mon k).nextKind (s.dev.polled k) = e) :
        Ends (.pollTimerExpiry k) s e := by
      refine ends_of_run rfl ?_
      rw [pollEvent_eq ht, if_pos (by simp [hc, ho]), he]
    have hbegun := polled_begun s.dev k
    obtain ⟨hkind, hfirst⟩ := nextKind_eq (s.dev.mon k)
    refine ⟨fun htakes => ?_, fun hheld => ?_, fun hfault => ⟨fun hkeep => ?_, fun hf hs => ?_⟩⟩
    · obtain ⟨he, hmoves, hq⟩ := beginCycle_takes (d := s.dev.polled k) (s.dev.mon k).nextKind htakes
      refine ⟨_, hrun rfl, ?_, ⟨hmoves.moved.other, hmoves.moved.link⟩, ?_⟩
      · refine he.trans ?_
        rw [hbegun, hkind]
        simp [Dev.polled]
      · rw [hfirst] at hq
        exact hq
    · refine hrun ?_
      rw [beginCycle_held (d := s.dev.polled k) _ hheld, hbegun]
      simp [Dev.polled, setMon_eq, hc]
    · refine hrun ?_
      have hn : ¬ (((s.dev.polled k).setMon k ((s.dev.polled k).begun k)).mon k).record.Loses := by
        rw [mon_setMon, hbegun]
        exact PackRecord.not_loses hkeep
      rw [beginCycle_fault (d := s.dev.polled k) _ hfault, abortCycle_counts hn, mon_setMon, hbegun]
      simp [Dev.polled, setMon_eq, PackMonitor.aborted, hc]
    · have hl : (((s.dev.polled k).setMon k ((s.dev.polled k).begun k)).mon k).record.Loses := by
        rw [mon_setMon, hbegun]
        exact ⟨hf, hs⟩
      refine ⟨_, hrun rfl, ?_⟩
      rw [beginCycle_fault (d := s.dev.polled k) _ hfault, abortCycle_loses hl, PackMonitor.aborted_of_loses hl, mon_setMon, hbegun]
      refine Dev.Doomed.loses ⟨?_, ?_, ?_, ?_, Iff.rfl⟩
      · simp
      · simp [ho]
      · simp [Dev.polled, setMon_eq, Dev.mon]
      · exact ⟨rfl, rfl, rfl, rfl, rfl, ⟨rfl, rfl⟩, .of_same rfl rfl⟩

end Sys2Proof.Machine

namespace Sys2Proof.Machine

/-! ## An item read that has ended (R47 to R49, R54, R146, R147) -/

theorem packOf_segOf (k : Pack) : packOf (segOf k) = k := by cases k <;> rfl

theorem segOf_packOf (g : Seg) : segOf (packOf g) = g := by cases g <;> rfl

/-- The completion that the bus shows (R144). -/
def busCompletion : BusEnd → Completion
  | .ok data => .ok data
  | .addrNack => .addrNack
  | .dataNack => .dataNack
  | .timeout => .timeout

/-- How the event of a completion ends once the requester has been told: the segment comes IDLE and the arbiter acts,
but for a timeout, which leaves it RECOVERING (R146, R147). -/
def ending (g : Seg) (e : BusEnd) (d : Dev) : Dev := if e.notTimeout then becomeIdle g d else d

theorem ending_same (g : Seg) (e : BusEnd) (d : Dev) :
    ending g e d = { d with segs := (ending g e d).segs, pli := (ending g e d).pli } := by
  apply Dev.eq_of_blocks
  unfold ending
  split <;> simp

theorem Dev.MovesSeg.ending {d e : Dev} {g : Seg} (h : d.MovesSeg e g) (x : BusEnd) :
    d.MovesSeg (ending g x e) g := by
  unfold Machine.ending
  split
  · exact h.becomeIdle
  · exact h

theorem Dev.Queued.ending {d : Dev} {g : Seg} {cls : Nat} {who : Requester} {write : Bool} {address command : Nat}
    {data : List Byte} (h : d.Queued g cls who write address command data) (j : Seg) (x : BusEnd) :
    (ending j x d).Queued g cls who write address command data := by
  unfold Machine.ending
  split
  · exact h.becomeIdle j
  · exact h

/-- The part as the transaction in flight on a segment has ended and its requester is not yet told: the lines and this
segment alone have moved, which takes arrivals. -/
structure Dev.Landed (d x : Dev) (g : Seg) : Prop where
  same : x = { d with pins := x.pins, segs := x.segs }
  pins : x.pins.powerGood = d.pins.powerGood ∧ x.pins.platformReset = d.pins.platformReset
  moves : d.MovesSeg x g
  takes : (x.seg g).Takes

/-- The lines of a segment both high. -/
def Pins.lineHigh (p : Pins) (g : Seg) : Pins :=
  { p with clockHigh := p.clockHigh.set g.ix true, dataHigh := p.dataHigh.set g.ix true }

/-- The completion of a requester's transaction in flight: it lands, the requester is told, and the event ends. -/
theorem completionFor_flies {d : Dev} {g : Seg} {who : Requester} {write : Bool} {n : Nat}
    (h : d.Flies g who write n) (e : BusEnd) (he : ∀ data, e = .ok data → data.length = if write then 0 else n) :
    ∃ t x, t.requester = who ∧ d.Landed x g ∧ (e.notTimeout = true → x.pins = d.pins.lineHigh g) ∧
      completionFor g who e d = ending g e (deliver g t (busCompletion e) x) := by
  obtain ⟨t, ht, hr, hw, hl⟩ := h
  have hrun : completionFor g who e d = endTxn g t e d := by
    unfold completionFor
    rw [ht]
    exact if_pos hr
  have landed (p : Pins) (y : Segment) (hy : y.sequence = (d.seg g).sequence) (ht : y.Takes)
      (hp : p.powerGood = d.pins.powerGood ∧ p.platformReset = d.pins.platformReset) :
      d.Landed ((d.setPins p).setSeg g y) g :=
    ⟨rfl, hp, ((Dev.MovesSeg.of_same (d := d) (e := d.setPins p) g rfl rfl).setSeg y hy), by rw [seg_setSeg]; exact ht⟩
  have finished (hn : e.notTimeout = true) (hend : endTxn g t e d = finishTxn g t (busCompletion e) d) :
      ∃ t x, t.requester = who ∧ d.Landed x g ∧ (e.notTimeout = true → x.pins = d.pins.lineHigh g) ∧
        completionFor g who e d = ending g e (deliver g t (busCompletion e) x) := by
    refine ⟨t, _, hr, landed (d.pins.lineHigh g) ((d.seg g).drop .busy) rfl ?_ ⟨rfl, rfl⟩, fun _ => rfl, ?_⟩
    · simp [Segment.Takes, Segment.drop]
    · rw [hrun, hend, ending, if_pos hn]
      rfl
  cases e with
  | ok data =>
    have hd : data.length = t.okLength := by rw [he data rfl, Txn.okLength, hw, hl]
    exact finished rfl (if_pos hd)
  | addrNack => exact finished rfl rfl
  | dataNack => exact finished rfl rfl
  | timeout =>
    obtain ⟨p, hp, hshow⟩ : ∃ p : Pins, (p.powerGood = d.pins.powerGood ∧ p.platformReset = d.pins.platformReset) ∧
        showStretch g d = d.setPins p := by
      unfold showStretch
      split
      · exact ⟨d.pins, ⟨rfl, rfl⟩, rfl⟩
      · exact ⟨{ d.pins with clockHigh := d.pins.clockHigh.set g.ix false }, ⟨rfl, rfl⟩, rfl⟩
    refine ⟨t, _, hr, landed p { (d.seg g).drop .recovering with fromFault := false } rfl ?_ hp, nofun, ?_⟩
    · simp [Segment.Takes, Segment.drop]
    · rw [hrun]
      show timeoutTxn g t d = _
      unfold timeoutTxn
      rw [hshow]
      rfl

/-- A pack item read's completion, told to the PKM. -/
theorem packItem_lands {d : Dev} {k : Pack} (h : d.Flies (segOf k) .pkm false 2) {e : BusEnd}
    (he : (∃ lo hi, e = .ok [lo, hi]) ∨ e = .addrNack ∨ e = .dataNack ∨ e = .timeout) :
    ∃ x, d.Landed x (segOf k) ∧ (e.notTimeout = true → x.pins = d.pins.lineHigh (segOf k)) ∧
      completionFor (segOf k) .pkm e d = ending (segOf k) e (packCompleted k (busCompletion e) x) := by
  obtain ⟨t, x, hr, hl, hp, hc⟩ := completionFor_flies h e (by
    rintro data rfl
    rcases he with ⟨lo, hi, h⟩ | h | h | h <;> simp_all)
  refine ⟨x, hl, hp, ?_⟩
  rw [hc, deliver, hr]
  simp only [packOf_segOf]

theorem Dev.Landed.mon {d x : Dev} {g : Seg} (h : d.Landed x g) (k : Pack) : x.mon k = d.mon k := by
  rw [h.same]; rfl

theorem Dev.Landed.tst {d x : Dev} {g : Seg} (h : d.Landed x g) : x.tst = d.tst := by rw [h.same]

theorem Dev.Landed.apart {d x : Dev} {g : Seg} (h : d.Landed x g) : d.Apart x := by
  have hpins := h.pins
  have hsame := h.same
  refine ⟨?_, ?_, ?_, ?_, ?_, hpins, .of_same ?_ ?_⟩ <;> rw [hsame]

/-- Where the PKM moves the packs, this segment and the link alone, the event ends with these alone moved. -/
theorem Dev.Landed.settles {d x y : Dev} {g : Seg} (h : d.Landed x g) {p : Pair PackMonitor} (e : BusEnd)
    (hy : y = { x with pkm := p, segs := y.segs, pli := y.pli }) (hm : x.MovesSeg y g) :
    ending g e y = { d with
      pins := (ending g e y).pins, pkm := p, segs := (ending g e y).segs, pli := (ending g e y).pli } ∧
    (ending g e y).pins = x.pins ∧ d.SegmentMoved (ending g e y) g := by
  have hsame := h.same
  have hend := ending_same g e y
  refine ⟨?_, ?_, ⟨((h.moves.trans hm).ending e).moved.other, ((h.moves.trans hm).ending e).moved.link⟩⟩
  · generalize ending g e y = f at hend ⊢
    rw [hend, hy, hsame]
  · rw [hend, hy]

/-! ### What the PKM makes of a completion -/

/-- A completion that has failed for good or for its first time, other than by SEG_RESET (R55). -/
def Completion.Fails (c : Completion) : Prop := c = .addrNack ∨ c = .dataNack ∨ c = .timeout ∨ c = .segFault

/-- A pack's monitor as its read has been met: nothing is outstanding. -/
def PackMonitor.met (m : PackMonitor) : PackMonitor := { m with outstanding := false }

theorem packCompleted_of_orphan {k : Pack} {d : Dev} (c : Completion) (h : (d.mon k).orphan = true) :
    packCompleted k c d =
      if (d.mon k).record.state = .identifying then
        beginCycle k .identify (d.setMon k { (d.mon k).met with orphan := false })
      else d.setMon k { (d.mon k).met with orphan := false } := by
  have hs : ((d.setMon k { d.mon k with outstanding := false, orphan := false }).mon k).record.state =
      (d.mon k).record.state := by rw [mon_setMon]
  unfold packCompleted orphanCompleted
  rw [if_pos h]
  dsimp only
  rw [hs]
  rfl

theorem packCompleted_of_idle {k : Pack} {d : Dev} (c : Completion) (ho : (d.mon k).orphan = false)
    (hc : (d.mon k).cycle = none) : packCompleted k c d = d.setMon k (d.mon k).met := by
  unfold packCompleted
  simp [ho, hc, PackMonitor.met]

theorem packCompleted_ok {k : Pack} {d : Dev} {cy : Cycle} (data : List Byte) (ho : (d.mon k).orphan = false)
    (hc : (d.mon k).cycle = some cy) : packCompleted k (.ok data) d = itemRead k cy data (d.setMon k (d.mon k).met) := by
  unfold packCompleted
  simp [ho, hc, PackMonitor.met]

theorem packCompleted_segReset {k : Pack} {d : Dev} {cy : Cycle} (ho : (d.mon k).orphan = false)
    (hc : (d.mon k).cycle = some cy) : packCompleted k .segReset d = d.setMon k (d.mon k).met.endCycle := by
  unfold packCompleted
  simp [ho, hc, PackMonitor.met]

theorem packCompleted_fails {k : Pack} {d : Dev} {cy : Cycle} {c : Completion} (hf : c.Fails)
    (ho : (d.mon k).orphan = false) (hc : (d.mon k).cycle = some cy) : packCompleted k c d =
      if cy.retryUsed then abortCycle k (d.setMon k (d.mon k).met)
      else issueItem k { cy with retryUsed := true } (d.setMon k (d.mon k).met) := by
  unfold packCompleted
  rcases hf with rfl | rfl | rfl | rfl <;> simp [ho, hc, PackMonitor.met]

/-- A pack's monitor as an item has joined the staged sample (R49, R54). -/
def PackMonitor.staging (m : PackMonitor) (c : Cycle) (data : List Byte) : PackMonitor :=
  { m.met with staged := m.staged ++ [itemValue c.itemIndex data] }

theorem itemRead_met {k : Pack} {d : Dev} (c : Cycle) (data : List Byte) :
    itemRead k c data (d.setMon k (d.mon k).met) =
      if c.item + 1 < c.kind.items then
        issueItem k ⟨c.kind, c.item + 1, false⟩ (d.setMon k ((d.mon k).staging c data))
      else finishCycle k c.kind (d.setMon k ((d.mon k).staging c data)) := by
  unfold itemRead
  dsimp only
  rw [mon_setMon, setMon_setMon]
  rfl

/-! ### The value of an item (R49) -/

theorem u16At_pair (lo hi : Byte) : u16At [lo, hi] 0 = lo.toNat + 256 * hi.toNat := by
  simp [u16At, leNat]

theorem s16At_pair (lo hi : Byte) : s16At [lo, hi] 0 =
    if lo.toNat + 256 * hi.toNat < 32768 then ((lo.toNat + 256 * hi.toNat : Nat) : Int)
    else ((lo.toNat + 256 * hi.toNat : Nat) : Int) - 65536 := by
  rw [s16At, u16At_pair]
  unfold signedOf
  simp only [Nat.reduceMul, Nat.reduceSub, Nat.reducePow]
  split <;> rfl

/-- An identity item is taken as it is sent (R49). -/
theorem itemValue_identity {j : Nat} (h : 7 ≤ j) (data : List Byte) : itemValue j data = some (u16At data 0 : Int) := by
  match j, h with
  | 7, _ | _ + 8, _ => rfl

end Sys2Proof.Machine

namespace Sys2Proof.Machine

/-! ## An item staged, read again, given up or discarded: settled (R47 to R49, R51, R54 to R56) -/

theorem ends_of_completion {k : Pack} {s : State} {e : BusEnd} {d : Dev}
    (h : completionFor (segOf k) .pkm e s.dev = d) : Ends (.packItemCompletion k e) s d :=
  ends_of_run (f := completionFor (segOf k) .pkm e) rfl h

theorem cycleItems (c : CycleKind) : c.items = (match c with | .identify => 3 | .poll => 8) ∧
    c.first = (match c with | .identify => 8 | .poll => 0) := by
  cases c <;> exact ⟨rfl, rfl⟩

/-- The values that an item before the last of its cycle stages (R49). -/
theorem itemValue_spec (c : Cycle) (lo hi : Byte) :
    let u : Nat := lo.toNat + 256 * hi.toNat
    let x : Int := if u < 32768 then u else (u : Int) - 65536
    let v := itemValue c.itemIndex [lo, hi]
    (c.kind = .identify → v = some (u : Int)) ∧
    (c.kind = .poll →
      (c.item = 0 → v = some (min 20000 (u : Int))) ∧
      (c.item = 1 → v = some (max (-10000) (min 10000 x))) ∧
      (c.item = 2 → v = some (max (-400) (min 1500 x))) ∧
      (c.item = 3 → v = some (min 100 (u : Int))) ∧
      (c.item = 4 → v = some (u : Int)) ∧
      (c.item = 5 → v = if u = 65535 then none else some (min 10000 (u : Int))) ∧
      (c.item = 6 → v = if u = 65535 then none else some (min 20000 (u : Int)))) := by
  obtain ⟨kind, item, r⟩ := c
  have hu := u16At_pair lo hi
  have hs := s16At_pair lo hi
  refine ⟨fun hk => ?_, fun hk => ?_⟩ <;> dsimp only at hk <;> subst hk
  · rw [itemIndex_eq, itemValue_identity (by simp only [CycleKind.first]; omega), hu]
  · refine ⟨?_, ?_, ?_, ?_, ?_, ?_, ?_⟩ <;> intro hi <;> dsimp only at hi <;> subst hi <;>
      simp [Cycle.itemIndex, itemValue, hu, hs, saturate, saturateNat]

/-- A read handed on after a completion, the event having ended: the pack's monitor, this segment and the link have
moved, and the read stands in the queue. -/
theorem Dev.Landed.issues {d x y : Dev} {k : Pack} (h : d.Landed x (segOf k)) (e : BusEnd) (c : Cycle) (m : PackMonitor)
    (hx : y = x.setMon k m) :
    let f := ending (segOf k) e (issueItem k c y)
    f = { d with
      pins := f.pins, pkm := d.pkm.set k.ix { m with cycle := some c, outstanding := true }
      segs := f.segs, pli := f.pli } ∧
    f.pins = x.pins ∧ d.SegmentMoved f (segOf k) ∧
    f.Queued (segOf k) 1 .pkm false m.copyAddress (m.copyCommands.getD (c.kind.first + c.item) 0) [] := by
  have hp : x.pkm = d.pkm := by rw [h.same]
  have htakes : (y.seg (segOf k)).Takes := hx ▸ h.takes
  obtain ⟨he, hm, hq⟩ := issueItem_takes c htakes
  have hmon : y.mon k = m := by rw [hx, mon_setMon]
  rw [hmon] at he hq
  rw [itemIndex_eq] at hq
  obtain ⟨h1, h2, h3⟩ := h.settles e (y := issueItem k c y)
    (p := d.pkm.set k.ix { m with cycle := some c, outstanding := true })
    (he.trans (by rw [hx]; simp [hp])) ((hx ▸ (Dev.MovesSeg.refl x _).setMon k m : x.MovesSeg y _).trans hm)
  exact ⟨h1, h2, h3, hq.ending _ _⟩

/-- The pack's monitor alone moved, the event having ended. -/
theorem Dev.Landed.leaves {d x : Dev} {k : Pack} (h : d.Landed x (segOf k)) (e : BusEnd) (m : PackMonitor) :
    let f := ending (segOf k) e (x.setMon k m)
    f = { d with pins := f.pins, pkm := d.pkm.set k.ix m, segs := f.segs, pli := f.pli } ∧
    d.SegmentMoved f (segOf k) := by
  have hp : x.pkm = d.pkm := by rw [h.same]
  obtain ⟨h1, -, h3⟩ := h.settles e (p := d.pkm.set k.ix m) (by rw [setMon_eq, hp]) ((Dev.MovesSeg.refl x _).setMon k m)
  exact ⟨h1, h3⟩

theorem ending_apart (g : Seg) (e : BusEnd) (d : Dev) : d.Apart (ending g e d) := by
  have hsame := ending_same g e d
  have htold : d.Tells (ending g e d) := by
    unfold ending
    split
    · exact (setSeg_tells g _ d).trans (arbitrate_tells g _)
    · exact .refl d
  refine ⟨?_, ?_, ?_, ?_, ?_, ?_, htold⟩ <;> rw [hsame]
  exact ⟨rfl, rfl⟩

theorem busCompletion_fails {e : BusEnd} (h : e = .addrNack ∨ e = .dataNack ∨ e = .timeout) :
    (busCompletion e).Fails := by
  rcases h with rfl | rfl | rfl <;> simp [busCompletion, Completion.Fails]

/-- A completion that fails for good loses the pack where its cycle is the third in a row to abort (R55, R56). -/
theorem Dev.Landed.dooms {d x : Dev} {k : Pack} (h : d.Landed x (segOf k)) (ht : (d.seg (segOf k)).Takes)
    (hl : (d.mon k).record.Loses) : d.Doomed (x.setMon k (d.mon k).met.aborted) k := by
  have hl : (d.mon k).met.record.Loses := hl
  have hx := h.same
  rw [PackMonitor.aborted_of_loses hl]
  refine ⟨by rw [mon_setMon]; rfl, by rw [mon_setMon]; exact ⟨rfl, rfl, rfl⟩, ?_, ?_, iff_of_true h.takes ht⟩
  · rw [mon_setMon, setMon_eq]
    rw [hx]
  · exact h.apart.trans ⟨rfl, rfl, rfl, rfl, rfl, ⟨rfl, rfl⟩, .of_same rfl rfl⟩

/-- A segment with a transaction in flight takes arrivals. -/
theorem Dev.Flies.takes {d : Dev} {g : Seg} {who : Requester} {write : Bool} {n : Nat} (h : d.Flies g who write n) :
    (d.seg g).Takes := by
  obtain ⟨t, ht, -⟩ := h
  unfold Segment.current at ht
  split at ht
  · rename_i hb
    simp [Segment.Takes, hb]
  · simp at ht

theorem begun_setMon (d : Dev) (k : Pack) (m : PackMonitor) : (d.setMon k m).begun k = { m with
    staged := [], copyAddress := d.tst.power.packAddress.get k.ix, copyCommands := d.tst.itemmap } := by
  unfold Dev.begun
  rw [mon_setMon]
  rfl

/-- Settles O16: each completion by what the PKM makes of it, on a segment that takes arrivals. -/
theorem packItemIsStaged : Obligations.PackItemIsStaged := by
  intro k s
  refine ⟨fun lo hi c hf ho hc hlt => ?_, fun e c he hf ho hc => ?_, fun e he hf ho => ?_⟩
  · obtain ⟨x, hl, hp, hrun⟩ := packItem_lands hf (e := .ok [lo, hi]) (.inl ⟨lo, hi, rfl⟩)
    have hm := hl.mon k
    have hlt : c.item + 1 < c.kind.items := by rw [(cycleItems _).1]; exact hlt
    have hok : packCompleted k (busCompletion (.ok [lo, hi])) x =
        itemRead k c [lo, hi] (x.setMon k (x.mon k).met) := packCompleted_ok _ (by rw [hm, ho]) (by rw [hm, hc])
    rw [hok, itemRead_met, if_pos hlt, hm] at hrun
    obtain ⟨h1, h2, h3, h4⟩ := hl.issues (.ok [lo, hi]) ⟨c.kind, c.item + 1, false⟩ _ rfl
    rw [h2, hp rfl] at h1
    rw [(cycleItems _).2] at h4
    exact ⟨_, itemValue c.itemIndex [lo, hi], ends_of_completion hrun, h1, itemValue_spec c lo hi, h3, h4⟩
  · obtain ⟨x, hl, -, hrun⟩ := packItem_lands hf (.inr he)
    have hm := hl.mon k
    rw [packCompleted_fails (busCompletion_fails he) (by rw [hm, ho]) (by rw [hm, hc]), hm] at hrun
    have haborted : ((x.setMon k (s.dev.mon k).met).mon k) = (s.dev.mon k).met := mon_setMon ..
    refine ⟨fun hr => ?_, fun hr hkeep => ?_, fun hr hn hs => ?_⟩ <;> rw [hr] at hrun
    · obtain ⟨h1, -, h3, h4⟩ := hl.issues e { c with retryUsed := true } (s.dev.mon k).met rfl
      rw [(cycleItems _).2] at h4
      exact ⟨_, ends_of_completion hrun, h1, h3, h4⟩
    · have hn : ¬ ((x.setMon k (s.dev.mon k).met).mon k).record.Loses := by
        rw [haborted]
        exact PackRecord.not_loses hkeep
      rw [if_pos rfl, abortCycle_counts hn, haborted, setMon_setMon] at hrun
      exact ⟨_, ends_of_completion hrun, hl.leaves e (s.dev.mon k).met.aborted⟩
    · have hloses : ((x.setMon k (s.dev.mon k).met).mon k).record.Loses := by
        rw [haborted]
        exact ⟨hn, hs⟩
      rw [if_pos rfl, abortCycle_loses hloses, haborted, setMon_setMon] at hrun
      refine ⟨_, ends_of_completion hrun, (hl.dooms hf.takes ⟨hn, hs⟩).loses.after ?_ (ending_apart _ _ _)
        fun _ _ _ _ _ _ _ h => h.ending _ e⟩
      have hsame := ending_same (segOf k) e (enterCommLost k (x.setMon k (s.dev.mon k).met.aborted))
      generalize ending (segOf k) e (enterCommLost k (x.setMon k (s.dev.mon k).met.aborted)) = f at hsame
      rw [hsame]
  · obtain ⟨x, hl, -, hrun⟩ := packItem_lands hf he
    have hm := hl.mon k
    rw [packCompleted_of_orphan _ (by rw [hm, ho]), hm] at hrun
    dsimp only
    split
    · rename_i hi
      have hi : (s.dev.mon k).record.state = .identifying := hi
      rw [if_pos hi, beginCycle_eq, begun_setMon, setMon_setMon, hl.tst] at hrun
      obtain ⟨h1, -, h3, h4⟩ := hl.issues e ⟨.identify, 0, false⟩ _ rfl
      exact ⟨_, ends_of_completion hrun, h1, h3, fun _ => h4⟩
    · rename_i hi
      have hi : ¬ (s.dev.mon k).record.state = .identifying := hi
      rw [if_neg hi] at hrun
      obtain ⟨h1, h3⟩ := hl.leaves e { (s.dev.mon k).met with orphan := false }
      exact ⟨_, ends_of_completion hrun, h1, h3, fun h => absurd h hi⟩

end Sys2Proof.Machine

namespace Sys2Proof.Machine

/-! ## What the CHG reads (R66 to R76, R79, R145)

An allocation, a stage change and the starts of passes read the CHG itself, the packs' records, the tables, the zone
and the fans, and of a segment whether it refuses arrivals. -/

/-- Two states alike in what the CHG reads. -/
structure Dev.ChargesAlike (d e : Dev) : Prop where
  chg : e.chg = d.chg
  pkm : e.pkm = d.pkm
  tst : e.tst = d.tst
  tfu : e.tfu = d.tfu
  profile : e.profile = d.profile
  refusal : ∀ g, (e.seg g).state.refusal = (d.seg g).state.refusal

section
variable {d e : Dev}

theorem Dev.ChargesAlike.chp (h : d.ChargesAlike e) (k : Pack) : e.chp k = d.chp k := by simp [Dev.chp, h.chg]

theorem Dev.ChargesAlike.mon (h : d.ChargesAlike e) (k : Pack) : e.mon k = d.mon k := by simp [Dev.mon, h.pkm]

theorem Dev.ChargesAlike.withChp (h : d.ChargesAlike e) (k : Pack) (x : ChargePack) :
    (d.setChp k x).ChargesAlike (e.setChp k x) :=
  ⟨by simp only [Dev.setChp, setChg_chg, h.chg], h.pkm, h.tst, h.tfu, h.profile, h.refusal⟩

/-- The states alike stay so where a notice or a record is handed on in either. -/
theorem Dev.ChargesAlike.moved {x y : Dev} (h : d.ChargesAlike e) (hx : d.ChargesAlike x) (hy : e.ChargesAlike y) :
    x.ChargesAlike y :=
  ⟨hy.chg.trans (h.chg.trans hx.chg.symm), hy.pkm.trans (h.pkm.trans hx.pkm.symm),
    hy.tst.trans (h.tst.trans hx.tst.symm), hy.tfu.trans (h.tfu.trans hx.tfu.symm),
    hy.profile.trans (h.profile.trans hx.profile.symm), fun g => (hy.refusal g).trans ((h.refusal g).trans (hx.refusal g).symm)⟩

theorem raise_chargesAlike (n : Notice) (d : Dev) : d.ChargesAlike (raise n d) :=
  ⟨rfl, rfl, rfl, rfl, rfl, fun _ => rfl⟩

theorem submit_chargesAlike (g : Seg) (t : Txn) (d : Dev) : d.ChargesAlike (submit g t d).1 :=
  ⟨by simp, by simp, by simp, by simp, by simp, fun j => submit_refusal g j t d⟩

/-- What a demand is computed from (R74). -/
theorem Dev.ChargesAlike.pack (h : d.ChargesAlike e) (k : Pack) : e.band k = d.band k ∧ e.target k = d.target k ∧
    e.eligible k = d.eligible k ∧ e.demand k = d.demand k ∧ e.soc k = d.soc k ∧ e.reqVoltage k = d.reqVoltage k := by
  have hmon := h.mon k
  have hchp := h.chp k
  have hprofile : e.profileOf k = d.profileOf k := by unfold Dev.profileOf; rw [hmon, h.tst]
  have hband : e.band k = d.band k := by unfold Dev.band; rw [hmon, hprofile]
  have hcells : e.cells k = d.cells k := by unfold Dev.cells; rw [hmon]
  have hheld : ((e.seg (segOf k)).state != .held) = ((d.seg (segOf k)).state != .held) := by
    rw [Bool.eq_iff_iff, bne_iff_ne, bne_iff_ne, ne_eq, ne_eq, ← refusal_eq_held, ← refusal_eq_held, h.refusal]
  have heligible : e.eligible k = d.eligible k := by unfold Dev.eligible; rw [hchp, hband, hheld]
  have hrequest : e.reqCurrent k = d.reqCurrent k := by unfold Dev.reqCurrent; rw [hmon]
  have hbase : e.baseDemand k = d.baseDemand k := by
    unfold Dev.baseDemand
    rw [hband, heligible, hrequest, hprofile, hchp]
  have hfan : e.anyFanFault = d.anyFanFault := by unfold Dev.anyFanFault Dev.fan; rw [h.tfu, h.profile]
  refine ⟨hband, ?_, heligible, ?_, ?_, ?_⟩
  · unfold Dev.target; rw [hband, hcells, hprofile]
  · unfold Dev.demand; rw [hbase, h.tst, h.tfu, hfan]
  · unfold Dev.soc; rw [hmon]
  · unfold Dev.reqVoltage; rw [hmon]

theorem Dev.ChargesAlike.allocate (h : d.ChargesAlike e) : (allocate d).ChargesAlike (allocate e) := by
  have hheadroom : e.headroom = d.headroom := headroom_congr (by rw [h.chg]) h.tst
  obtain ⟨-, ta, ea, da, sa, ra⟩ := h.pack .a
  obtain ⟨-, tb, eb, db, sb, rb⟩ := h.pack .b
  have hgrants : e.grantsOf = d.grantsOf := by
    unfold Dev.grantsOf Dev.bFirst
    rw [ta, ea, da, sa, tb, eb, db, sb, hheadroom, h.tst]
  have ha (n : Nat) : e.allocated .a n = d.allocated .a n := by
    unfold Dev.allocated Dev.newCurrent; rw [ta, da, ra, h.chp, h.tst]
  have hb (n : Nat) : e.allocated .b n = d.allocated .b n := by
    unfold Dev.allocated Dev.newCurrent; rw [tb, db, rb, h.chp, h.tst]
  have hchg : (Machine.allocate e).chg = (Machine.allocate d).chg := by
    unfold Machine.allocate
    simp only [setChg_chg, hgrants, hheadroom, h.chg, ha, hb]
  exact ⟨hchg, h.pkm, h.tst, h.tfu, h.profile, h.refusal⟩

theorem Dev.ChargesAlike.stageChange (h : d.ChargesAlike e) (k : Pack) (new : Stage) :
    (stageChange k new d).ChargesAlike (stageChange k new e) := by
  unfold Machine.stageChange
  dsimp only
  rw [h.chp k]
  exact ((h.withChp k _).moved (raise_chargesAlike _ _) (raise_chargesAlike _ _)).allocate

theorem Dev.ChargesAlike.startPass (h : d.ChargesAlike e) (k : Pack) :
    (startPass k d).1.ChargesAlike (startPass k e).1 ∧ (startPass k e).2 = (startPass k d).2 := by
  have hs := h.moved (submit_chargesAlike (segOf k) (chargerTxn k false d) d)
    (submit_chargesAlike (segOf k) (chargerTxn k false e) e)
  have writer {x y : Dev} (hxy : x.ChargesAlike y) (w : WriterState) (r : Bool) :
      (setWriter k w r x).ChargesAlike (setWriter k w r y) := by
    unfold setWriter
    rw [hxy.chp]
    exact hxy.withChp k _
  have again {x y : Dev} (hxy : x.ChargesAlike y) (b : Bool) : (setAgain k b x).ChargesAlike (setAgain k b y) := by
    unfold setAgain
    rw [hxy.chp]
    exact hxy.withChp k _
  have hfaults {x y : Dev} (hxy : x.ChargesAlike y) : y.faultsPack k = x.faultsPack k := by
    unfold Dev.faultsPack
    rw [hxy.mon, hxy.chp]
  unfold Machine.startPass issueWrite passDead
  dsimp only
  rw [h.chp k, submit_snd, submit_snd, h.refusal]
  split
  · split
    · exact ⟨writer hs _ _, rfl⟩
    · exact ⟨writer hs _ _, rfl⟩
    · exact ⟨again (writer hs _ _) _, hfaults hs⟩
  · exact ⟨again h _, rfl⟩

theorem changedPacks_congr {x y : Dev} (h : d.ChargesAlike e) (hxy : x.ChargesAlike y) :
    changedPacks e y = changedPacks d x := by
  unfold changedPacks
  simp only [h.chp, hxy.chp]

theorem Dev.ChargesAlike.startPasses (h : d.ChargesAlike e) (n : Nat) (ks : List Pack) :
    (startPasses n ks d).ChargesAlike (startPasses n ks e) := by
  induction n generalizing d e ks with
  | zero => cases ks <;> exact h
  | succ n ih =>
    cases ks with
    | nil => exact h
    | cons k ks =>
      obtain ⟨hp, hf⟩ := h.startPass k
      have hs := hp.stageChange k .fault
      simp only [Machine.startPasses, hf, faultPack, changedPacks_congr hp hs]
      split
      · exact ih hs _
      · exact ih hp ks

theorem Dev.ChargesAlike.writeChanged {x y : Dev} (h : d.ChargesAlike e) (hxy : x.ChargesAlike y) :
    (writeChanged d x).ChargesAlike (writeChanged e y) := by
  unfold Machine.writeChanged
  rw [changedPacks_congr h hxy]
  exact hxy.startPasses 8 _

end

/-- A pack at the CHG with the termination count after a sample complete (R67). -/
def Dev.counted (d : Dev) (k : Pack) : ChargePack :=
  { d.chp k with
    termCount := nextTermCount (d.chp k) (d.profileOf k)
      (match (d.mon k).record.telemetry with | none => 0 | some t => t.current) }

/-- The stage of a pack evaluated, with its change (R65, R66). -/
def restage (k : Pack) (d : Dev) : Dev :=
  if d.evaluateStage k = (d.chp k).stage then d else changeStage k (d.evaluateStage k) d

theorem sampleComplete_eq (k : Pack) (d : Dev) :
    sampleComplete k d = allocateAndWrite (restage k (d.setChp k (d.counted k))) := rfl

/-- A sample complete makes the same of two states alike (R66). -/
theorem Dev.ChargesAlike.sampleComplete {d e : Dev} (h : d.ChargesAlike e) (k : Pack) :
    (sampleComplete k d).ChargesAlike (sampleComplete k e) := by
  have hprofile : e.profileOf k = d.profileOf k := by unfold Dev.profileOf; rw [h.mon, h.tst]
  have hcounted : e.counted k = d.counted k := by unfold Dev.counted; rw [h.chp, h.mon, hprofile]
  have hx := h.withChp k (d.counted k)
  rw [sampleComplete_eq, sampleComplete_eq, hcounted]
  generalize d.setChp k (d.counted k) = x at hx ⊢
  generalize e.setChp k (d.counted k) = y at hx ⊢
  have hstage : y.evaluateStage k = x.evaluateStage k := by
    unfold Dev.evaluateStage Dev.cells Dev.profileOf
    rw [hx.chp, hx.mon, hx.tst]
  have hr : (restage k x).ChargesAlike (restage k y) := by
    unfold restage
    rw [hstage, hx.chp]
    split
    · exact hx
    · exact hx.writeChanged (hx.stageChange k (x.evaluateStage k))
  exact hr.writeChanged hr.allocate

end Sys2Proof.Machine

namespace Sys2Proof.Machine

/-! ## A sample committed, an identity judged: settled (R51, R52, R54, R66, R82, R83, R93) -/

theorem restage_core (k : Pack) (d : Dev) : (restage k d).chg.core = d.chg.core := by
  unfold restage
  split
  · rfl
  · exact startPasses_core ..

theorem sampleComplete_core (k : Pack) (d : Dev) : (sampleComplete k d).chg.core = d.chg.core := by
  rw [sampleComplete_eq, allocateAndWrite_core, restage_core]
  rfl

theorem sampleComplete_apart (k : Pack) (d : Dev) : d.Apart (sampleComplete k d) := by
  refine ⟨?_, by simp, by simp, by simp, by simp, by simp, (tells_handsOn d).sampleComplete k (.refl d)⟩
  rw [(Chg.core_eq_iff _ _).mp (sampleComplete_core k d)]

/-- The allocation of a sample complete records the headroom as it is (R73). -/
theorem sampleComplete_headroom (k : Pack) (d : Dev) :
    (sampleComplete k d).chg.headroom = d.headroom ∧ (sampleComplete k d).headroom = d.headroom := by
  refine ⟨?_, headroom_congr (sampleComplete_core k d) (by simp)⟩
  rw [sampleComplete_eq, allocateAndWrite_headroom]
  refine headroom_congr ((restage_core ..).trans rfl) ?_
  unfold restage
  split <;> simp

theorem Dev.Entered.headroom {d e : Dev} {p : PowerState} (h : d.Entered e p) : e.headroom = d.headroom := by
  unfold Dev.headroom Dev.systemPower Dev.budget Dev.ratedPower Chg.fallback
  rw [h.charge, h.frame.1]

/-- The watch leaves the headroom recorded and the headroom as it is (R73, R105). -/
theorem batteryWatch_headroom {d : Dev} (h : d.chg.headroom = d.headroom) :
    (batteryWatch d).chg.headroom = d.headroom := by
  refine (batteryWatch_keeps (Q := fun e => e.headroom = d.headroom ∧ e.chg.headroom = d.headroom)
    (fun x e p he hx => ?_) (fun x e _ _ ht hc hx => ?_) ⟨rfl, h⟩).2
  · obtain ⟨h1, h2⟩ := hx
    have h3 := he.headroom.trans h1
    refine ⟨h3, ?_⟩
    by_cases hf : p = .off ∧ ∃ f, x.fanFitted f = true ∧ (x.fan f).fault = true
    · exact (he.recovers hf.1 hf.2).2.trans h3
    · have hn : p ≠ .off ∨ ∀ f, x.fanFitted f = true → (x.fan f).fault = false := by
        by_cases hp : p = .off
        · exact .inr fun f hf' => by simpa using fun hx => hf ⟨hp, f, hf', hx⟩
        · exact .inl hp
      exact (he.commands hn).1.trans h2
  · obtain ⟨h1, h2⟩ := hx
    have hh : e.headroom = x.headroom := by
      unfold Dev.headroom Dev.systemPower Dev.budget Dev.ratedPower Chg.fallback
      rw [hc, ht]
    exact ⟨hh.trans h1, by rw [hc]; exact h2⟩

/-- A record of age 0 is not stale whatever the poll interval (R45). -/
theorem retime_of_fresh {m : PackMonitor} (ms : Nat) (h : m.record.age = 0) :
    (m.retime ms).record = m.record ∧ (m.retime ms).cycle = m.cycle ∧ (m.retime ms).staged = m.staged ∧
      (m.retime ms).outstanding = m.outstanding ∧ (m.retime ms).ageTick = m.ageTick := by
  unfold PackMonitor.retime staleTest
  split
  · exact ⟨rfl, rfl, rfl, rfl, rfl⟩
  · split
    · exact ⟨rfl, rfl, rfl, rfl, rfl⟩
    · simp [h]

/-! ### The status word (R49, R196) -/

theorem testBit_pair (lo hi : Byte) {i : Nat} (h : i < 8) : (lo.toNat + 256 * hi.toNat).testBit i = lo.getLsbD i := by
  rw [Nat.add_comm, show (256 : Nat) = 2 ^ 8 from rfl, Nat.testBit_two_pow_mul_add _ lo.isLt, if_pos h]
  rfl

theorem ofWord_pair (lo hi : Byte) : PackStatus.ofWord (lo.toNat + 256 * hi.toNat) =
    ⟨lo.getLsbD 6, lo.getLsbD 5, lo.getLsbD 7, lo.getLsbD 4, lo.getLsbD 3⟩ := by
  simp [PackStatus.ofWord, testBit_pair]

/-! ### The commit -/

/-- A pack's monitor as a sample is committed (R54). -/
def PackMonitor.committed (m : PackMonitor) : PackMonitor :=
  { m with
    cycle := none, staged := [], ageTick := some (Timer.ofMs 1000)
    record := m.record.commit (stagedTelemetry m.staged) }

/-- The part as a sample is committed, before the CHG is told (R54, R93). -/
def Dev.committing (d : Dev) (k : Pack) (m : PackMonitor) : Dev :=
  { d with
    pkm := d.pkm.set k.ix m.committed
    tfu := { d.tfu with pack := d.tfu.pack.set k.ix (some ((stagedTelemetry m.staged).temperature / 10)) } }

theorem commitSample_eq (k : Pack) (m : PackMonitor) (d : Dev) : commitSample k (d.setMon k m) =
    if m.record.state = .identifying ∨ m.record.state = .commLost then
      raise (.packChange k .ready) (batteryWatch (sampleComplete k (d.committing k m)))
    else batteryWatch (sampleComplete k (d.committing k m)) := by
  have hc : setPackSource k (some (wholeDegrees (stagedTelemetry m.staged).temperature))
      ((d.setMon k m).setMon k { m.endCycle with
        record := m.record.commit (stagedTelemetry m.staged), ageTick := some (Timer.ofMs Config.ageTickMs) }) =
      d.committing k m := by
    rw [setMon_setMon]
    rfl
  unfold commitSample
  dsimp only
  rw [mon_setMon, hc]

/-- The telemetry of a whole sample (R54). -/
theorem stagedTelemetry_whole (v i t c f : Int) (rc rv : Option Int) (u : Nat) :
    stagedTelemetry [some v, some i, some t, some c, some f, rc, rv, some (u : Int)] =
      ⟨v.toNat, i, t, c.toNat, f.toNat, rc.map Int.toNat, rv.map Int.toNat, PackStatus.ofWord u⟩ := rfl

/-- The part as a sample has been committed, the CHG and the watch have acted, and PACK_CHANGE is raised where it is. -/
structure Dev.Commits (d z f : Dev) (k : Pack) (m : PackMonitor) : Prop where
  monitor : (f.mon k).record = m.committed.record ∧ (f.mon k).cycle = none ∧ (f.mon k).staged = [] ∧
    (f.mon k).outstanding = m.outstanding ∧ (f.mon k).ageTick = some (Timer.ofMs 1000)
  source : f.tfu.pack.get k.ix = some ((stagedTelemetry m.staged).temperature / 10)
  tables : f.tst = d.tst ∧ f.profile = d.profile
  watch : d.WatchActs f
  headroom : f.chg.headroom = d.headroom
  packs : (d.ppu.power = .sleep → f.ppu.power = .sleep) →
    f.pkm = z.pkm ∧ f.tfu = z.tfu ∧ f.chg.packs = (sampleComplete k z).chg.packs
  told : m.record.state = .identifying ∨ m.record.state = .commLost → f.Raised 6

theorem Dev.Landed.commits {d x : Dev} {k : Pack} (h : d.Landed x (segOf k)) (e : BusEnd) (m : PackMonitor) :
    d.Commits (x.committing k m) (ending (segOf k) e (commitSample k (x.setMon k m))) k m := by
  rw [commitSample_eq]
  generalize hz : x.committing k m = z
  generalize hw : batteryWatch (sampleComplete k z) = w
  generalize hv : (if m.record.state = .identifying ∨ m.record.state = .commLost then raise (.packChange k .ready) w
    else w) = v
  have hxz : x.Apart z := by
    rw [← hz]
    exact ⟨rfl, rfl, rfl, rfl, rfl, ⟨rfl, rfl⟩, .of_same rfl rfl⟩
  have hbefore : d.Apart (sampleComplete k z) := (h.apart.trans hxz).trans (sampleComplete_apart k z)
  have hzd : z.headroom = d.headroom := by
    refine headroom_congr ?_ ?_ <;> rw [← hz] <;> simp only [Dev.committing]
    · rw [h.same]
    · exact h.tst
  have hmon : (sampleComplete k z).mon k = m.committed := by
    have hp : (sampleComplete k z).pkm = z.pkm := by simp
    rw [Dev.mon, hp, ← hz]
    exact Pair.get_set_self _ _ _
  have hwv : w.Apart v ∧ v = { w with nsu := v.nsu } := by
    rw [← hv]
    split
    · exact ⟨raise_apart (by simp [Notice.cls]) (by simp [Notice.cls]) _, rfl⟩
    · exact ⟨⟨rfl, rfl, rfl, rfl, rfl, ⟨rfl, rfl⟩, .refl w⟩, rfl⟩
  have hafter : w.Apart (ending (segOf k) e v) := hwv.1.trans (ending_apart _ _ _)
  have hf : ending (segOf k) e v = { w with
      nsu := (ending (segOf k) e v).nsu, segs := (ending (segOf k) e v).segs, pli := (ending (segOf k) e v).pli } := by
    have hsame := ending_same (segOf k) e v
    have hn : (ending (segOf k) e v).nsu = v.nsu := by rw [hsame]
    generalize ending (segOf k) e v = f at hsame hn ⊢
    rw [hn, hsame, hwv.2]
  have hraised (c : Nat) (hc : v.Raised c) : (ending (segOf k) e v).Raised c := (ending_apart _ e v).told.raised c hc
  generalize ending (segOf k) e v = f at hafter hf hraised ⊢
  have hfmon (j : Pack) : f.mon j = w.mon j := by rw [hf]; rfl
  refine ⟨?_, ?_, ?_, ?_, ?_, fun hp => ?_, fun ht => ?_⟩
  · rw [hfmon, ← hw]
    refine batteryWatch_mon (Q := fun n => n.record = m.committed.record ∧ n.cycle = none ∧ n.staged = [] ∧
      n.outstanding = m.outstanding ∧ n.ageTick = some (Timer.ofMs 1000)) (fun ms n hn => ?_) ?_
    · obtain ⟨h1, h2, h3, h4, h5⟩ := hn
      obtain ⟨r1, r2, r3, r4, r5⟩ := retime_of_fresh (m := n) ms (by rw [h1]; rfl)
      exact ⟨r1.trans h1, r2.trans h2, r3.trans h3, r4.trans h4, r5.trans h5⟩
    · rw [hmon]
      exact ⟨rfl, rfl, rfl, rfl, rfl⟩
  · have hpack : f.tfu.pack = z.tfu.pack := by
      rw [hf, ← hw]
      exact (batteryWatch_pack _).trans (by simp)
    rw [hpack, ← hz]
    exact Pair.get_set_self _ _ _
  · refine ⟨hafter.tst.trans ?_, ?_⟩
    · rw [← hw, (batteryWatch_frame _).2.2.2.1, hbefore.tst]
    · rw [hf, ← hw]
      simp only [batteryWatch_frame, sampleComplete_frame, ← hz, Dev.committing]
      rw [h.same]
  · rw [← hw] at hafter hfmon
    exact ((batteryWatch_acts _).of_before hbefore).after hafter fun j => by rw [hfmon]; exact ⟨rfl, rfl⟩
  · obtain ⟨h1, h2⟩ := sampleComplete_headroom k z
    have hc : f.chg = w.chg := by rw [hf]
    rw [hc, ← hw, batteryWatch_headroom (h1.trans h2.symm), h2, hzd]
  · have hpow : f.ppu = w.ppu := by rw [hf]
    rw [hpow, ← hbefore.ppu, ← hw] at hp
    have honly := batteryWatch_only hp
    rw [hw] at honly
    refine ⟨?_, ?_, ?_⟩
    · rw [hf, honly.same]; simp
    · rw [hf, honly.same]; simp
    · have hc : f.chg = w.chg := by rw [hf]
      rw [hc, honly.chg]
  · refine hraised 6 ?_
    rw [← hv, if_pos ht]
    exact raise_raised (.packChange k .ready) _ (Notice.cls_lt _)

/-- The CHG makes of the sample, with the segment of the read still to serve, what it makes of it in the state before. -/
theorem Dev.Landed.charges {d x : Dev} {k : Pack} (h : d.Landed x (segOf k)) (ht : (d.seg (segOf k)).Takes)
    (m : PackMonitor) : Dev.ChargesAlike { d with pkm := (x.committing k m).pkm, tfu := (x.committing k m).tfu }
      (x.committing k m) := by
  have hseg (g : Seg) : (x.seg g).state.refusal = (d.seg g).state.refusal := by
    by_cases hg : g = segOf k
    · rw [hg, (takes_iff_refusal _).mp h.takes, (takes_iff_refusal _).mp ht]
    · rw [h.moves.other g hg]
  have hsame := h.same
  refine ⟨?_, rfl, ?_, rfl, ?_, hseg⟩ <;> simp only [Dev.committing] <;> rw [hsame]

/-- The last read of a cycle that completes OK ends the cycle (R51, R54). -/
theorem lastItem_lands {d : Dev} {k : Pack} {cy : Cycle} (lo hi : Byte) (hf : d.Flies (segOf k) .pkm false 2)
    (ho : (d.mon k).orphan = false) (hc : (d.mon k).cycle = some cy) (hl : ¬ cy.item + 1 < cy.kind.items) :
    ∃ x, d.Landed x (segOf k) ∧ completionFor (segOf k) .pkm (.ok [lo, hi]) d =
      ending (segOf k) (.ok [lo, hi]) (finishCycle k cy.kind (x.setMon k ((d.mon k).staging cy [lo, hi]))) := by
  obtain ⟨x, hx, -, hrun⟩ := packItem_lands hf (e := .ok [lo, hi]) (.inl ⟨lo, hi, rfl⟩)
  have hm := hx.mon k
  have hok : packCompleted k (busCompletion (.ok [lo, hi])) x = itemRead k cy [lo, hi] (x.setMon k (x.mon k).met) :=
    packCompleted_ok _ (by rw [hm, ho]) (by rw [hm, hc])
  rw [hok, itemRead_met, if_neg hl, hm] at hrun
  exact ⟨x, hx, hrun⟩

/-- A whole identity judged (R51). -/
theorem judgeIdentity_eq {k : Pack} {m : PackMonitor} {a b n : Nat} (d : Dev)
    (h : m.staged = [some (a : Int), some (b : Int), some (n : Int)]) : judgeIdentity k (d.setMon k m) =
      if a ≤ 3 ∧ 1 ≤ b ∧ b ≤ 4 then
        beginCycle k .poll (d.setMon k { m.endCycle with record := { m.record with identity := some ⟨a, b, n⟩ } })
      else enterUnsupported k (d.setMon k m) := by
  have hok : identityOk (a : Int) (b : Int) = true ↔ a ≤ 3 ∧ 1 ≤ b ∧ b ≤ 4 := by
    simp only [identityOk, Bool.and_eq_true, decide_eq_true_eq]
    omega
  unfold judgeIdentity
  dsimp only
  have h0 : stagedAt m.staged 0 = a := by rw [h]; rfl
  have h1 : stagedAt m.staged 1 = b := by rw [h]; rfl
  have h2 : stagedAt m.staged 2 = n := by rw [h]; rfl
  rw [mon_setMon, h0, h1, h2, setMon_setMon]
  by_cases hx : a ≤ 3 ∧ 1 ≤ b ∧ b ≤ 4
  · rw [if_pos hx, if_pos (hok.mpr hx)]
    rfl
  · rw [if_neg hx, if_neg (mt hok.mp hx)]

/-- A pack that is not supported (R52). -/
theorem enterUnsupported_eq (k : Pack) (m : PackMonitor) (d : Dev) : enterUnsupported k (d.setMon k m) = { d with
    pkm := d.pkm.set k.ix { m with
      record := ⟨.unsupported, none, none, false, 0, 0⟩
      cycle := none, staged := [], pollTimer := none, ageTick := none }
    tfu := { d.tfu with pack := d.tfu.pack.set k.ix none }
    nsu := d.nsu.raise d.tst.settings.noticeMask (.packChange k .unsupported) } := by
  unfold enterUnsupported
  dsimp only
  rw [mon_setMon, setMon_setMon]
  rfl

/-- Settles O17: the commit with what follows it, and the two judgements of an identity. -/
theorem lastItemCommitsSample : Obligations.LastItemCommitsSample := by
  refine ⟨fun k s lo hi r v i t c f rc rv hf ho hc hs => ?_, fun k s lo hi r a b hf ho hc hs => ?_⟩
  · obtain ⟨x, hl, hrun⟩ := lastItem_lands lo hi hf ho hc (by simp [CycleKind.items])
    have hstaged : ((s.dev.mon k).staging ⟨.poll, 7, r⟩ [lo, hi]).staged =
        [some v, some i, some t, some c, some f, rc, rv, some ((lo.toNat + 256 * hi.toNat : Nat) : Int)] := by
      simp only [PackMonitor.staging, hs, Cycle.itemIndex, itemValue_identity (Nat.le_refl 7), u16At_pair]
      rfl
    obtain ⟨⟨h1, h2, h3, h4, h5⟩, h6, ⟨h7, h8⟩, h9, h10, h11, h12⟩ :=
      hl.commits (.ok [lo, hi]) ((s.dev.mon k).staging ⟨.poll, 7, r⟩ [lo, hi])
    rw [PackMonitor.committed, hstaged, stagedTelemetry_whole, ofWord_pair] at h1
    rw [hstaged, stagedTelemetry_whole] at h6
    change _ = ending _ _ (commitSample k _) at hrun
    refine ⟨_, ends_of_completion hrun, h1, h2, h3, h4, h5, h6, h7, h8, h9, h10, fun hp => ?_, h12⟩
    obtain ⟨hpkm, htfu, hpacks⟩ := h11 hp
    rw [hpacks, hpkm, htfu, ((hl.charges hf.takes _).sampleComplete k).chg]
  · obtain ⟨x, hl, hrun⟩ := lastItem_lands lo hi hf ho hc (by simp [CycleKind.items])
    have hstaged : ((s.dev.mon k).staging ⟨.identify, 2, r⟩ [lo, hi]).staged =
        [some (a : Int), some (b : Int), some ((lo.toNat + 256 * hi.toNat : Nat) : Int)] := by
      simp only [PackMonitor.staging, hs, Cycle.itemIndex, itemValue_identity (by decide : 7 ≤ 8 + 2), u16At_pair]
      rfl
    have hrun := hrun.trans (congrArg _ (judgeIdentity_eq x hstaged))
    refine ⟨fun ha hb hb' => ?_, fun hno => ?_⟩
    · rw [if_pos ⟨ha, hb, hb'⟩, beginCycle_eq, begun_setMon, setMon_setMon, hl.tst] at hrun
      obtain ⟨h1, -, h3, h4⟩ := hl.issues (.ok [lo, hi]) ⟨.poll, 0, false⟩ _ rfl
      exact ⟨_, ends_of_completion hrun, h1, h3, h4⟩
    · rw [if_neg (by omega), enterUnsupported_eq] at hrun
      generalize hy : ({ x with
        pkm := x.pkm.set k.ix { (s.dev.mon k).staging ⟨.identify, 2, r⟩ [lo, hi] with
          record := ⟨.unsupported, none, none, false, 0, 0⟩
          cycle := none, staged := [], pollTimer := none, ageTick := none }
        tfu := { x.tfu with pack := x.tfu.pack.set k.ix none }
        nsu := x.nsu.raise x.tst.settings.noticeMask (.packChange k .unsupported) } : Dev) = y at hrun
      have hm : x.MovesSeg y (segOf k) := .of_same _ (by rw [← hy]) (by rw [← hy])
      have hmoves := (hl.moves.trans hm).ending (.ok [lo, hi])
      refine ⟨_, ends_of_completion hrun, ?_, hmoves.moved⟩
      have hsame := ending_same (segOf k) (.ok [lo, hi]) y
      have hx := hl.same
      generalize ending (segOf k) (.ok [lo, hi]) y = f at hsame ⊢
      rw [hsame, ← hy, hx]
      rfl

end Sys2Proof.Machine

namespace Sys2Proof.Machine

/-! ## Responses in slots (R151, R153, R179) -/

section
variable {d e : Dev} {i j : Nat} {c n : Nat} {tag : Byte} {r : Response}

theorem answerWith_other (h : i ≠ j) (r : Response) (d : Dev) :
    (answerWith i r d).pli.slots[j]? = d.pli.slots[j]? := by
  simp only [answerWith, setPli_pli, Pli.respond]
  split
  · exact List.getElem?_set_ne h
  · rfl

theorem answerWith_readyOrder (i : Nat) (r : Response) {d : Dev} (h : j ∈ d.pli.readyOrder) :
    j ∈ (answerWith i r d).pli.readyOrder := by
  simp only [answerWith, setPli_pli, Pli.respond]
  split
  · exact List.mem_append_left _ h
  · exact h

/-- A slot that waits has its answer (R179). -/
theorem answerWith_answers (h : d.pli.slots[i]? = some ⟨.waiting, c, n, tag, none⟩) (r : Response) :
    (answerWith i r d).Answers i c n tag r := by
  obtain ⟨hlt, hget⟩ := List.getElem?_eq_some_iff.mp h
  have hd : d.pli.slots.getD i Slot.empty = ⟨.waiting, c, n, tag, none⟩ := by
    rw [List.getD_eq_getElem?_getD, h]; rfl
  simp only [Dev.Answers, answerWith, setPli_pli, Pli.respond, hd, if_true]
  exact ⟨by rw [List.getElem?_set_self hlt], by simp⟩

/-- An answer that is READY stays, whatever is answered after it (R179). -/
theorem Dev.Answers.answerWith (h : d.Answers j c n tag r) (i : Nat) (x : Response) :
    (answerWith i x d).Answers j c n tag r := by
  obtain ⟨hs, ho⟩ := h
  refine ⟨?_, answerWith_readyOrder i x ho⟩
  by_cases hi : i = j
  · subst hi
    have hd : d.pli.slots.getD i Slot.empty = ⟨.ready, c, n, tag, some r⟩ := by
      rw [List.getD_eq_getElem?_getD, hs]; rfl
    simp only [Machine.answerWith, setPli_pli, Pli.respond, hd, reduceCtorEq, if_false, hs]
  · rw [answerWith_other hi, hs]

theorem Dev.Answers.of_pli (h : d.Answers j c n tag r) (hp : e.pli = d.pli) : e.Answers j c n tag r := by
  unfold Dev.Answers
  rw [hp]
  exact h

end

/-! ## What the arbiter makes of the sequence and the slots (R146, R153) -/

theorem grantSequence_sequence (g : Seg) (d : Dev) :
    ((grantSequence g d).seg g).sequence = (d.seg g).sequence.arbitrated (d.seg g).queue := by
  have hg : grantable (d.seg g).queue = !((d.seg g).queue.any fun t => t.cls == 3 && !t.member) := rfl
  unfold grantSequence
  split
  · rename_i i hs
    rw [hs, Sequence.arbitrated, hg]
    cases (d.seg g).queue.any fun t => t.cls == 3 && !t.member
    · show ((d.setSeg g _).seg g).sequence = _
      rw [seg_setSeg]
      rfl
    · exact hs
  · rename_i hs
    rw [hs]; rfl
  · rename_i t hs
    rw [hs]; rfl

theorem arbitrate_sequence (g : Seg) (d : Dev) : ((arbitrate g d).seg g).sequence =
    if (d.seg g).state = .idle then (d.seg g).sequence.arbitrated (d.seg g).queue else (d.seg g).sequence := by
  unfold arbitrate
  split
  · rw [takeTransaction_sequence, grantSequence_sequence]
  · rfl

theorem arbitrated_arbitrated (q : Sequence) (left : List Txn) :
    (q.arbitrated left).arbitrated left = q.arbitrated left := by
  cases q with
  | pending i =>
    unfold Sequence.arbitrated
    cases h : left.any fun t => t.cls == 3 && !t.member <;> simp
  | opened t => rfl
  | noSeq => rfl

theorem arbitrated_congr (q : Sequence) {left left' : List Txn}
    (h : (left'.any fun t => t.cls == 3 && !t.member) = left.any fun t => t.cls == 3 && !t.member) :
    q.arbitrated left' = q.arbitrated left := by
  unfold Sequence.arbitrated
  rw [h]

/-- The arbiter changes nothing of the records in a queue but which of them is in flight (R146). -/
theorem arbitrate_queue (g j : Seg) (d : Dev) :
    ((arbitrate g d).seg j).queue.map Txn.landed = (d.seg j).queue.map Txn.landed := by
  by_cases hj : j = g
  · subst hj
    have hq := (grantSequence_seg j j d).1
    unfold arbitrate
    split
    · unfold takeTransaction
      dsimp only
      split
      · rw [hq]
      · rw [seg_setSeg, ← hq]
        simp only [setInFlight, List.map_map]
        refine List.map_congr_left fun t _ => ?_
        simp only [Function.comp]
        split <;> rfl
    · rfl
  · rw [arbitrate_other hj]

/-- The arbiter leaves the link but for the request of a sequence that it grants (R153). -/
theorem arbitrate_slot_other {g : Seg} {d : Dev} {j : Nat} (h : (d.seg g).state = .idle → (d.seg g).sequence ≠ .pending j) :
    (arbitrate g d).pli.slots[j]? = d.pli.slots[j]? := by
  unfold arbitrate
  split
  · rename_i hi
    rw [takeTransaction_pli]
    unfold grantSequence
    split
    · rename_i i hs
      split
      · exact answerWith_other (by rintro rfl; exact h hi hs) _ _
      · rfl
    all_goals rfl
  · rfl

theorem arbitrate_readyOrder (g : Seg) {d : Dev} {j : Nat} (h : j ∈ d.pli.readyOrder) :
    j ∈ (arbitrate g d).pli.readyOrder := by
  unfold arbitrate
  split
  · rw [takeTransaction_pli]
    unfold grantSequence
    split
    · split
      · exact answerWith_readyOrder _ _ h
      · exact h
    all_goals exact h
  · exact h

/-- A PENDING sequence has its request answered OK as it is granted, and not before (R153). -/
theorem arbitrate_tellsOpen {g : Seg} {d : Dev} {j c n : Nat} {tag : Byte} (hs : (d.seg g).sequence = .pending j)
    (hw : d.pli.slots[j]? = some ⟨.waiting, c, n, tag, none⟩) :
    if ((arbitrate g d).seg g).sequence = .pending j then (arbitrate g d).pli.slots[j]? = d.pli.slots[j]?
    else (arbitrate g d).Answers j c n tag Status.ok.alone := by
  rw [arbitrate_sequence]
  unfold arbitrate
  by_cases hi : (d.seg g).state = .idle
  · have hg : grantable (d.seg g).queue = !((d.seg g).queue.any fun t => t.cls == 3 && !t.member) := rfl
    rw [if_pos hi, if_pos hi, hs, Sequence.arbitrated]
    unfold grantSequence
    rw [hs]
    dsimp only
    rw [hg]
    cases (d.seg g).queue.any fun t => t.cls == 3 && !t.member
    · simp only [Bool.not_false, if_true, Bool.false_eq_true, if_false, reduceCtorEq]
      refine Dev.Answers.of_pli (d := answer j .ok (d.setSeg g _)) ?_ (takeTransaction_pli _ _)
      exact answerWith_answers (d := d.setSeg g _) hw _
    · simp only [Bool.not_true, if_true, Bool.false_eq_true, if_false]
      rw [takeTransaction_pli]
  · rw [if_neg hi, if_neg hi, if_pos hs]

end Sys2Proof.Machine

namespace Sys2Proof.Machine

/-! ## Arrivals by their two halves: the record appended, and the arbiter (R145, R146) -/

/-- A segment with a record appended (R145). -/
def Segment.appended (sg : Segment) (t : Txn) : Segment :=
  { sg with queue := sg.queue ++ [{ t with order := sg.nextOrder }], nextOrder := sg.nextOrder + 1 }

theorem submit_of_takes {g : Seg} {d : Dev} (t : Txn) (h : (d.seg g).Takes) :
    (submit g t d).1 = arbitrate g (d.setSeg g ((d.seg g).appended t)) := by
  obtain ⟨h1, h2⟩ := h
  unfold submit
  dsimp only
  split
  · exact absurd ‹_› h1
  · exact absurd ‹_› h2
  all_goals rfl

theorem submit_of_refuses {g : Seg} {d : Dev} (t : Txn) (h : ¬ (d.seg g).Takes) : (submit g t d).1 = d := by
  rcases (d.seg g).takes_or with hs | hs | hs
  · exact absurd hs h
  · rw [(submit_refused t).1 hs]
  · rw [(submit_refused t).2 hs]

/-- A property that a record appended and the arbiter keep is kept by an arrival. -/
theorem HandsOn.of_arbiter {P : Dev → Prop}
    (same : ∀ d e : Dev, e.segs = d.segs → e.pli = d.pli → e.nsu = d.nsu → P d → P e)
    (append : ∀ g t d, Txn.Own t → (d.seg g).Takes → P d → P (d.setSeg g ((d.seg g).appended t)))
    (arbiter : ∀ g d, P d → P (arbitrate g d))
    (tell : ∀ (n : Notice) (d : Dev), n.cls ∉ [0, 9, 14] → P d → P (Machine.raise n d)) : HandsOn P where
  same := same
  submit g t d ht h := by
    by_cases hg : (d.seg g).Takes
    · rw [submit_of_takes t hg]
      exact arbiter g _ (append g t d ht hg h)
    · rw [submit_of_refuses t hg]
      exact h
  raise := tell

/-! ## A slot that awaits one answer (R151, R153, R158) -/

/-- A slot waits, or has this answer, and, where `L` asks for it, no segment that takes arrivals has a sequence PENDING
for it. -/
structure Dev.Awaits (e : Dev) (j c n : Nat) (tag : Byte) (r : Response) (L : Prop := True) : Prop where
  clear : L → ∀ h, (e.seg h).Takes → (e.seg h).sequence ≠ .pending j
  slot : e.pli.slots[j]? = some ⟨.waiting, c, n, tag, none⟩ ∨ e.Answers j c n tag r

section
variable {e : Dev} {j c n : Nat} {tag : Byte} {r : Response} {L : Prop}

theorem Dev.Awaits.answers (h : e.Awaits j c n tag r L) : (answerWith j r e).Answers j c n tag r := by
  rcases h.slot with hw | ha
  · exact answerWith_answers hw r
  · exact ha.answerWith j r

theorem Dev.Awaits.answerWith (h : e.Awaits j c n tag r L) {i : Nat} {x : Response} (hi : i = j → x = r) :
    (answerWith i x e).Awaits j c n tag r L := by
  refine ⟨h.clear, ?_⟩
  by_cases hij : i = j
  · rw [hi hij, hij]
    exact .inr h.answers
  · rcases h.slot with hw | ha
    · exact .inl ((answerWith_other hij x e).trans hw)
    · exact .inr (ha.answerWith i x)

theorem Dev.Awaits.same (h : e.Awaits j c n tag r L) {f : Dev} (hs : f.segs = e.segs) (hp : f.pli = e.pli) :
    f.Awaits j c n tag r L := by
  refine ⟨fun hl g => ?_, ?_⟩
  · have hseg : f.seg g = e.seg g := by simp [Dev.seg, hs]
    rw [hseg]
    exact h.clear hl g
  · unfold Dev.Answers
    rw [hp]
    exact h.slot

/-- A segment replaced that takes arrivals and has a sequence PENDING for the slot only if it did. -/
theorem Dev.Awaits.setSeg (h : e.Awaits j c n tag r L) {g : Seg} {x : Segment}
    (hx : x.Takes → x.sequence = .pending j → (e.seg g).Takes ∧ (e.seg g).sequence = .pending j) :
    (e.setSeg g x).Awaits j c n tag r L := by
  refine ⟨fun hl k => ?_, h.slot⟩
  rw [seg_setSeg_if]
  split
  · exact fun ht hs => h.clear hl g (hx ht hs).1 (hx ht hs).2
  · exact h.clear hl k

theorem arbitrated_pending {q : Sequence} {left : List Txn} {i : Nat} (h : q.arbitrated left = .pending i) :
    q = .pending i := by
  cases q with
  | pending l =>
    cases ha : left.any fun t => t.cls == 3 && !t.member <;> simp [Sequence.arbitrated, ha] at h
    rw [h]
  | opened t => exact h
  | noSeq => exact h

/-- The arbiter leaves no sequence PENDING that was not (R153). -/
theorem arbitrate_pending {g k : Seg} {d : Dev} {i : Nat} (h : ((arbitrate g d).seg k).sequence = .pending i) :
    (d.seg k).sequence = .pending i := by
  by_cases hk : k = g
  · subst hk
    rw [arbitrate_sequence] at h
    split at h
    · exact arbitrated_pending h
    · exact h
  · rwa [arbitrate_other hk] at h

theorem arbitrate_takes (g k : Seg) (d : Dev) : ((arbitrate g d).seg k).Takes ↔ (d.seg k).Takes := by
  rw [takes_iff_refusal, takes_iff_refusal, arbitrate_refusal]

theorem Dev.Awaits.arbitrate (h : e.Awaits j c n tag r) (g : Seg) : (arbitrate g e).Awaits j c n tag r := by
  refine ⟨fun hl k ht hs => h.clear hl k ((arbitrate_takes g k e).mp ht) (arbitrate_pending hs), ?_⟩
  rcases h.slot with hw | ⟨hs, ho⟩
  all_goals
    have hsame := arbitrate_slot_other (g := g) (d := e) (j := j) fun hi => h.clear trivial g (by simp [Segment.Takes, hi])
  · exact .inl (hsame.trans hw)
  · exact .inr ⟨hsame.trans hs, arbitrate_readyOrder g ho⟩

end

/-- Where it asks for it, it says so. -/
theorem Dev.Awaits.congr {e : Dev} {j c n : Nat} {tag : Byte} {r : Response} {L M : Prop} (h : e.Awaits j c n tag r L)
    (hl : M → L) : e.Awaits j c n tag r M := ⟨fun x => h.clear (hl x), h.slot⟩

theorem awaits_handsOn (j c n : Nat) (tag : Byte) (r : Response) : HandsOn fun e => e.Awaits j c n tag r :=
  .of_arbiter (fun _ _ hs hp _ h => h.same hs hp) (fun _ _ _ _ _ h => h.setSeg fun ht hs => ⟨ht, hs⟩)
    (fun g _ h => h.arbitrate g) fun _ _ _ h => h.same (by simp) (by simp)

theorem awaits_keepsLow (j c n : Nat) (tag : Byte) (r : Response) : KeepsLow fun e => e.Awaits j c n tag r :=
  fun _ _ h => h.same (by simp) (by simp)

/-! ## The request of a sequence that is PENDING on a segment that serves (R153) -/

/-- A request waits while its sequence is PENDING on this segment, and has its answer OK once it is not; no other
segment has a sequence PENDING for its slot. -/
structure Dev.OpenTold (e : Dev) (g : Seg) (j c n : Nat) (tag : Byte) : Prop where
  others : ∀ h, h ≠ g → (e.seg h).sequence ≠ .pending j
  told : if (e.seg g).sequence = .pending j then e.pli.slots[j]? = some ⟨.waiting, c, n, tag, none⟩
    else e.Answers j c n tag Status.ok.alone

theorem Dev.OpenTold.same {e f : Dev} {g : Seg} {j c n : Nat} {tag : Byte} (h : e.OpenTold g j c n tag)
    (hs : ∀ k, (f.seg k).sequence = (e.seg k).sequence) (hp : f.pli = e.pli) : f.OpenTold g j c n tag := by
  refine ⟨fun k hk => by rw [hs]; exact h.others k hk, ?_⟩
  unfold Dev.Answers
  rw [hs, hp]
  exact h.told

theorem Dev.OpenTold.arbitrate {e : Dev} {g : Seg} {j c n : Nat} {tag : Byte} (h : e.OpenTold g j c n tag) (k : Seg) :
    (arbitrate k e).OpenTold g j c n tag := by
  refine ⟨fun l hl hs => h.others l hl (arbitrate_pending hs), ?_⟩
  have htold := h.told
  by_cases hp : (e.seg g).sequence = .pending j
  · rw [if_pos hp] at htold
    by_cases hk : k = g
    · subst hk
      have ht := arbitrate_tellsOpen hp htold
      rwa [htold] at ht
    · rw [arbitrate_other (Ne.symm hk), if_pos hp, arbitrate_slot_other fun _ => h.others k hk]
      exact htold
  · rw [if_neg hp] at htold
    have hn : ((Machine.arbitrate k e).seg g).sequence ≠ .pending j := fun hs => hp (arbitrate_pending hs)
    rw [if_neg hn]
    refine ⟨(arbitrate_slot_other fun _ hs => ?_).trans htold.1, arbitrate_readyOrder k htold.2⟩
    by_cases hk : k = g
    · exact hp (hk ▸ hs)
    · exact h.others k hk hs

theorem openTold_handsOn (g : Seg) (j c n : Nat) (tag : Byte) : HandsOn fun e => e.OpenTold g j c n tag :=
  .of_arbiter (fun _ _ hs hp _ h => h.same (fun k => by simp [Dev.seg, hs]) hp)
    (fun k t d _ _ h => h.same (fun l => by
      rw [seg_setSeg_if]
      split
      · rename_i hl; rw [← hl]; rfl
      · rfl) rfl)
    (fun k _ h => h.arbitrate k) fun _ _ _ h => h.same (fun _ => by simp [Dev.seg]) (by simp)

/-- The request of a PENDING sequence is told as the arbiter leaves the sequence. -/
theorem Dev.OpenTold.tells {d e : Dev} {g : Seg} (h : ∀ j c n tag, (d.seg g).sequence = .pending j →
    d.pli.slots[j]? = some ⟨.waiting, c, n, tag, none⟩ → (∀ k, k ≠ g → (d.seg k).sequence ≠ .pending j) →
    e.OpenTold g j c n tag) : d.TellsOpen e g := by
  intro j c n tag hs hw ho _ _
  have ht := (h j c n tag hs hw ho).told
  rwa [hw]

end Sys2Proof.Machine

namespace Sys2Proof.Machine

/-! ## What write passes keep (R65, R76, R78, R79) -/

/-- A property that an allocation, the start of a pass and the FAULT of a pack whose retry has failed keep. -/
structure ChargeKeeps (Q : Dev → Prop) : Prop where
  allocate : ∀ d, Q d → Q (allocate d)
  pass : ∀ k d, Q d → Q (startPass k d).1
  fault : ∀ k d, d.faultsPack k = true → Q d → Q (stageChange k .fault d)

/-- A pass that ends in FAULT ends with its pack to fault (R79). -/
theorem startPass_faults {k : Pack} {d : Dev} (h : (startPass k d).2 = true) :
    (startPass k d).1.faultsPack k = true := by
  unfold startPass at h ⊢
  split at h
  · rename_i hw
    rw [if_pos hw]
    rcases (d.seg (segOf k)).takes_or with hs | hs | hs
    · rw [issueWrite_takes _ _ hs] at h
      simp at h
    · rw [issueWrite_held _ _ hs] at h
      simp at h
    · rw [issueWrite_fault _ _ hs] at h ⊢
      simpa [passDead, Dev.faultsPack, setWriter, setAgain, Dev.mon] using h
  · simp at h

section
variable {Q : Dev → Prop} {d : Dev}

theorem ChargeKeeps.startPasses (h : ChargeKeeps Q) (n : Nat) (ks : List Pack) (hd : Q d) : Q (startPasses n ks d) := by
  induction n generalizing ks d with
  | zero => cases ks <;> exact hd
  | succ n ih =>
    cases ks with
    | nil => exact hd
    | cons k ks =>
      simp only [Machine.startPasses]
      split
      · rename_i hf
        exact ih _ (h.fault k _ (startPass_faults hf) (h.pass k d hd))
      · exact ih _ (h.pass k d hd)

theorem ChargeKeeps.allocateAndWrite (h : ChargeKeeps Q) (hd : Q d) : Q (allocateAndWrite d) :=
  h.startPasses 8 _ (h.allocate d hd)

end

/-- A property of the segments that a charger's record handed on keeps (R78). -/
theorem ChargeKeeps.of_charger {Q : Dev → Prop} (same : ∀ d e : Dev, e.segs = d.segs → e.pli = d.pli → Q d → Q e)
    (submit : ∀ g t d, Txn.Own t → t.cls = 0 → Q d → Q (submit g t d).1) : ChargeKeeps Q where
  allocate d h := same d _ rfl rfl h
  pass k d h := by
    have hs := submit (segOf k) (chargerTxn k false d) d ⟨by simp [chargerTxn, internalTxn], rfl, rfl, rfl⟩ rfl h
    unfold startPass issueWrite passDead
    dsimp only
    split
    · split <;> exact same (Machine.submit _ _ _).1 _ rfl rfl hs
    · exact same d _ rfl rfl h
  fault _ d _ h := same d _ rfl rfl h

/-! ## A segment that comes IDLE with work of the CHG for it (R146, R153, R157) -/

/-- The records that keep a PENDING sequence from its grant (R153). -/
def Segment.blocked (sg : Segment) : Bool := sg.queue.any fun t => t.cls == 3 && !t.member

theorem arbitrate_blocked (g k : Seg) (d : Dev) : ((arbitrate g d).seg k).blocked = (d.seg k).blocked := by
  have h (q : List Txn) : (q.any fun t => t.cls == 3 && !t.member) =
      (q.map Txn.landed).any fun t => t.cls == 3 && !t.member := by
    rw [List.any_map]; rfl
  unfold Segment.blocked
  rw [h, arbitrate_queue, ← h]

/-- A segment that has come IDLE from a record and since met arrivals at most: its sequence as it was, or as the
arbiter leaves it. -/
structure Dev.Serving (e : Dev) (g : Seg) (sg : Segment) : Prop where
  state : (e.seg g).state = .idle ∨ (e.seg g).state = .busy
  blocked : (e.seg g).blocked = sg.blocked
  sequence : ((e.seg g).state = .idle ∧ (e.seg g).sequence = sg.sequence) ∨
    (e.seg g).sequence = sg.sequence.arbitrated sg.queue

theorem Dev.Serving.same {e f : Dev} {g : Seg} {sg : Segment} (h : e.Serving g sg) (hs : f.seg g = e.seg g) :
    f.Serving g sg := by
  obtain ⟨h1, h2, h3⟩ := h
  exact ⟨hs ▸ h1, hs ▸ h2, hs ▸ h3⟩

/-- As the arbiter acts the sequence is as it leaves it. -/
theorem Dev.Serving.arbitrated {e : Dev} {g : Seg} {sg : Segment} (h : e.Serving g sg) :
    ((arbitrate g e).seg g).sequence = sg.sequence.arbitrated sg.queue := by
  have hb : (e.seg g).sequence.arbitrated (e.seg g).queue = (e.seg g).sequence.arbitrated sg.queue :=
    arbitrated_congr _ h.blocked
  rw [arbitrate_sequence, hb]
  rcases h.sequence with ⟨hi, hs⟩ | hs
  · rw [if_pos hi, hs]
  · rw [hs, arbitrated_arbitrated, ite_self]

theorem Dev.Serving.arbitrate {e : Dev} {g : Seg} {sg : Segment} (h : e.Serving g sg) (k : Seg) :
    (arbitrate k e).Serving g sg := by
  by_cases hk : k = g
  · subst hk
    refine ⟨?_, (arbitrate_blocked k k e).trans h.blocked, .inr h.arbitrated⟩
    rcases arbitrate_state k k e with hs | hs <;> rw [hs]
    · exact h.state
    · exact .inr rfl
  · exact h.same (arbitrate_other (Ne.symm hk) e)

theorem serving_handsOn (g : Seg) (sg : Segment) : HandsOn fun e => e.Serving g sg :=
  .of_arbiter (fun _ _ hs _ _ h => h.same (by simp [Dev.seg, hs]))
    (fun k t d ht _ h => by
      have hblocked : ((d.seg g).appended t).blocked = (d.seg g).blocked := by
        simp [Segment.blocked, Segment.appended, ht.1]
      obtain ⟨h1, h2, h3⟩ := h
      refine ⟨?_, ?_, ?_⟩ <;> rw [seg_setSeg_if] <;> split
      case refine_1.isTrue hk => exact hk ▸ h1
      case refine_2.isTrue hk => exact hk ▸ hblocked.trans h2
      case refine_3.isTrue hk => exact hk ▸ h3
      all_goals assumption)
    (fun k _ h => h.arbitrate k) fun _ _ _ h => h.same (by simp [Dev.seg])

/-- A segment that was IDLE with an empty queue is IDLE as long as its queue is empty, and BUSY once it is not. -/
def Dev.Tidy (e : Dev) (g : Seg) : Prop :=
  ((e.seg g).state = .idle ∧ (e.seg g).queue = []) ∨ ((e.seg g).state = .busy ∧ (e.seg g).queue ≠ [])

theorem Dev.Tidy.iff {e : Dev} {g : Seg} (h : e.Tidy g) : (e.seg g).state = .idle ↔ (e.seg g).queue = [] := by
  rcases h with ⟨h1, h2⟩ | ⟨h1, h2⟩
  · exact iff_of_true h1 h2
  · exact iff_of_false (by rw [h1]; simp) h2

/-- A charger's record on an IDLE segment without records goes in flight, whatever sequence stands (R146, R154). -/
theorem takeTransaction_of_single {g : Seg} {d : Dev} {t : Txn} (hq : (d.seg g).queue = [t]) (hc : t.cls = 0)
    (hm : t.member = false) (hf : t.inFlight = false) :
    ((takeTransaction g d).seg g).state = .busy ∧ ((takeTransaction g d).seg g).queue ≠ [] := by
  have hmay : mayTake (d.seg g).sequence t = true := by
    rw [mayTake_iff]
    unfold Sequence.lets
    split
    · exact .inl hc
    · exact hm
    · exact hm
  unfold takeTransaction
  simp [hq, hmay, hf, firstTxn, setInFlight]

theorem tidy_keeps (g : Seg) : ChargeKeeps fun e => e.Tidy g := by
  refine .of_charger (fun d e hs _ h => ?_) fun k t d ht hc h => ?_
  · have hseg : e.seg g = d.seg g := by simp [Dev.seg, hs]
    unfold Dev.Tidy
    rwa [hseg]
  · by_cases htakes : (d.seg k).Takes
    · rw [submit_of_takes t htakes]
      by_cases hk : k = g
      · subst hk
        obtain ⟨-, -, hm, hf⟩ := ht
        rcases h with ⟨hi, hq⟩ | ⟨hb, hq⟩
        · have hseg : (d.setSeg k ((d.seg k).appended t)).seg k = (d.seg k).appended t := seg_setSeg ..
          have hi' : ((d.setSeg k ((d.seg k).appended t)).seg k).state = .idle := by rw [hseg]; exact hi
          refine .inr ?_
          rw [arbitrate, if_pos hi']
          refine takeTransaction_of_single (t := { t with order := (d.seg k).nextOrder }) ?_ hc hm hf
          rw [(grantSequence_seg k k _).1, hseg]
          simp [Segment.appended, hq]
        · have hb' : ((d.setSeg k ((d.seg k).appended t)).seg k).state ≠ .idle := by
            rw [seg_setSeg]
            show (d.seg k).state ≠ .idle
            rw [hb]; simp
          rw [arbitrate, if_neg hb']
          refine .inr ?_
          rw [seg_setSeg]
          exact ⟨hb, by simp [Segment.appended]⟩
      · unfold Dev.Tidy
        rw [arbitrate_other (Ne.symm hk), seg_setSeg_if, if_neg hk]
        exact h
    · rw [submit_of_refuses t htakes]
      exact h

/-- The arbiter leaves such a segment so. -/
theorem Dev.Tidy.arbitrate {e : Dev} {g : Seg} (h : e.Tidy g) : (arbitrate g e).Tidy g := by
  unfold Machine.arbitrate
  split
  · rename_i hi
    have hq := h.iff.mp hi
    obtain ⟨h1, h2, -⟩ := grantSequence_seg g g e
    rw [takeTransaction_of_empty (h1.trans hq)]
    exact .inl ⟨h2.trans hi, h1.trans hq⟩
  · exact h

end Sys2Proof.Machine

namespace Sys2Proof.Machine

/-! ## Notices other than SEGMENT_EVENT (R160) -/

theorem raise_raised_iff (n : Notice) (d : Dev) {c : Nat} (h : c < 16) :
    (raise n d).Raised c ↔ n.cls = c ∨ d.Raised c := by
  have hs : (raise n d).nsu.summary = d.nsu.summary ||| BitVec.twoPow 16 n.cls := rfl
  unfold Dev.Raised
  rw [hs, BitVec.getLsbD_or, BitVec.getLsbD_twoPow, Bool.or_eq_true, Bool.and_eq_true, decide_eq_true_eq,
    decide_eq_true_eq, or_comm]
  exact or_congr_left ⟨fun hc => hc.2, fun hc => ⟨hc ▸ h, hc⟩⟩

/-- No SEGMENT_EVENT has been raised between two moments (R160). -/
def Dev.Silent (d e : Dev) : Prop := e.Raised 14 → d.Raised 14

theorem Dev.Silent.of_nsu {d e f : Dev} (h : d.Silent e) (hn : f.nsu = e.nsu) : d.Silent f := by
  unfold Dev.Silent Dev.Raised
  rw [hn]
  exact h

theorem Dev.Silent.raise {d e : Dev} (h : d.Silent e) {n : Notice} (hn : n.cls ≠ 14) : d.Silent (raise n e) :=
  fun hr => h (((raise_raised_iff n e (by decide)).mp hr).resolve_left hn)

theorem silent_handsOn (d : Dev) : HandsOn d.Silent where
  same _ _ _ _ hn h := h.of_nsu hn
  submit _ _ _ _ h := h.of_nsu (by simp)
  raise n _ hn h := h.raise (by rintro h14; exact hn (by simp [h14]))

theorem silent_movesLink (d : Dev) : MovesLink d.Silent where
  low _ _ h := h.raise (by simp [Notice.cls])
  up e h hr := by
    have hn : (linkUp e).nsu.summary = e.nsu.summary ||| BitVec.twoPow 16 0 := by
      simp [linkUp, nsuLinkUp, Wku.summary, Notice.cls]
    unfold Dev.Raised at hr
    rw [hn, BitVec.getLsbD_or] at hr
    exact h (by simpa [Dev.Raised] using hr)
  down e h := fun hr => h (by
    have hn : (linkDown e).nsu.summary = e.nsu.summary := by simp [linkDown, linkDownRest, nsuLinkDown]
    rwa [Dev.Raised, hn] at hr)

/-! ## The slot of a request that is being taken (R178, R179) -/

theorem waiting_slot_other {i j : Nat} (hj : i ≠ j) (c n : Nat) (tag : Byte) (d : Dev) :
    (d.waiting i c n tag).pli.slots[j]? = d.pli.slots[j]? :=
  List.getElem?_set_ne hj

section
variable {d : Dev} {i : Nat} (h : d.TakesInto i) (c n : Nat) (tag : Byte)
include h

theorem waiting_slot : (d.waiting i c n tag).pli.slots[i]? = some ⟨.waiting, c, n, tag, none⟩ := by
  simp [Dev.waiting, freeSlot_lt h.slot]

/-- The slot that a request is taken into is not that of a request that waits. -/
theorem ne_of_waiting {j c' n' : Nat} {tag' : Byte} (hj : d.pli.slots[j]? = some ⟨.waiting, c', n', tag', none⟩) :
    i ≠ j := by
  rintro rfl
  obtain ⟨x, hx, hf⟩ := freeSlot_spec h.slot
  rw [hj] at hx
  cases hx
  cases hf

end

theorem Dev.OpenTold.answerWith {e : Dev} {g : Seg} {j c n : Nat} {tag : Byte} (h : e.OpenTold g j c n tag) {i : Nat}
    (hi : i ≠ j) (x : Response) : (answerWith i x e).OpenTold g j c n tag := by
  refine ⟨h.others, ?_⟩
  have ht := h.told
  change if (e.seg g).sequence = .pending j then _ else _
  split at ht
  · rename_i hp
    rw [if_pos hp]
    exact (answerWith_other hi x e).trans ht
  · rename_i hp
    rw [if_neg hp]
    exact ht.answerWith i x

/-! ## SEGMENT_RESET RELEASE settled for a HELD segment (R146, R153, R157, R160) -/

/-- What RELEASE leaves of a HELD segment's part, before the request is answered. -/
structure Dev.Releases (d e : Dev) (g : Seg) : Prop where
  state : (e.seg g).state = .idle ∨ (e.seg g).state = .busy
  tidy : (d.seg g).queue = [] → ((e.seg g).state = .idle ↔ (e.seg g).queue = [])
  sequence : (e.seg g).sequence = (d.seg g).sequence.arbitrated (d.seg g).queue
  opens : ∀ j c n tag, (d.seg g).sequence = .pending j → d.pli.slots[j]? = some ⟨.waiting, c, n, tag, none⟩ →
    (∀ k, k ≠ g → (d.seg k).sequence ≠ .pending j) → e.OpenTold g j c n tag
  awaits : ∀ j c n tag r, d.SlotClear j → d.pli.slots[j]? = some ⟨.waiting, c, n, tag, none⟩ → e.Awaits j c n tag r
  headroom : e.chg.headroom = e.headroom
  silent : d.Silent e
  same : e = { d with chg := e.chg, segs := e.segs, pli := e.pli, nsu := e.nsu }

theorem leaveHeld_releases (g : Seg) (d : Dev) : d.Releases (leaveHeld g d) g := by
  have seg_of {P : Segment → Prop} {k : Seg} (hg : P { d.seg g with state := .idle }) (ho : P (d.seg k)) :
      P ((d.setSeg g { d.seg g with state := .idle }).seg k) := by
    rw [seg_setSeg_if]
    split
    · exact hg
    · exact ho
  unfold leaveHeld
  generalize hx : d.setSeg g { d.seg g with state := .idle } = x at seg_of
  have hseg : x.seg g = { d.seg g with state := .idle } := by rw [← hx, seg_setSeg]
  have hseq (k : Seg) : (x.seg k).sequence = (d.seg k).sequence := by
    by_cases hk : k = g
    · rw [hk, hseg]
    · rw [← hx, seg_setSeg_if, if_neg (Ne.symm hk)]
  have hserve : (allocateAndWrite x).Serving g (d.seg g) :=
    (serving_handsOn g (d.seg g)).allocateAndWrite ⟨.inl (by rw [hseg]), by rw [hseg]; rfl, .inl ⟨by rw [hseg], hseq g⟩⟩
  refine ⟨(hserve.arbitrate g).state, fun hq => ?_, hserve.arbitrated, fun j c n tag hp hw ho => ?_,
    fun j c n tag r hc hw => ?_, ?_, ?_, ?_⟩
  · exact (((tidy_keeps g).allocateAndWrite (.inl ⟨by rw [hseg], by rw [hseg]; exact hq⟩)).arbitrate).iff
  · refine ((openTold_handsOn g j c n tag).allocateAndWrite (d := x) ⟨fun k hk => by rw [hseq]; exact ho k hk, ?_⟩).arbitrate g
    rw [hseq, if_pos hp, ← hx]
    exact hw
  · refine ((awaits_handsOn j c n tag r).allocateAndWrite (d := x) ⟨fun _ k _ => by rw [hseq]; exact hc k, .inl ?_⟩).arbitrate g
    rw [← hx]
    exact hw
  · have hr : (arbitrate g (allocateAndWrite x)).headroom = x.headroom := headroom_congr (by simp) (by simp)
    rw [hr, show (arbitrate g (allocateAndWrite x)).chg = (allocateAndWrite x).chg by simp, allocateAndWrite_headroom]
  · have hs : d.Silent (allocateAndWrite x) := (silent_handsOn d).allocateAndWrite (by rw [← hx]; exact id)
    exact hs.of_nsu (by simp)
  · have ha : arbitrate g (allocateAndWrite x) = { allocateAndWrite x with
        segs := (arbitrate g (allocateAndWrite x)).segs, pli := (arbitrate g (allocateAndWrite x)).pli } :=
      Dev.eq_of_blocks (by simp)
    have hw := allocateAndWrite_eq x
    generalize arbitrate g (allocateAndWrite x) = y at ha ⊢
    generalize allocateAndWrite x = w at ha hw
    rw [ha, hw, ← hx]
    rfl

end Sys2Proof.Machine

namespace Sys2Proof.Machine

/-! ## The records of a segment completed one after another (R148, R156) -/

theorem deliverAll_cons (g : Seg) (c : Completion) (t : Txn) (q : List Txn) (d : Dev) :
    deliverAll g c (t :: q) d = deliverAll g c q (deliver g t c d) := rfl

/-- What each completion keeps, the records that are still to complete being given, holds after the last. -/
theorem deliverAll_keeps {g : Seg} {c : Completion} {I : List Txn → Dev → Prop}
    (step : ∀ t l d, I (t :: l) d → I l (deliver g t c d)) {q : List Txn} {d : Dev} (h : I q d) :
    I [] (deliverAll g c q d) := by
  induction q generalizing d with
  | nil => exact h
  | cons t q ih => exact ih (step t q d h)

/-! ### The hub's records (R151, R154, R158) -/

/-- A segment moved in its drains and its idle timer alone. -/
structure Segment.Ticks (sg x : Segment) : Prop where
  state : x.state = sg.state
  queue : x.queue = sg.queue
  pending : ∀ j, x.sequence = .pending j ↔ sg.sequence = .pending j

/-- A drain list as a write has left the sets (R158). -/
def erased (o : Nat) (l : List DrainEntry) : List DrainEntry :=
  l.map fun x => { x with writes := x.writes.filter (· != o) }

/-- The entries answered one after another (R158). -/
def answerEach (st : Status) (l : List DrainEntry) (d : Dev) : Dev := l.foldl (fun d x => answer x.slot st d) d

theorem answerEach_keeps {P : Dev → Prop} {st : Status} {l : List DrainEntry}
    (h : ∀ x ∈ l, ∀ e, P e → P (answer x.slot st e)) {d : Dev} (hd : P d) : P (answerEach st l d) := by
  induction l generalizing d with
  | nil => exact hd
  | cons x l ih => exact ih (fun y hy => h y (List.mem_cons_of_mem x hy)) (h x List.mem_cons_self d hd)

theorem answerEach_segs (st : Status) (l : List DrainEntry) (d : Dev) : (answerEach st l d).segs = d.segs :=
  answerEach_keeps (P := fun e => e.segs = d.segs) (fun _ _ _ he => he) rfl

theorem drainCompleted_eq (g : Seg) (o : Nat) (d : Dev) : drainCompleted g o d =
    answerEach (drainStatus g d) ((erased o (d.seg g).drains).filter fun x => x.writes.isEmpty)
      (d.setSeg g { d.seg g with drains := (erased o (d.seg g).drains).filter fun x => !x.writes.isEmpty }) := by
  unfold drainCompleted answerDrains
  simp only [seg_setSeg, setSeg_setSeg]
  have hs : drainStatus g (d.setSeg g { d.seg g with
      drains := (d.seg g).drains.map fun e => { e with writes := e.writes.filter (· != o) } }) = drainStatus g d := by
    unfold drainStatus
    rw [seg_setSeg]
  rw [hs]
  rfl

/-- The idle timer of a member's completion (R154). -/
theorem restartIdle_eq (g : Seg) (d : Dev) : restartIdle g d = d ∨
    ∃ t, (d.seg g).sequence = .opened t ∧
      restartIdle g d = d.setSeg g { d.seg g with sequence := .opened (Timer.ofMs Config.sequenceIdleMs) } := by
  unfold restartIdle
  split
  · exact .inr ⟨_, ‹_›, rfl⟩
  all_goals exact .inl rfl

section
variable {g : Seg} {t : Txn} {c : Completion} {d : Dev}

/-- What the answers of a completion and the moves of drains and idle timer keep is kept by a hub's completion. -/
theorem hubCompleted_keeps {P : Dev → Prop} (seg : ∀ x e, (e.seg g).Ticks x → P e → P (e.setSeg g x))
    (slot : ∀ i, t.slot = some i → ∀ e, P e → P (answerWith i c.response e))
    (drain : ∀ x ∈ (d.seg g).drains, ∀ e, P e → P (answer x.slot (drainStatus g d) e)) (hd : P d) :
    P (hubCompleted g t c d) := by
  have ha : P (answerHub t c d) ∧ (answerHub t c d).segs = d.segs := by
    unfold answerHub
    split
    · exact ⟨hd, rfl⟩
    · exact ⟨slot _ ‹_› d hd, by simp⟩
  obtain ⟨ha, hsegs⟩ := ha
  have hseg : (answerHub t c d).seg g = d.seg g := by rw [Dev.seg, hsegs]; rfl
  have hst : drainStatus g (answerHub t c d) = drainStatus g d := by unfold drainStatus; rw [hseg]
  have hdrain : P (if t.write then drainCompleted g t.order (answerHub t c d) else answerHub t c d) := by
    split
    · rw [drainCompleted_eq, hst, hseg]
      refine answerEach_keeps (fun x hx e he => ?_) (seg _ _ ⟨by rw [hseg], by rw [hseg], fun _ => by rw [hseg]⟩ ha)
      obtain ⟨y, hy, rfl⟩ := List.mem_map.mp (List.mem_of_mem_filter hx)
      exact drain y hy e he
    · exact ha
  unfold hubCompleted
  dsimp only
  split
  · rcases restartIdle_eq g (if t.write then drainCompleted g t.order (answerHub t c d) else answerHub t c d) with
      hr | ⟨x, hx, hr⟩ <;> rw [hr]
    · exact hdrain
    · exact seg _ _ ⟨rfl, rfl, fun _ => by rw [hx]; simp⟩ hdrain
  · exact hdrain

/-- The drains of a segment as a hub's record has completed (R158). -/
theorem hubCompleted_drains : ((hubCompleted g t c d).seg g).drains =
    if t.write then (erased t.order (d.seg g).drains).filter fun x => !x.writes.isEmpty else (d.seg g).drains := by
  have hseg : (answerHub t c d).seg g = d.seg g := by
    unfold answerHub
    split
    · rfl
    · rfl
  have hdrain : ((if t.write then drainCompleted g t.order (answerHub t c d) else answerHub t c d).seg g).drains =
      if t.write then (erased t.order (d.seg g).drains).filter fun x => !x.writes.isEmpty else (d.seg g).drains := by
    split
    · have hs := answerEach_segs (drainStatus g (answerHub t c d))
        ((erased t.order ((answerHub t c d).seg g).drains).filter fun x => x.writes.isEmpty)
        ((answerHub t c d).setSeg g { (answerHub t c d).seg g with
          drains := (erased t.order ((answerHub t c d).seg g).drains).filter fun x => !x.writes.isEmpty })
      rw [drainCompleted_eq, Dev.seg, hs]
      show (((answerHub t c d).setSeg g _).seg g).drains = _
      rw [seg_setSeg, hseg]
    · rw [hseg]
  unfold hubCompleted
  dsimp only
  split
  · rw [← hdrain]
    rcases restartIdle_eq g (if t.write then drainCompleted g t.order (answerHub t c d) else answerHub t c d) with
      hr | ⟨x, hx, hr⟩ <;> rw [hr]
    rw [seg_setSeg]
  · exact hdrain

/-- A hub's completion moves its segment and the link alone. -/
theorem hubCompleted_same : hubCompleted g t c d = { d with
    segs := (hubCompleted g t c d).segs, pli := (hubCompleted g t c d).pli } :=
  Dev.eq_of_blocks (by simp)

theorem hubCompleted_seg : (d.seg g).Ticks ((hubCompleted g t c d).seg g) ∧
    ∀ k, k ≠ g → (hubCompleted g t c d).seg k = d.seg k := by
  refine hubCompleted_keeps (P := fun e => (d.seg g).Ticks (e.seg g) ∧ ∀ k, k ≠ g → e.seg k = d.seg k)
    (fun x e hx he => ?_) (fun _ _ _ he => he) (fun _ _ _ he => he) ⟨⟨rfl, rfl, fun _ => Iff.rfl⟩, fun _ _ => rfl⟩
  obtain ⟨⟨h1, h2, h3⟩, ho⟩ := he
  obtain ⟨k1, k2, k3⟩ := hx
  refine ⟨?_, fun k hk => by rw [seg_setSeg_if, if_neg (Ne.symm hk)]; exact ho k hk⟩
  rw [seg_setSeg]
  exact ⟨k1.trans h1, k2.trans h2, fun j => (k3 j).trans (h3 j)⟩

end

/-! ### The part's own requesters -/

section
variable {P : Dev → Prop} {d : Dev}

theorem HandsOn.enterCommLost (h : HandsOn P) (hn : KeepsLow P) (hl : d.ppu.power = .sleep → MovesLink P) (k : Pack)
    (hd : P d) : P (enterCommLost k d) := by
  rw [enterCommLost_eq]
  refine h.raise _ _ (by simp [Notice.cls]) (h.batteryWatch hn (fun hs => hl ?_) (h.packGone k false (h.keep hd)))
  rw [← hs, (packGone_apart k false _).ppu]
  rfl

theorem HandsOn.abortCycle (h : HandsOn P) (hn : KeepsLow P) (hl : d.ppu.power = .sleep → MovesLink P) (k : Pack)
    (hd : P d) : P (abortCycle k d) :=
  HandsOn.ite (h.enterCommLost (d := Dev.setMon _ k _) hn hl k (h.keep hd)) (h.keep hd)

theorem HandsOn.issueItem (h : HandsOn P) (hn : KeepsLow P) (hl : d.ppu.power = .sleep → MovesLink P) (k : Pack)
    (c : Cycle) (hd : P d) : P (issueItem k c d) := by
  have hs (m : PackMonitor) : P (Machine.submit (segOf k) (packTxn m c) (d.setMon k { d.mon k with cycle := some c })).1 :=
    h.submit _ _ _ ⟨by simp [packTxn, internalTxn], rfl, rfl, rfl⟩ (h.keep hd)
  unfold Machine.issueItem
  dsimp only
  split
  · exact h.keep (hs _)
  · exact h.keep (hs _)
  · exact h.abortCycle hn (fun hp => hl (by simpa using hp)) k (hs _)

theorem HandsOn.packCompleted (h : HandsOn P) (hn : KeepsLow P) (hl : d.ppu.power = .sleep → MovesLink P) (k : Pack)
    {c : Completion} (hc : ∀ data, c ≠ .ok data) (hd : P d) : P (packCompleted k c d) := by
  have hmon (m : PackMonitor) : P (d.setMon k m) := h.keep hd
  have issue (m : PackMonitor) (cy : Cycle) : P (Machine.issueItem k cy (d.setMon k m)) :=
    h.issueItem (d := d.setMon k m) hn hl k cy (hmon m)
  by_cases ho : (d.mon k).orphan = true
  · rw [packCompleted_of_orphan c ho]
    refine HandsOn.ite ?_ (hmon _)
    rw [beginCycle_eq, begun_setMon, setMon_setMon]
    exact issue _ _
  · have ho : (d.mon k).orphan = false := by simpa using ho
    cases hcy : (d.mon k).cycle with
    | none =>
      rw [packCompleted_of_idle c ho hcy]
      exact hmon _
    | some cy =>
      by_cases hr : c = .segReset
      · rw [hr, packCompleted_segReset ho hcy]
        exact hmon _
      · have hf : c.Fails := by cases c <;> simp_all [Completion.Fails]
        rw [packCompleted_fails hf ho hcy]
        exact HandsOn.ite (h.abortCycle (d := d.setMon k _) hn hl k (hmon _)) (issue _ _)

theorem HandsOn.skinFailed (h : HandsOn P) (hl : d.ppu.power = .sleep → MovesLink P) (hd : P d) :
    P (skinFailed d) := by
  unfold Machine.skinFailed
  dsimp only
  refine HandsOn.ite (h.criticalWatch (fun hp => hl (by simpa using hp)) (h.evalZone ?_)) (h.keep hd)
  exact h.raise _ _ (by simp [Notice.cls]) (h.keep hd)

theorem skinCompleted_fails {c : Completion} (hc : ∀ data, c ≠ .ok data) (d : Dev) :
    skinCompleted c d = skinFailed d := by
  cases c with
  | ok data => exact absurd rfl (hc data)
  | addrNack | dataNack | timeout | segReset | segFault => rfl

/-- What the part's own requesters keep is kept by a failed completion of one of them. -/
theorem HandsOn.deliver (h : HandsOn P) (hn : KeepsLow P) (hl : d.ppu.power = .sleep → MovesLink P) {t : Txn}
    (ht : t.requester ≠ .hub) (g : Seg) {c : Completion} (hc : ∀ data, c ≠ .ok data) (hd : P d) :
    P (deliver g t c d) := by
  unfold Machine.deliver
  split
  · exact h.chargerCompleted _ c hd
  · exact h.packCompleted hn hl _ hc hd
  · exact h.inputCompleted c hd
  · rw [skinCompleted_fails hc]
    exact h.skinFailed hl hd
  · exact absurd ‹_› ht

end
end Sys2Proof.Machine

namespace Sys2Proof.Machine

/-! ## A segment that refuses arrivals while its records complete (R145, R148, R156, R159) -/

theorem submit_seg_refused {g : Seg} {d : Dev} (h : ¬ (d.seg g).Takes) (k : Seg) (t : Txn) :
    (submit k t d).1.seg g = d.seg g := by
  by_cases hk : (d.seg k).Takes
  · have hgk : k ≠ g := by rintro rfl; exact h hk
    rw [submit_of_takes t hk, arbitrate_other (Ne.symm hgk), seg_setSeg_if, if_neg hgk]
  · rw [submit_of_refuses t hk]

/-- With the link as it is such a segment is left alone by the part's own requesters. -/
theorem still_handsOn {g : Seg} {sg : Segment} (h : ¬ sg.Takes) : HandsOn fun e => e.seg g = sg where
  same _ _ hs _ _ he := by rw [← he]; simp [Dev.seg, hs]
  submit k t _ _ he := (submit_seg_refused (he ▸ h) k t).trans he
  raise _ _ _ he := he

theorem still_keepsLow (g : Seg) (sg : Segment) : KeepsLow fun e => e.seg g = sg := fun _ _ he => he

/-- A segment with an empty queue that a link DOWN at most has moved (R159). -/
structure Segment.Shut (sg x : Segment) : Prop where
  state : x.state = sg.state
  queue : x.queue = []
  drains : x.drains = sg.drains ∨ x.drains = []
  sequence : x.sequence = sg.sequence ∨ x.sequence = .noSeq

theorem linkDown_seg (d : Dev) (g : Seg) : (linkDown d).seg g = (segsFallen d).seg g := by
  have hs : (linkDown d).segs = (segsFallen d).segs := by rw [linkDown_eq]; simp
  rw [Dev.seg, hs]
  rfl

theorem Segment.Shut.refuses {sg x : Segment} (h : sg.Shut x) (hs : ¬ sg.Takes) : ¬ x.Takes := by
  rwa [Segment.Takes, h.state]

theorem shut_handsOn {g : Seg} {sg : Segment} (hs : ¬ sg.Takes) : HandsOn fun e => sg.Shut (e.seg g) where
  same d e he _ _ h := by
    have hseg : e.seg g = d.seg g := by rw [Dev.seg, he]; rfl
    rwa [hseg]
  submit k t d _ h := by
    rw [submit_seg_refused (h.refuses hs) k t]
    exact h
  raise _ _ _ h := h

theorem shut_movesLink {g : Seg} {sg : Segment} (hs : ¬ sg.Takes) : MovesLink fun e => sg.Shut (e.seg g) where
  low _ _ h := h
  up d h := by
    have hl : (linkUp d).seg g = d.seg g := by simp [Dev.seg]
    rwa [hl]
  down d h := by
    have hi : (d.seg g).state ≠ .idle := fun hi => h.refuses hs (by simp [Segment.Takes, hi])
    obtain ⟨h1, h2, -, h4⟩ := segsFallen_seg d g
    obtain ⟨h4, h5⟩ := h4 hi
    rw [linkDown_seg]
    exact ⟨h4.trans h.state, by rw [h5, h.queue]; rfl, .inr h2, .inr h1⟩

section
variable {g : Seg} {t : Txn} {c : Completion} {d : Dev}

/-- A failed completion of one of the part's own requesters leaves the segment it was on, but for a link DOWN in
SLEEP. -/
theorem deliver_own_shut (ht : t.requester ≠ .hub) (hc : ∀ data, c ≠ .ok data) (hs : ¬ (d.seg g).Takes)
    (hq : (d.seg g).queue = []) : (d.seg g).Shut ((deliver g t c d).seg g) :=
  (shut_handsOn hs).deliver (shut_movesLink hs).low (fun _ => shut_movesLink hs) ht g hc ⟨rfl, hq, .inl rfl, .inl rfl⟩

theorem deliver_own_still (ht : t.requester ≠ .hub) (hc : ∀ data, c ≠ .ok data) (hs : ¬ (d.seg g).Takes)
    (hp : d.ppu.power ≠ .sleep) : (deliver g t c d).seg g = d.seg g :=
  (still_handsOn (g := g) hs).deliver (still_keepsLow g _) (fun h => absurd h hp) ht g hc rfl

theorem deliver_hub (ht : t.requester = .hub) : deliver g t c d = hubCompleted g t c d := by
  unfold deliver
  rw [ht]

/-- The completion of any record leaves the segment it was on refusing, with its queue empty. -/
theorem deliver_refuses (hc : ∀ data, c ≠ .ok data) (hs : ¬ (d.seg g).Takes) (hq : (d.seg g).queue = []) :
    ((deliver g t c d).seg g).state = (d.seg g).state ∧ ((deliver g t c d).seg g).queue = [] := by
  by_cases ht : t.requester = .hub
  · rw [deliver_hub ht]
    obtain ⟨hk, -⟩ := hubCompleted_seg (g := g) (t := t) (c := c) (d := d)
    exact ⟨hk.state, hk.queue.trans hq⟩
  · have h := deliver_own_shut ht hc hs hq
    exact ⟨h.state, h.queue⟩

end

/-! ### The drains (R158) -/

/-- A set of writes that the hub's writes among some records make up. -/
def CoveredBy (l : List Txn) (x : DrainEntry) : Prop :=
  x.writes ≠ [] ∧ ∀ o ∈ x.writes, ∃ t ∈ l, t.requester = .hub ∧ t.write = true ∧ t.order = o

theorem drains_iff_coveredBy (sg : Segment) (x : DrainEntry) : sg.Drains x ↔ CoveredBy sg.queue x := Iff.rfl

/-- What a hub's write leaves of such a set the writes after it make up. -/
theorem CoveredBy.erase {t : Txn} {l : List Txn} {x : DrainEntry} (h : CoveredBy (t :: l) x)
    (hw : x.writes.filter (· != t.order) ≠ []) : CoveredBy l { x with writes := x.writes.filter (· != t.order) } := by
  refine ⟨hw, fun o ho => ?_⟩
  obtain ⟨hm, hne⟩ := List.mem_filter.mp ho
  obtain ⟨u, hu, h1, h2, h3⟩ := h.2 o hm
  rcases List.mem_cons.mp hu with rfl | hu
  · rw [h3] at hne
    simp at hne
  · exact ⟨u, hu, h1, h2, h3⟩

/-- A record that is no hub's write makes up no part of a set. -/
theorem CoveredBy.tail {t : Txn} {l : List Txn} {x : DrainEntry} (h : CoveredBy (t :: l) x)
    (ht : t.requester ≠ .hub ∨ t.write = false) : CoveredBy l x := by
  refine ⟨h.1, fun o ho => ?_⟩
  obtain ⟨u, hu, h1, h2, h3⟩ := h.2 o ho
  rcases List.mem_cons.mp hu with rfl | hu
  · rcases ht with ht | ht
    · exact absurd h1 ht
    · rw [h2] at ht; cases ht
  · exact ⟨u, hu, h1, h2, h3⟩

/-- A set that no records make up. -/
theorem not_coveredBy_nil (x : DrainEntry) : ¬ CoveredBy [] x := by
  rintro ⟨hne, h⟩
  obtain ⟨o, ho⟩ := List.exists_mem_of_ne_nil _ hne
  obtain ⟨t, ht, -⟩ := h o ho
  cases ht

/-- What stands of the drains of a segment as a hub's record has completed, where its queue's writes made them up. -/
theorem hubCompleted_coveredBy {g : Seg} {t : Txn} {c : Completion} {d : Dev} {l : List Txn}
    (h : ∀ x ∈ (d.seg g).drains, CoveredBy (t :: l) x) :
    ∀ x ∈ ((hubCompleted g t c d).seg g).drains, CoveredBy l x := by
  intro x hx
  rw [hubCompleted_drains] at hx
  split at hx
  · obtain ⟨hm, hne⟩ := List.mem_filter.mp hx
    obtain ⟨y, hy, rfl⟩ := List.mem_map.mp hm
    exact (h y hy).erase (by simpa using hne)
  · rename_i hw
    exact (h x hx).tail (.inr (by simpa using hw))

/-- The records of an emptied segment completed, the rest to go. -/
structure Dev.Emptying (e : Dev) (g : Seg) (st : SegState) : Prop where
  state : (e.seg g).state = st
  queue : (e.seg g).queue = []

theorem Dev.Emptying.refuses {e : Dev} {g : Seg} {st : SegState} (h : e.Emptying g st) (hs : st = .held ∨ st = .fault) :
    ¬ (e.seg g).Takes := by
  unfold Segment.Takes
  rw [h.state]
  rcases hs with rfl | rfl <;> simp

/-- An emptied segment stays so, and its drains that the queue's writes make up go as these complete (R158). -/
theorem deliverAll_empties {g : Seg} {c : Completion} {q : List Txn} {d : Dev} {st : SegState}
    (hs : st = .held ∨ st = .fault) (hc : ∀ data, c ≠ .ok data) (h : d.Emptying g st) :
    (deliverAll g c q d).Emptying g st ∧
    ((∀ x ∈ (d.seg g).drains, CoveredBy q x) → ((deliverAll g c q d).seg g).drains = []) := by
  have step (t : Txn) {e : Dev} (he : e.Emptying g st) : (deliver g t c e).Emptying g st := by
    obtain ⟨h1, h2⟩ := deliver_refuses (t := t) hc (he.refuses hs) he.queue
    exact ⟨h1.trans he.state, h2⟩
  refine ⟨deliverAll_keeps (I := fun _ e => e.Emptying g st) (fun t _ _ he => step t he) h, fun hd => ?_⟩
  suffices hnone : (deliverAll g c q d).Emptying g st ∧ ∀ x ∈ ((deliverAll g c q d).seg g).drains, CoveredBy [] x from
    List.eq_nil_iff_forall_not_mem.mpr fun x hx => not_coveredBy_nil x (hnone.2 x hx)
  refine deliverAll_keeps (I := fun l e => e.Emptying g st ∧ ∀ x ∈ (e.seg g).drains, CoveredBy l x)
    (fun t l e he => ?_) ⟨h, hd⟩
  · obtain ⟨he, hcov⟩ := he
    refine ⟨step t he, ?_⟩
    by_cases ht : t.requester = .hub
    · rw [deliver_hub ht]
      exact hubCompleted_coveredBy hcov
    · intro x hx
      rcases (deliver_own_shut ht hc (he.refuses hs) he.queue).drains with hsame | hnil
      · rw [hsame] at hx
        exact (hcov x hx).tail (.inl ht)
      · rw [hnil] at hx
        cases hx

end Sys2Proof.Machine

namespace Sys2Proof.Machine

/-! ## A skin read that fails (R92, R94 to R98) -/

/-- The TFU as a skin read has failed (R92). -/
def Tfu.missed (t : Tfu) : Tfu := { t with skinReading := false, skinFailures := min 3 (t.skinFailures + 1) }

/-- The part as S becomes FAIL_SAFE, before its zone and the critical mark are evaluated (R92). -/
def Dev.skinLost (d : Dev) : Dev :=
  raise (.thermalInputLost true) (d.setTfu { d.tfu.missed with skin := ⟨d.tst.thermal.failSafe, .failSafe⟩ })

theorem skinFailed_eq (d : Dev) : skinFailed d =
    if d.tfu.skinFailures = 2 then criticalWatch (evalZone d.skinLost) else d.setTfu d.tfu.missed := rfl

/-! ### The zone (R77, R94, R95) -/

theorem nextZone_eq (th : ThermalTab) {x : Source} (h : x.cond ≠ .absent) (zone : Nat) :
    nextZone th x zone = th.moved zone x.value := by
  unfold nextZone ThermalTab.moved ThermalTab.highestZone
  rw [if_neg h]
  match zone with
  | 0 | 1 | 2 | n + 3 => simp [ThermalTab.threshold]

/-- Both packs have no commanded values in zone 3 (R77). -/
structure Dev.Dark (d : Dev) : Prop where
  zone : d.tfu.zone = 3
  unfed : ∀ k, d.Unfed k

theorem Dev.Dark.iff {d : Dev} : d.Dark ↔ d.tfu.zone = 3 ∧ ∀ k, (d.chp k).current = 0 ∧ (d.chp k).voltage = 0 :=
  ⟨fun h => ⟨h.zone, fun k => ⟨(h.unfed k).current, (h.unfed k).voltage⟩⟩,
    fun h => ⟨h.1, fun k => ⟨.inr (.inr h.1), (h.2 k).1, (h.2 k).2⟩⟩⟩

/-- What leaves the zone and the commanded values leaves both packs dark. -/
theorem Dev.Dark.same {d e : Dev} (h : d.Dark) (hz : e.tfu.zone = d.tfu.zone)
    (hc : ∀ k, (e.chp k).current = (d.chp k).current ∧ (e.chp k).voltage = (d.chp k).voltage) : e.Dark := by
  obtain ⟨h1, h2⟩ := Dev.Dark.iff.mp h
  exact Dev.Dark.iff.mpr ⟨hz.trans h1, fun k => ⟨(hc k).1.trans (h2 k).1, (hc k).2.trans (h2 k).2⟩⟩

theorem Dev.Dark.allocate {d : Dev} (h : d.Dark) : (allocate d).Dark :=
  h.same rfl fun k => by rw [(h.unfed k).allocate_chp]; exact ⟨rfl, rfl⟩

theorem dark_keeps : ChargeKeeps Dev.Dark where
  allocate _ h := h.allocate
  pass k d h := h.same (by simp) fun j => by
    by_cases hj : k = j
    · rw [← hj, startPass_chp]
      exact ⟨rfl, rfl⟩
    · rw [((h.unfed j).leaves.startPass hj).chp]
      exact ⟨rfl, rfl⟩
  fault k d _ h := by
    obtain ⟨h1, h2⟩ := Dev.Dark.iff.mp h
    refine Dev.Dark.allocate (Dev.Dark.iff.mpr ⟨h1, fun j => ?_⟩)
    rw [raise_chp, chp_setChp_if]
    split
    · simp [ChargePack.enter, Stage.charging]
    · exact h2 j

/-- The zone evaluated: the TFU moves in it alone, a change is told, and zone 3 entered takes the commanded values of
both packs away. -/
theorem evalZone_spec (d : Dev) (h : d.tfu.skin.cond ≠ .absent) :
    (evalZone d).tfu = { d.tfu with zone := d.tst.thermal.moved d.tfu.zone d.tfu.skin.value } ∧
    ((evalZone d).tfu.zone ≠ d.tfu.zone → (evalZone d).Raised 11 ∧ ((evalZone d).tfu.zone = 3 → (evalZone d).Dark)) := by
  have hz := nextZone_eq d.tst.thermal h d.tfu.zone
  unfold evalZone
  dsimp only
  rw [hz]
  generalize d.tst.thermal.moved d.tfu.zone d.tfu.skin.value = z
  split
  · rename_i he
    exact ⟨by rw [he], fun hn => absurd rfl hn⟩
  · have ht : (zoneChange z d).tfu = { d.tfu with zone := z } := by
      unfold zoneChange writeChanged
      dsimp only
      split <;> simp [zeroCommands]
    rw [ht]
    refine ⟨rfl, fun _ => ⟨raise_raised (.thermalZone _ _ _) _ (Notice.cls_lt _), fun h3 => ?_⟩⟩
    have h3 : z = 3 := h3
    subst h3
    have hd : (zeroCommands (d.setTfu { d.tfu with zone := 3 })).Dark :=
      Dev.Dark.iff.mpr ⟨rfl, fun k => by cases k <;> exact ⟨rfl, rfl⟩⟩
    exact (dark_keeps.startPasses 8 _ hd.allocate).same rfl fun _ => ⟨rfl, rfl⟩

/-! ### The critical mark (R96 to R98) -/

/-- The critical mark in ON and where it is only recorded moves itself and its grace timer, and tells. -/
theorem criticalWatch_awake {d : Dev} (h : d.ppu.power ≠ .sleep) : criticalWatch d = { d with
    tfu := { d.tfu with critical := nextCritical d.tst.thermal d.tfu, graceTimer := (criticalWatch d).tfu.graceTimer }
    nsu := (criticalWatch d).nsu } := by
  have hc : (computeCritical d).ppu = d.ppu := rfl
  unfold criticalWatch
  dsimp only
  rw [hc]
  split
  · split
    · rfl
    · split <;> rfl
  · exact absurd ‹_› h
  all_goals rfl

/-- With no source REAL the mark is clear (R96). -/
theorem nextCritical_of_unreal (th : ThermalTab) {t : Tfu} (h : ∀ x ∈ t.heatSources, x.cond ≠ .real) :
    nextCritical th t = false := by
  have hn (m : Nat) : t.hotSource th m = none := by
    unfold Tfu.hotSource
    rw [Option.map_eq_none_iff, List.find?_eq_none]
    rintro ⟨x, i⟩ hx
    have hm : x ∈ t.heatSources := List.mem_of_getElem? (List.mem_zipIdx_iff_getElem?.mp hx)
    simp [h x hm]
  simp [nextCritical, hn]

theorem heatSources_unreal {t : Tfu} (hd : ∀ x ∈ t.die, x.cond ≠ .real) (hs : t.skin.cond ≠ .real) :
    ∀ x ∈ t.heatSources, x.cond ≠ .real := by
  intro x hx
  rcases List.mem_append.mp hx with hx | hx
  · exact hd x hx
  · rwa [List.mem_singleton.mp hx]

/-- In SLEEP, with no source REAL, the mark is evaluated and nothing follows. -/
theorem criticalWatch_unreal {d : Dev} (h : ∀ x ∈ d.tfu.heatSources, x.cond ≠ .real) (hp : d.ppu.power = .sleep) :
    criticalWatch d = { d with tfu := { d.tfu with critical := false } } := by
  have hn := nextCritical_of_unreal d.tst.thermal h
  have hc : computeCritical d = { d with tfu := { d.tfu with critical := false } } := by
    unfold computeCritical
    rw [hn]
    rfl
  unfold criticalWatch
  dsimp only
  rw [hc, hp]
  rfl

/-- What a change of power state keeps of the TFU the critical watch keeps. -/
theorem criticalWatch_keeps {Q : Dev → Prop} (hQ : ∀ d e p, d.Entered e p → Q d → Q e)
    (hsame : ∀ d e : Dev, e.tfu = { d.tfu with critical := e.tfu.critical, graceTimer := e.tfu.graceTimer } → Q d → Q e)
    {d : Dev} (hd : Q d) : Q (criticalWatch d) := by
  by_cases hp : d.ppu.power = .sleep
  · have hr : Q (raiseCritical (computeCritical d)) := hsame d _ rfl hd
    have hf : Q (forcedOff .thermal (raiseCritical (computeCritical d))) := by
      rw [forcedOff_of_up .thermal (by simp [hp]) (by simp [hp])]
      exact (powerDown_passes .thermal _).keeps hQ (hsame (raiseCritical (computeCritical d)) _ rfl hr)
    unfold criticalWatch
    simp only [computeCritical_frame, hp]
    split
    · exact hf
    · exact hsame d _ rfl hd
  · refine hsame d _ ?_ hd
    rw [criticalWatch_awake hp]

/-- What the critical watch leaves of the skin reader and its source. -/
theorem criticalWatch_skin (d : Dev) : (criticalWatch d).tfu.skin = d.tfu.skin ∧
    (criticalWatch d).tfu.skinReading = d.tfu.skinReading ∧
    (criticalWatch d).tfu.skinFailures = d.tfu.skinFailures ∧ (criticalWatch d).tfu.zone = d.tfu.zone :=
  criticalWatch_keeps (Q := fun e => e.tfu.skin = d.tfu.skin ∧ e.tfu.skinReading = d.tfu.skinReading ∧
      e.tfu.skinFailures = d.tfu.skinFailures ∧ e.tfu.zone = d.tfu.zone)
    (fun x e p he hx => by rw [he.heat]; exact hx) (fun x e ht hx => by rw [ht]; exact hx) ⟨rfl, rfl, rfl, rfl⟩

theorem Dev.LeavesUnfed.criticalWatch {d e : Dev} {k : Pack} (h : d.LeavesUnfed e k) :
    d.LeavesUnfed (criticalWatch e) k := by
  have hc : d.LeavesUnfed (computeCritical e) k := h.keep
  unfold Machine.criticalWatch
  dsimp only
  split
  · exact Dev.LeavesUnfed.ite (hc.keep) (Dev.LeavesUnfed.ite hc (hc.keep))
  · exact Dev.LeavesUnfed.ite (Dev.LeavesUnfed.forcedOff (hc.keep) _) hc
  all_goals exact hc

theorem Dev.Dark.criticalWatch {d : Dev} (h : d.Dark) : (criticalWatch d).Dark :=
  Dev.Dark.iff.mpr ⟨(criticalWatch_skin d).2.2.2.trans h.zone, fun k =>
    have hu := ((h.unfed k).leaves.criticalWatch).cause
    ⟨hu.current, hu.voltage⟩⟩

/-- With S not REAL the mark does what R96 to R98 say of it. -/
theorem criticalWatch_acts {d : Dev} (h : d.tfu.skin.cond ≠ .real) : d.MarkActs (criticalWatch d) := by
  have hskin := (criticalWatch_skin d).1
  have hfollows : (computeCritical d).MarkFollows d.tfu.critical := markFollows_of_next rfl
  have shuts {p : Prop} (hr : (criticalWatch d).tfu.skin.cond = .real) : p := absurd (hskin ▸ hr) h
  by_cases hs : d.ppu.power = .sleep
  · have hon {p : Prop} (hp : d.ppu.power = .on) : p := by rw [hs] at hp; cases hp
    refine ⟨fun hd => ?_, hon, hon, hon, fun _ hn => absurd hs hn, fun _ _ hr => shuts hr, fun _ hd _ => ?_⟩
    · have hd := hd.resolve_left (fun hn => hn hs)
      have hx := heatSources_unreal hd h
      have hc : computeCritical d = { d with tfu := { d.tfu with critical := false } } := by
        unfold computeCritical
        rw [nextCritical_of_unreal _ hx]
        rfl
      rw [criticalWatch_unreal hx hs, ← hc]
      exact hfollows
    · rw [criticalWatch_unreal (heatSources_unreal hd h) hs]
      exact ⟨rfl, rfl, rfl⟩
  · have hsleep {p : Prop} (hp : d.ppu.power = .sleep) : p := absurd hp hs
    have hw := criticalWatch_awake hs
    have hstands : (criticalWatch d).MarkFollows d.tfu.critical := by
      refine markFollows_of_next ?_
      generalize criticalWatch d = e at hw
      rw [hw]
      rfl
    refine ⟨fun _ => hstands, fun hp hc => ?_, fun hp h0 h1 => ?_, fun hp h0 h1 => ?_, fun hp _ => ?_, hsleep, hsleep⟩
    all_goals
      have hc' : (computeCritical d).ppu = d.ppu := rfl
      have hm : (criticalWatch d).tfu.critical = (computeCritical d).tfu.critical := by
        generalize criticalWatch d = e at hw
        rw [hw]
        rfl
    · rw [hm] at hc
      unfold criticalWatch
      simp [hp, hc]
    · rw [hm] at h1
      unfold criticalWatch
      simp only [hc', hp, h0, h1]
      rfl
    · rw [hm] at h1
      have he : criticalWatch d = criticalCrossing (computeCritical d) := by
        unfold criticalWatch
        simp [hp, h0, h1]
      rw [he]
      exact ⟨raise_raised (.thermalCritical _ _) _ (Notice.cls_lt _), rfl⟩
    · unfold criticalWatch
      dsimp only
      rw [hc']
      split
      · exact absurd ‹_› hp
      · exact absurd ‹_› hs
      all_goals rfl

/-! ### The read and what follows it -/

/-- The mark acts between two moments as well where the heat it is read from has not moved before. -/
theorem Dev.MarkActs.of_before {d x e : Dev} (h : x.MarkActs e) (hd : x.tfu.die = d.tfu.die)
    (hc : x.tfu.critical = d.tfu.critical) (hg : x.tfu.graceTimer = d.tfu.graceTimer) (hp : x.ppu = d.ppu)
    (hw : x.wku = d.wku) (ht : x.tst = d.tst) (hn : x.pins.powerGood = d.pins.powerGood) : d.MarkActs e := by
  obtain ⟨h1, h2, h3, h4, h5, h6, h7⟩ := h
  simp only [hd, hc, hg, hp, hw, ht, hn] at h1 h2 h3 h4 h5 h6 h7
  exact ⟨h1, h2, h3, h4, h5, h6, h7⟩

/-- The mark acts between two moments as well where the TFU has not moved after. -/
theorem Dev.MarkActs.after {d e f : Dev} (h : d.MarkActs e) (ht : f.tfu = e.tfu) (hp : f.ppu = e.ppu)
    (hw : f.wku = e.wku) (hs : f.tst = e.tst) (hr : ∀ c, e.Raised c → f.Raised c) : d.MarkActs f := by
  obtain ⟨h1, h2, h3, h4, h5, h6, h7⟩ := h
  have hot (m : Nat) : f.HotBy m ↔ e.HotBy m := by unfold Dev.HotBy; rw [ht, hs]
  have hfollows (b : Bool) (x : e.MarkFollows b) : f.MarkFollows b := by
    obtain ⟨x1, x2, x3⟩ := x
    refine ⟨fun y => ?_, fun y => ?_, fun y z => ?_⟩ <;> rw [ht]
    · exact x1 ((hot 0).mp y)
    · rw [hot, hs] at y
      exact x2 y
    · rw [hot] at y z
      rw [hs] at z
      exact x3 y z
  simp only [← ht, ← hp, ← hw] at h2 h3 h4 h5 h6 h7
  exact ⟨fun x => hfollows _ (h1 x), h2, h3, fun x y z => ⟨hr _ (h4 x y z).1, (h4 x y z).2⟩, h5,
    fun x y z w => ⟨hr _ (h6 x y z w).1, (h6 x y z w).2⟩, h7⟩

/-- A skin read that fails (R92), and zone 3 entered leaves both packs dark (R77). -/
theorem skinFailed_fails (d : Dev) : d.SkinFails (skinFailed d) ∧
    (d.tfu.skinFailures = 2 → (skinFailed d).tfu.zone ≠ d.tfu.zone → (skinFailed d).tfu.zone = 3 → (skinFailed d).Dark) := by
  rw [skinFailed_eq]
  by_cases h2 : d.tfu.skinFailures = 2
  · rw [if_pos h2]
    obtain ⟨hz, ht⟩ := evalZone_spec d.skinLost (by simp [Dev.skinLost])
    have hr : (evalZone d.skinLost).Raised 13 :=
      (evalZone_orderly (.refl _)).raised 13 (raise_raised (.thermalInputLost true) _ (Notice.cls_lt _))
    have hframe := evalZone_frame d.skinLost
    generalize evalZone d.skinLost = y at hz ht hr hframe
    obtain ⟨-, -, hpins, -, -, -, hppu, hwku, htst, -⟩ := hframe
    have htfu : y.tfu = { d.tfu.missed with
        skin := ⟨d.tst.thermal.failSafe, .failSafe⟩
        zone := d.tst.thermal.moved d.tfu.zone d.tst.thermal.failSafe } := hz
    obtain ⟨hk1, hk2, hk3, hk4⟩ := criticalWatch_skin y
    have hord := criticalWatch_orderly (.refl y)
    rw [htfu] at hk1 hk2 hk3 hk4
    have hacts : d.MarkActs (criticalWatch y) :=
      (criticalWatch_acts (d := y) (by rw [htfu]; simp)).of_before (by rw [htfu]; rfl) (by rw [htfu]; rfl)
        (by rw [htfu]; rfl) hppu hwku htst (by rw [hpins]; rfl)
    have hzone : y.tfu.zone = (criticalWatch y).tfu.zone := by rw [hk4, htfu]
    rw [hzone] at ht
    refine ⟨⟨⟨hk2, hk3⟩, fun hn => absurd h2 hn, fun _ => ⟨hk1, hord.raised 13 hr, hk4, fun hn => ?_, hacts⟩⟩, fun _ hn h3 => ?_⟩
    · obtain ⟨h11, hd⟩ := ht hn
      refine ⟨hord.raised 11 h11, fun h3 => ?_⟩
      have hu := (hd h3).criticalWatch.unfed
      exact ⟨(hu .a).current, (hu .b).current⟩
    · exact ((ht hn).2 h3).criticalWatch
  · rw [if_neg h2]
    exact ⟨⟨⟨rfl, rfl⟩, fun _ => rfl, fun h => absurd h h2⟩, fun h => absurd h h2⟩

end Sys2Proof.Machine

namespace Sys2Proof.Machine

/-! ## A failed completion told to each of the part's own requesters (R55 to R57, R64, R79, R92) -/

/-! ### The PKM -/

/-- A read of a pack that fails for good aborts a cycle: the one under way, or the identification that waited for an
orphan (R46, R55). -/
def PackMonitor.aborts (m : PackMonitor) : Bool :=
  if m.orphan then m.record.state == .identifying else m.cycle.isSome

/-- A pack's monitor as its read has been met and an orphan discarded, the identification that waited begun (R46,
R47). -/
def Dev.discarded (d : Dev) (k : Pack) : PackMonitor :=
  if (d.mon k).orphan = true ∧ (d.mon k).record.state = .identifying then { (d.mon k).met with
    orphan := false, staged := [], copyAddress := d.tst.power.packAddress.get k.ix, copyCommands := d.tst.itemmap }
  else { (d.mon k).met with orphan := false }

theorem discarded_record (d : Dev) (k : Pack) : (d.discarded k).record = (d.mon k).record := by
  unfold Dev.discarded
  split <;> rfl

/-- A pack's monitor after SEG_RESET for its read (R57). -/
def Dev.paused (d : Dev) (k : Pack) : PackMonitor :=
  if (d.mon k).aborts then (d.discarded k).endCycle else d.discarded k

/-- A pack's monitor after SEG_FAULT for its read and its retry (R55, R56). -/
def Dev.failed (d : Dev) (k : Pack) : PackMonitor :=
  if (d.mon k).aborts then { d.discarded k with cycle := none, staged := [], record := (d.mon k).record.aborted }
  else d.discarded k

theorem packCompleted_held {k : Pack} {d : Dev} (h : (d.seg (segOf k)).state = .held) :
    packCompleted k .segReset d = d.setMon k (d.paused k) := by
  unfold Dev.paused Dev.discarded PackMonitor.aborts
  by_cases ho : (d.mon k).orphan = true
  · rw [packCompleted_of_orphan _ ho]
    by_cases hi : (d.mon k).record.state = .identifying
    · rw [if_pos hi, beginCycle_held (d := d.setMon k _) _ h, begun_setMon]
      simp [ho, hi, PackMonitor.endCycle, PackMonitor.met]
    · simp [ho, hi]
  · have ho : (d.mon k).orphan = false := by simpa using ho
    have hm : { (d.mon k).met with orphan := false } = (d.mon k).met := by
      simp only [PackMonitor.met, ← ho]
    cases hc : (d.mon k).cycle with
    | none =>
      rw [packCompleted_of_idle _ ho hc]
      simp [ho, hm]
    | some cy =>
      rw [packCompleted_segReset ho hc]
      simp [ho, hm]

theorem packCompleted_fault {k : Pack} {d : Dev} (h : (d.seg (segOf k)).state = .fault) :
    packCompleted k .segFault d = if (d.mon k).aborts then abortCycle k (d.setMon k (d.discarded k))
      else d.setMon k (d.discarded k) := by
  unfold Dev.discarded PackMonitor.aborts
  by_cases ho : (d.mon k).orphan = true
  · rw [packCompleted_of_orphan _ ho]
    by_cases hi : (d.mon k).record.state = .identifying
    · rw [if_pos hi, beginCycle_fault (d := d.setMon k _) _ h, begun_setMon]
      simp [ho, hi]
    · simp [ho, hi]
  · have ho : (d.mon k).orphan = false := by simpa using ho
    have hm : { (d.mon k).met with orphan := false } = (d.mon k).met := by
      simp only [PackMonitor.met, ← ho]
    cases hc : (d.mon k).cycle with
    | none =>
      rw [packCompleted_of_idle _ ho hc]
      simp [ho, hm]
    | some cy =>
      rw [packCompleted_fails (by simp [Completion.Fails]) ho hc, issueItem_fault (d := d.setMon k _) _ h, ite_self]
      simp [ho, hm]

theorem aborted_of_loses {r : PackRecord} (h : r.Loses) : r.aborted = { r with
    state := .commLost, failures := 3, stale := r.stale || r.telemetry.isSome } := if_pos h

theorem aborted_of_keeps {r : PackRecord} (h : ¬ r.Loses) : r.aborted = { r with
    failures := min 3 (r.failures + 1) } := if_neg h

/-- An abort that is no loss of contact (R55). -/
theorem packCompleted_fault_keeps {k : Pack} {d : Dev} (h : (d.seg (segOf k)).state = .fault)
    (hl : (d.mon k).aborts = true → ¬ (d.mon k).record.Loses) :
    packCompleted k .segFault d = d.setMon k (d.failed k) := by
  rw [packCompleted_fault h]
  unfold Dev.failed
  split
  · rename_i ha
    have hl := hl ha
    rw [abortCycle_counts (by rwa [mon_setMon, discarded_record]), mon_setMon, setMon_setMon, aborted_of_keeps hl,
      PackMonitor.aborted, discarded_record]
  · rfl

/-- A pack's monitor with nothing under way: another completion finds nothing to do. -/
def PackMonitor.Rests (m : PackMonitor) : Prop := m.orphan = false ∧ m.cycle = none ∧ m.outstanding = false

theorem PackMonitor.Rests.not_aborts {m : PackMonitor} (h : m.Rests) : m.aborts = false := by
  simp [PackMonitor.aborts, h.1, h.2.1]

theorem PackMonitor.Rests.discarded {d : Dev} {k : Pack} (h : (d.mon k).Rests) : d.discarded k = d.mon k := by
  obtain ⟨ho, -, hr⟩ := h
  unfold Dev.discarded PackMonitor.met
  rw [if_neg (by simp [ho])]
  cases hm : d.mon k
  simp_all

theorem failed_rests {d : Dev} {k : Pack} (h : (d.mon k).orphan = false ∨ (d.mon k).cycle = none) :
    (d.failed k).Rests ∧ (d.paused k).Rests := by
  have hd : (d.discarded k).orphan = false ∧ (d.discarded k).outstanding = false ∧
      (d.discarded k).cycle = (d.mon k).cycle := by
    unfold Dev.discarded
    split <;> exact ⟨rfl, rfl, rfl⟩
  obtain ⟨h1, h2, h3⟩ := hd
  unfold Dev.failed Dev.paused
  split
  · exact ⟨⟨h1, rfl, h2⟩, ⟨h1, rfl, h2⟩⟩
  · rename_i ha
    have hc : (d.mon k).cycle = none := h.elim (fun ho => by simpa [PackMonitor.aborts, ho] using ha) id
    exact ⟨⟨h1, h3.trans hc, h2⟩, ⟨h1, h3.trans hc, h2⟩⟩

/-- Another read of a pack with nothing under way leaves it alone. -/
theorem packCompleted_of_rests {k : Pack} {d : Dev} (h : (d.mon k).Rests) (c : Completion) : packCompleted k c d = d := by
  obtain ⟨ho, hc, hr⟩ := h
  have hm : (d.mon k).met = d.mon k := by rw [PackMonitor.met, ← hr]
  rw [packCompleted_of_idle c ho hc, hm, setMon_eq]
  simp [Dev.mon]

/-! ### A pack that loses contact outside SLEEP (R55, R56, R69, R82) -/

/-- A pack with no commanded values in a stage that draws no current. -/
structure Dev.Spent (d : Dev) (k : Pack) : Prop where
  stage : (d.chp k).stage.charging = false
  current : (d.chp k).current = 0
  voltage : (d.chp k).voltage = 0

theorem Dev.Spent.unfed {d : Dev} {k : Pack} (h : d.Spent k) : d.Unfed k := ⟨.inl h.stage, h.current, h.voltage⟩

/-- What a loss of contact outside SLEEP makes of the part, the pack's monitor being left so. -/
structure Dev.Loses (d e : Dev) (k : Pack) (m : PackMonitor) : Prop where
  same : e = { d with
    pkm := d.pkm.set k.ix m
    chg := e.chg, segs := e.segs, pli := e.pli, nsu := e.nsu }
  chg : e.chg = { d.chg with
    systemSoc := e.chg.systemSoc, lowMark := e.chg.lowMark, graceTimer := e.chg.graceTimer
    headroom := e.chg.headroom, packs := e.chg.packs }
  spent : e.Spent k
  told : e.Raised 6
  watch : d.WatchActs e

theorem enterCommLost_awake (k : Pack) {d : Dev} (hp : d.ppu.power ≠ .sleep) :
    d.Loses (enterCommLost k d) k { d.mon k with record := (d.mon k).record.lost } := by
  rw [enterCommLost_eq]
  generalize hx : d.setMon k { d.mon k with record := (d.mon k).record.lost } = x
  have hxr : (x.mon k).record.state ≠ .ready := by rw [← hx, mon_setMon]; simp [PackRecord.lost]
  have hxa : d.Apart x := by
    rw [← hx]
    exact ⟨rfl, rfl, rfl, rfl, rfl, ⟨rfl, rfl⟩, .of_same rfl rfl⟩
  have hy := packGone_goesUnfed k false hxr
  have hya := packGone_apart k false x
  have hyc : (packGone k false x).chg.core = x.chg.core := by rw [packGone_eq, startPasses_core, goneStage_core]
  have hys := packGone_same k false x
  generalize packGone k false x = y at *
  have hyp : y.ppu.power ≠ .sleep := by rw [hya.ppu, hxa.ppu]; exact hp
  have hw := batteryWatch_only (d := y) fun h => absurd h hyp
  have hend := hy.batteryWatch.raise (.packChange k .commLost)
  refine ⟨?_, ?_, ⟨?_, hend.unfed.current, hend.unfed.voltage⟩, raise_raised (.packChange k .commLost) _ (Notice.cls_lt _), ?_⟩
  · have hs := hw.same
    generalize batteryWatch y = z at hs
    rw [hs, hys, ← hx]
    rfl
  · have hc := hw.chg
    have hk : y.chg = { x.chg with headroom := y.chg.headroom, packs := y.chg.packs } := (Chg.core_eq_iff _ _).mp hyc
    have hxc : x.chg = d.chg := by rw [← hx]; rfl
    have hr : (raise (.packChange k .commLost) (batteryWatch y)).chg = (batteryWatch y).chg := rfl
    rw [hr]
    generalize (batteryWatch y).chg = z at hc
    generalize y.chg = v at hc hk
    rw [hc, hk, hxc]
  · rw [hend.stage]
    exact gone_not_charging _ _
  · exact ((batteryWatch_acts y).of_before (hxa.trans hya)).after (raise_apart (by simp [Notice.cls]) (by simp [Notice.cls]) _)
      fun _ => ⟨rfl, rfl⟩

theorem failed_of_loses {k : Pack} {d : Dev} (ha : (d.mon k).aborts = true) (hl : (d.mon k).record.Loses) :
    { (d.discarded k).aborted with record := (d.discarded k).aborted.record.lost } = d.failed k := by
  unfold Dev.failed
  rw [if_pos ha, aborted_of_loses hl]
  have h3 : min 3 ((d.mon k).record.failures + 1) = 3 := by
    have := hl.1
    omega
  simp only [PackMonitor.aborted, discarded_record, PackRecord.lost, h3]

/-- A read that loses contact for its pack. -/
theorem packCompleted_fault_loses {k : Pack} {d : Dev} (h : (d.seg (segOf k)).state = .fault)
    (ha : (d.mon k).aborts = true) (hl : (d.mon k).record.Loses) :
    packCompleted k .segFault d = enterCommLost k (d.setMon k (d.discarded k).aborted) := by
  rw [packCompleted_fault h, if_pos ha, abortCycle_loses (by rwa [mon_setMon, discarded_record]), mon_setMon,
    setMon_setMon]

theorem packCompleted_fault_awake {k : Pack} {d : Dev} (h : (d.seg (segOf k)).state = .fault)
    (ha : (d.mon k).aborts = true) (hl : (d.mon k).record.Loses) (hp : d.ppu.power ≠ .sleep) :
    d.Loses (packCompleted k .segFault d) k (d.failed k) := by
  rw [packCompleted_fault_loses h ha hl]
  obtain ⟨h1, h2, h3, h4, h5⟩ := enterCommLost_awake (d := d.setMon k (d.discarded k).aborted) k hp
  rw [mon_setMon, failed_of_loses ha hl] at h1
  refine ⟨?_, h2, h3, h4, h5.of_before ⟨rfl, rfl, rfl, rfl, rfl, ⟨rfl, rfl⟩, .of_same rfl rfl⟩⟩
  generalize enterCommLost k (d.setMon k (d.discarded k).aborted) = e at h1 ⊢
  rw [h1, setMon_eq]
  simp

/-! ### The input reader and the charger -/

theorem inputCompleted_fails {c : Completion} (hc : ∀ data, c ≠ .ok data) (d : Dev) :
    inputCompleted c d = if d.chg.reader = .idle then d else inputFailed d := by
  cases c with
  | ok data => exact absurd rfl (hc data)
  | addrNack | dataNack | timeout | segReset | segFault => cases hr : d.chg.reader <;> simp [inputCompleted, hr]

/-- On a segment in FAULT a write that completes ends its pass, with FAULT for a READY pack (R79). -/
theorem chargerCompleted_fault {k : Pack} {d : Dev} (h : (d.seg (segOf k)).state = .fault) :
    chargerCompleted k .segFault d = settlePass k (startPass k (setWriter k .idle false d)) := by
  have hdead : startPass k (setWriter k .idle false d) = (setAgain k false (setWriter k .idle false d), d.faultsPack k) := by
    have hs : ((setWriter k .idle false d).seg (segOf k)).state = .fault := h
    rw [startPass, if_pos (by simp [setWriter]), issueWrite_fault _ _ hs, passDead]
    simp [setWriter, setAgain, Dev.faultsPack, Dev.mon]
  have hissue (volt retry : Bool) : issueWrite k volt retry d = (setAgain k false (setWriter k .idle false d), d.faultsPack k) :=
    issueWrite_fault volt retry h
  have hend (hf : d.faultsPack k = false) : endPass k d = (setAgain k false (setWriter k .idle false d), d.faultsPack k) := by
    have hs : ((setWriter k .idle false d).seg (segOf k)).state = .fault := h
    unfold endPass
    dsimp only
    split
    · rw [issueWrite_fault (d := setAgain k false (setWriter k .idle false d)) _ _ hs, passDead]
      simp [setWriter, setAgain, Dev.faultsPack, Dev.mon]
    · rename_i ha
      have ha : (d.chp k).again = false := by simpa [setWriter] using ha
      rw [hf]
      simp [setAgain, setWriter, ← ha]
  rw [hdead]
  unfold chargerCompleted
  dsimp only
  split
  · rw [hissue]
  · split
    · rename_i hf
      rw [hf]
    · rename_i hf
      rw [hend (by simpa using hf)]

end Sys2Proof.Machine

namespace Sys2Proof.Machine

/-! ## What a failed completion moves (R55 to R57, R64, R79, R92, R148, R156) -/

theorem refusal_cases {st : SegState} {c : Completion} (h : st.refusal = some c) :
    (st = .held ∧ c = .segReset) ∨ (st = .fault ∧ c = .segFault) := by
  cases st <;> simp_all [SegState.refusal]

theorem ne_ok_of_refusal {st : SegState} {c : Completion} (h : st.refusal = some c) : ∀ data, c ≠ .ok data := by
  rcases refusal_cases h with ⟨-, rfl⟩ | ⟨-, rfl⟩ <;> simp

/-- A completion told has moved the packs' monitors, the CHG, the TFU, the segments and what they hand on. -/
structure Dev.Works (d e : Dev) : Prop where
  same : e = { d with pkm := e.pkm, chg := e.chg, tfu := e.tfu, segs := e.segs, pli := e.pli, nsu := e.nsu }
  raised : ∀ c, d.Raised c → e.Raised c
  refusal : ∀ g, (e.seg g).state.refusal = (d.seg g).state.refusal

theorem Dev.Works.trans {d e f : Dev} (h : d.Works e) (k : e.Works f) : d.Works f :=
  ⟨by rw [k.same, h.same], fun c x => k.raised c (h.raised c x), fun g => (k.refusal g).trans (h.refusal g)⟩

theorem Dev.Works.ppu {d e : Dev} (h : d.Works e) : e.ppu = d.ppu := by rw [h.same]

theorem Dev.Works.tst {d e : Dev} (h : d.Works e) : e.tst = d.tst := by rw [h.same]

theorem Dev.Works.wku {d e : Dev} (h : d.Works e) : e.wku = d.wku := by rw [h.same]

/-! ### Each requester's part -/

theorem chargerCompleted_core {k : Pack} {c : Completion} {d : Dev} (hr : (d.seg (segOf k)).state.refusal = some c) :
    (chargerCompleted k c d).chg.core = d.chg.core := by
  rcases refusal_cases hr with ⟨-, rfl⟩ | ⟨hs, rfl⟩
  · rfl
  · rw [chargerCompleted_fault hs]
    unfold settlePass
    split
    · rw [startPasses_core, faultPack_core, startPass_core]
      rfl
    · rw [startPass_core]
      rfl

theorem evalZone_core (d : Dev) : (evalZone d).chg.core = d.chg.core := by
  unfold evalZone
  dsimp only
  split
  · rfl
  · show (startPasses 8 _ _).chg.core = _
    rw [startPasses_core]
    split <;> rfl

theorem evalZone_same (d : Dev) : evalZone d = { d with
    chg := (evalZone d).chg, tfu := (evalZone d).tfu, segs := (evalZone d).segs, pli := (evalZone d).pli
    nsu := (evalZone d).nsu } := Dev.eq_of_blocks (by simp)

/-- A skin read that fails outside SLEEP, or without S becoming FAIL_SAFE, leaves the power state. -/
theorem skinFailed_same {d : Dev} (h : d.ppu.power ≠ .sleep ∨ d.tfu.skinFailures ≠ 2) : skinFailed d = { d with
    chg := (skinFailed d).chg, tfu := (skinFailed d).tfu, segs := (skinFailed d).segs, pli := (skinFailed d).pli
    nsu := (skinFailed d).nsu } ∧ (skinFailed d).chg.core = d.chg.core ∧ d.Tells (skinFailed d) := by
  by_cases h2 : d.tfu.skinFailures = 2
  · have hp : d.ppu.power ≠ .sleep := h.resolve_right fun hn => hn h2
    have htells := (tells_handsOn d).skinFailed (fun hs => absurd hs hp) (.refl d)
    rw [skinFailed_eq, if_pos h2] at htells ⊢
    have hz := evalZone_same d.skinLost
    have hzc := evalZone_core d.skinLost
    generalize evalZone d.skinLost = y at hz hzc htells ⊢
    have hc := criticalWatch_awake (d := y) (by rw [hz]; exact hp)
    generalize criticalWatch y = w at hc htells ⊢
    exact ⟨by rw [hc, hz]; rfl, by rw [hc]; exact hzc, htells⟩
  · rw [skinFailed_eq, if_neg h2]
    exact ⟨rfl, rfl, .of_same rfl rfl⟩

/-- What a pack's monitor is left as by a completion that refuses its read (R55, R57). -/
def Dev.told (d : Dev) (k : Pack) (c : Completion) : PackMonitor :=
  match c with
  | .segReset => d.paused k
  | _ => d.failed k

/-- A refused read moves the pack's monitor alone, or loses contact (R55 to R57). -/
theorem packCompleted_cases {k : Pack} {c : Completion} {d : Dev} (hr : (d.seg (segOf k)).state.refusal = some c)
    (h : d.ppu.power ≠ .sleep ∨ ((d.mon k).aborts = true → ¬ (d.mon k).record.Loses)) :
    packCompleted k c d = d.setMon k (d.told k c) ∨
    (c = .segFault ∧ (d.mon k).aborts = true ∧ (d.mon k).record.Loses ∧ d.Loses (packCompleted k c d) k (d.told k c)) := by
  rcases refusal_cases hr with ⟨hs, rfl⟩ | ⟨hs, rfl⟩
  · exact .inl (packCompleted_held hs)
  · by_cases hl : (d.mon k).aborts = true ∧ (d.mon k).record.Loses
    · have hp : d.ppu.power ≠ .sleep := h.resolve_right fun hn => hn hl.1 hl.2
      exact .inr ⟨rfl, hl.1, hl.2, packCompleted_fault_awake hs hl.1 hl.2 hp⟩
    · exact .inl (packCompleted_fault_keeps hs fun ha hx => hl ⟨ha, hx⟩)

/-! ### The frame of a completion -/

/-- A completion of this record leaves the power state: no pack is lost and no skin in SLEEP (R82, R98). -/
def Dev.Calm (d : Dev) (g : Seg) (t : Txn) : Prop :=
  d.ppu.power ≠ .sleep ∨
    ((t.requester = .pkm → (d.mon (packOf g)).aborts = true → ¬ (d.mon (packOf g)).record.Loses) ∧
      (t.requester = .skin → d.tfu.skinFailures ≠ 2))

section
variable {g : Seg} {t : Txn} {c : Completion} {d : Dev} (hr : (d.seg g).state.refusal = some c) (hq : d.Calm g t)
include hr hq

theorem deliver_pkm_cases (ht : t.requester = .pkm) :
    deliver g t c d = d.setMon (packOf g) (d.told (packOf g) c) ∨
    (c = .segFault ∧ (d.mon (packOf g)).aborts = true ∧ (d.mon (packOf g)).record.Loses ∧
      d.Loses (deliver g t c d) (packOf g) (d.told (packOf g) c)) := by
  have he : deliver g t c d = packCompleted (packOf g) c d := by
    unfold deliver
    rw [ht]
  rw [he]
  exact packCompleted_cases (by rwa [segOf_packOf]) (hq.imp_right fun h => h.1 ht)

theorem deliver_skin_same (ht : t.requester = .skin) : deliver g t c d = skinFailed d ∧
    (d.ppu.power ≠ .sleep ∨ d.tfu.skinFailures ≠ 2) := by
  refine ⟨?_, hq.imp_right fun h => h.2 ht⟩
  unfold deliver
  rw [ht]
  exact skinCompleted_fails (ne_ok_of_refusal hr) d

theorem deliver_works : d.Works (deliver g t c d) := by
  have hsegs : ∀ k, ((deliver g t c d).seg k).state.refusal = (d.seg k).state.refusal := by
    intro k
    by_cases ht : t.requester = .hub
    · rw [deliver_hub ht]
      obtain ⟨hk, ho⟩ := hubCompleted_seg (g := g) (t := t) (c := c) (d := d)
      by_cases hk' : k = g
      · rw [hk', hk.state]
      · rw [ho k hk']
    · exact ((serves_handsOn d).deliver (serves_keepsLow d) (fun _ => serves_movesLink d) ht g (ne_ok_of_refusal hr)
        (.refl d)).refusal k
  refine ⟨?_, (deliver_orderly g t c (.refl d)).raised, hsegs⟩
  cases ht : t.requester with
  | charger =>
    unfold deliver
    rw [ht]
    exact Dev.eq_of_blocks (by simp)
  | input =>
    unfold deliver
    rw [ht]
    exact Dev.eq_of_blocks (by simp)
  | hub =>
    rw [deliver_hub ht]
    exact Dev.eq_of_blocks (by simp)
  | pkm =>
    rcases deliver_pkm_cases hr hq ht with he | ⟨-, -, -, hl⟩
    · rw [he]
      rfl
    · have hs := hl.same
      generalize deliver g t c d = e at hs
      rw [hs]
  | skin =>
    obtain ⟨he, hs⟩ := deliver_skin_same hr hq ht
    have hsame := (skinFailed_same hs).1
    rw [he]
    generalize skinFailed d = e at hsame
    rw [hsame]

/-- The packs' monitors are moved by the PKM's own reads. -/
theorem deliver_pkm_other (ht : t.requester ≠ .pkm) : (deliver g t c d).pkm = d.pkm := by
  cases hx : t.requester with
  | pkm => exact absurd hx ht
  | skin =>
    obtain ⟨he, hs⟩ := deliver_skin_same hr hq hx
    rw [he, (skinFailed_same hs).1]
  | charger | input | hub => simp [deliver, hx]

/-- The TFU is moved by its skin reads. -/
theorem deliver_tfu_other (ht : t.requester ≠ .skin) : (deliver g t c d).tfu = d.tfu := by
  cases hx : t.requester with
  | skin => exact absurd hx ht
  | pkm =>
    rcases deliver_pkm_cases hr hq hx with he | ⟨-, -, -, hl⟩
    · rw [he]
      rfl
    · rw [hl.same]
  | charger | input | hub => simp [deliver, hx]

/-- The CHG's reader is moved by its input reads. -/
theorem deliver_reader_other (ht : t.requester ≠ .input) : (deliver g t c d).chg.reader = d.chg.reader ∧
    (deliver g t c d).chg.inputFailures = d.chg.inputFailures := by
  have of_core (h : (deliver g t c d).chg.core = d.chg.core) : (deliver g t c d).chg.reader = d.chg.reader ∧
      (deliver g t c d).chg.inputFailures = d.chg.inputFailures := by
    rw [(Chg.core_eq_iff _ _).mp h]
    exact ⟨rfl, rfl⟩
  cases hx : t.requester with
  | input => exact absurd hx ht
  | charger =>
    refine of_core ?_
    unfold deliver
    rw [hx]
    exact chargerCompleted_core (by rwa [segOf_packOf])
  | skin =>
    obtain ⟨he, hs⟩ := deliver_skin_same hr hq hx
    exact of_core (by rw [he]; exact (skinFailed_same hs).2.1)
  | pkm =>
    rcases deliver_pkm_cases hr hq hx with he | ⟨-, -, -, hl⟩
    · rw [he]
      exact ⟨rfl, rfl⟩
    · rw [hl.chg]
      exact ⟨rfl, rfl⟩
  | hub => simp [deliver, hx]

omit hq in
/-- The CHG's own input read fails its sample (R64). -/
theorem deliver_input (ht : t.requester = .input) :
    deliver g t c d = if d.chg.reader = .idle then d else inputFailed d := by
  unfold deliver
  rw [ht]
  exact inputCompleted_fails (ne_ok_of_refusal hr) d

/-- A completion tells on, but for what a pack lost tells. -/
theorem deliver_tells (hl : t.requester = .pkm → deliver g t c d = d.setMon (packOf g) (d.told (packOf g) c)) :
    d.Tells (deliver g t c d) := by
  cases hx : t.requester with
  | pkm =>
    rw [hl hx]
    exact .of_same rfl rfl
  | skin =>
    obtain ⟨he, hs⟩ := deliver_skin_same hr hq hx
    rw [he]
    exact (skinFailed_same hs).2.2
  | charger =>
    unfold deliver
    rw [hx]
    exact (tells_handsOn d).chargerCompleted _ c (.refl d)
  | input =>
    unfold deliver
    rw [hx]
    exact (tells_handsOn d).inputCompleted c (.refl d)
  | hub =>
    rw [deliver_hub hx]
    exact hubCompleted_keeps (fun x e _ he => he.trans (setSeg_tells g x e))
      (fun i _ e he => he.trans (answerWith_tells i _ e)) (fun x _ e he => he.trans (answerWith_tells x.slot _ e)) (.refl d)

/-- A completion that loses no pack leaves what the battery watch reads and wrote. -/
theorem deliver_apart (hl : t.requester = .pkm → deliver g t c d = d.setMon (packOf g) (d.told (packOf g) c)) :
    d.Apart (deliver g t c d) := by
  have hw := deliver_works hr hq
  refine ⟨?_, hw.tst, hw.ppu, hw.wku, by rw [hw.same], by rw [hw.same]; exact ⟨rfl, rfl⟩, deliver_tells hr hq hl⟩
  have of_core (h : (deliver g t c d).chg.core = d.chg.core) : (deliver g t c d).chg = { d.chg with
      reader := (deliver g t c d).chg.reader, inputFailures := (deliver g t c d).chg.inputFailures
      headroom := (deliver g t c d).chg.headroom, packs := (deliver g t c d).chg.packs } := by
    have hc := (Chg.core_eq_iff _ _).mp h
    generalize (deliver g t c d).chg = x at hc
    rw [hc]
  cases hx : t.requester with
  | pkm =>
    rw [hl hx]
    rfl
  | skin =>
    obtain ⟨he, hs⟩ := deliver_skin_same hr hq hx
    exact of_core (by rw [he]; exact (skinFailed_same hs).2.1)
  | charger =>
    refine of_core ?_
    unfold deliver
    rw [hx]
    exact chargerCompleted_core (by rwa [segOf_packOf])
  | hub => exact of_core (by rw [deliver_hub hx]; simp)
  | input =>
    rw [deliver_input hr hx]
    split
    · rfl
    · have hc := (Chg.core_eq_iff _ _).mp (allocateAndWrite_core (d.setChg { d.chg with
        inputFailures := min 3 (d.chg.inputFailures + 1), reader := .idle }))
      unfold inputFailed
      generalize (allocateAndWrite (d.setChg _)).chg = x at hc ⊢
      rw [hc]
      rfl

/-- The V_in and I_sys of the CHG are moved by a sample that completes alone. -/
theorem deliver_keeps_sample : (deliver g t c d).chg.vIn = d.chg.vIn ∧ (deliver g t c d).chg.iSys = d.chg.iSys := by
  have of_apart (h : d.Apart (deliver g t c d)) : (deliver g t c d).chg.vIn = d.chg.vIn ∧
      (deliver g t c d).chg.iSys = d.chg.iSys := by
    rw [h.chg]
    exact ⟨rfl, rfl⟩
  by_cases ht : t.requester = .pkm
  · rcases deliver_pkm_cases hr hq ht with he | ⟨-, -, -, hl⟩
    · exact of_apart (deliver_apart hr hq fun _ => he)
    · rw [hl.chg]
      exact ⟨rfl, rfl⟩
  · exact of_apart (deliver_apart hr hq fun h => absurd h ht)

end
end Sys2Proof.Machine

namespace Sys2Proof.Machine

/-! ## The records of a segment that refuses arrivals, completed (R148, R156) -/

/-- The records of a segment in HELD or FAULT complete, these being still to go, and none of them moves the power
state: outside SLEEP, or with no pack and no skin to be lost (R82, R98). -/
structure Dev.Completing (e : Dev) (g : Seg) (c : Completion) (l : List Txn) : Prop where
  refuses : (e.seg g).state.refusal = some c
  calm : e.ppu.power ≠ .sleep ∨
    (((∀ t ∈ l, t.requester ≠ .pkm) ∨
        ((e.mon (packOf g)).record.Loses → (e.mon (packOf g)).orphan = false ∧ (e.mon (packOf g)).cycle = none)) ∧
      ((∀ t ∈ l, t.requester ≠ .skin) ∨
        ((l.filter fun t => t.requester == .skin).length = 1 ∧ e.tfu.skinFailures ≠ 2)))

section
variable {g : Seg} {c : Completion} {t : Txn} {l : List Txn} {d : Dev}

theorem Dev.Completing.calm_head (h : d.Completing g c (t :: l)) : d.Calm g t := by
  refine h.calm.imp_right fun ⟨hm, hs⟩ => ⟨fun hp ha hl => ?_, fun ht => ?_⟩
  · obtain ⟨ho, hc⟩ := hm.resolve_left (fun hn => hn t List.mem_cons_self hp) hl
    simp [PackMonitor.aborts, ho, hc] at ha
  · exact (hs.resolve_left fun hn => hn t List.mem_cons_self ht).2

/-- What a pack's monitor is told leaves its record, or leaves nothing under way. -/
theorem told_spec (d : Dev) (k : Pack) (c : Completion) :
    ((d.mon k).aborts = false → (d.told k c).record = (d.mon k).record) ∧
    ((d.mon k).aborts = true → (d.told k c).Rests) ∧
    ((d.mon k).orphan = false ∨ (d.mon k).cycle = none → (d.told k c).Rests) := by
  have hd : (d.discarded k).orphan = false ∧ (d.discarded k).outstanding = false := by
    unfold Dev.discarded
    split <;> exact ⟨rfl, rfl⟩
  refine ⟨fun ha => ?_, fun ha => ?_, fun hx => ?_⟩ <;> unfold Dev.told
  · split <;> simp [Dev.paused, Dev.failed, ha, discarded_record]
  · split <;> simp [Dev.paused, Dev.failed, ha, PackMonitor.Rests, PackMonitor.endCycle, hd]
  · split
    · exact (failed_rests hx).2
    · exact (failed_rests hx).1

theorem told_congr {d e : Dev} {k : Pack} (hm : e.mon k = d.mon k) (ht : e.tst = d.tst) (c : Completion) :
    e.told k c = d.told k c := by
  unfold Dev.told Dev.paused Dev.failed Dev.discarded
  rw [hm, ht]

/-- A read of a pack leaves its monitor as it is told, whether or not contact is lost. -/
theorem deliver_mon (hr : (d.seg g).state.refusal = some c) (hq : d.Calm g t) (ht : t.requester = .pkm) :
    (deliver g t c d).pkm = d.pkm.set (packOf g).ix (d.told (packOf g) c) := by
  rcases deliver_pkm_cases hr hq ht with he | ⟨-, -, -, hl⟩
  · rw [he]
    rfl
  · rw [hl.same]

theorem Dev.Completing.step (h : d.Completing g c (t :: l)) : (deliver g t c d).Completing g c l := by
  have hq := h.calm_head
  have hw := deliver_works h.refuses hq
  refine ⟨(hw.refusal g).trans h.refuses, ?_⟩
  rw [hw.ppu]
  refine h.calm.imp_right fun ⟨hm, hs⟩ => ⟨hm.imp (fun hn u hu => hn u (List.mem_cons_of_mem t hu)) fun hm hl => ?_, ?_⟩
  · by_cases ht : t.requester = .pkm
    · have hmon : (deliver g t c d).mon (packOf g) = d.told (packOf g) c := by
        rw [Dev.mon, deliver_mon h.refuses hq ht, Pair.get_set_self]
      obtain ⟨hsame, hrest, hrest'⟩ := told_spec d (packOf g) c
      rw [hmon] at hl ⊢
      cases ha : (d.mon (packOf g)).aborts with
      | true => exact ⟨(hrest ha).1, (hrest ha).2.1⟩
      | false =>
        rw [hsame ha] at hl
        have := hrest' (.inl (hm hl).1)
        exact ⟨this.1, this.2.1⟩
    · have hmon : (deliver g t c d).mon (packOf g) = d.mon (packOf g) := by
        rw [Dev.mon, deliver_pkm_other h.refuses hq ht]
        rfl
      rw [hmon] at hl ⊢
      exact hm hl
  · by_cases ht : t.requester = .skin
    · obtain ⟨h1, -⟩ := hs.resolve_left fun hn => hn t List.mem_cons_self ht
      refine .inl fun u hu hx => ?_
      rw [List.filter_cons_of_pos (by simp [ht]), List.length_cons, Nat.add_eq_right, List.length_eq_zero_iff,
        List.filter_eq_nil_iff] at h1
      exact h1 u hu (by simp [hx])
    · refine hs.imp (fun hn u hu => hn u (List.mem_cons_of_mem t hu)) fun ⟨h1, h2⟩ => ⟨?_, ?_⟩
      · rwa [List.filter_cons_of_neg (by simp [ht])] at h1
      · rwa [deliver_tfu_other h.refuses hq ht]

/-- What every completion keeps. -/
theorem Dev.Completing.keeps {P : Dev → Prop} {q : List Txn}
    (step : ∀ t d, t ∈ q → (d.seg g).state.refusal = some c → d.Calm g t → P d → P (deliver g t c d))
    (h : d.Completing g c q) (hd : P d) : P (deliverAll g c q d) := by
  induction q generalizing d with
  | nil => exact hd
  | cons t q ih =>
    exact ih (fun u e hu => step u e (List.mem_cons_of_mem t hu)) h.step
      (step t d List.mem_cons_self h.refuses h.calm_head hd)

/-- What the completions of one requester turn from `B` into `A`, and the others leave. -/
theorem Dev.Completing.turns {who : Requester} {B A : Dev → Prop} {q : List Txn}
    (other : ∀ t d, t ∈ q → (d.seg g).state.refusal = some c → d.Calm g t → t.requester ≠ who →
      (B d → B (deliver g t c d)) ∧ (A d → A (deliver g t c d)))
    (own : ∀ t d, (d.seg g).state.refusal = some c → d.Calm g t → t.requester = who → B d ∨ A d → A (deliver g t c d))
    (h : d.Completing g c q) (hd : B d) (hq : ∃ t ∈ q, t.requester = who) : A (deliverAll g c q d) := by
  induction q generalizing d with
  | nil => simp at hq
  | cons t q ih =>
    have other' (u : Txn) (e : Dev) (hu : u ∈ q) := other u e (List.mem_cons_of_mem t hu)
    by_cases ht : t.requester = who
    · rw [deliverAll_cons]
      refine h.step.keeps (fun u e hu hr hc ha => ?_) (own t d h.refuses h.calm_head ht (.inl hd))
      by_cases hx : u.requester = who
      · exact own u e hr hc hx (.inr ha)
      · exact (other' u e hu hr hc hx).2 ha
    · refine ih other' h.step ((other t d List.mem_cons_self h.refuses h.calm_head ht).1 hd) ?_
      obtain ⟨u, hu, hx⟩ := hq
      rcases List.mem_cons.mp hu with rfl | hu
      · exact absurd hx ht
      · exact ⟨u, hu, hx⟩

/-- The one completion of a requester turns `B` into `A`, and the others leave both. -/
theorem Dev.Completing.turnsOnce {who : Requester} {B A : Dev → Prop} {q : List Txn}
    (other : ∀ t d, (d.seg g).state.refusal = some c → d.Calm g t → t.requester ≠ who →
      (B d → B (deliver g t c d)) ∧ (A d → A (deliver g t c d)))
    (own : ∀ t d, (d.seg g).state.refusal = some c → d.Calm g t → t.requester = who → B d → A (deliver g t c d))
    (h : d.Completing g c q) (hd : B d) (hq : (q.filter fun t => t.requester == who).length = 1) :
    A (deliverAll g c q d) := by
  induction q generalizing d with
  | nil => simp at hq
  | cons t q ih =>
    by_cases ht : t.requester = who
    · rw [List.filter_cons_of_pos (by simp [ht]), List.length_cons, Nat.add_eq_right, List.length_eq_zero_iff,
        List.filter_eq_nil_iff] at hq
      rw [deliverAll_cons]
      refine h.step.keeps (fun u e hu hr hc ha => (other u e hr hc fun hx => hq u hu (by simp [hx])).2 ha) ?_
      exact own t d h.refuses h.calm_head ht hd
    · rw [List.filter_cons_of_neg (by simp [ht])] at hq
      exact ih h.step ((other t d h.refuses h.calm_head ht).1 hd) hq

/-! ### The PKM's part -/

variable {q : List Txn}

theorem Dev.Completing.pkm_other (h : d.Completing g c q) (hq : ∀ t ∈ q, t.requester ≠ .pkm) :
    (deliverAll g c q d).pkm = d.pkm :=
  h.keeps (P := fun e => e.pkm = d.pkm) (fun t _ ht hr hc he => (deliver_pkm_other hr hc (hq t ht)).trans he) rfl

theorem Dev.Completing.works (h : d.Completing g c q) : d.Works (deliverAll g c q d) :=
  h.keeps (fun _ _ _ hr hc he => he.trans (deliver_works hr hc)) ⟨rfl, fun _ h => h, fun _ => rfl⟩

/-- The reads of a pack, one or more, leave its monitor as the first is told (R55 to R57). -/
theorem Dev.Completing.pkm_told (h : d.Completing g c q) (hq : ∃ t ∈ q, t.requester = .pkm)
    (hm : (d.mon (packOf g)).orphan = false ∨ (d.mon (packOf g)).cycle = none) :
    (deliverAll g c q d).pkm = d.pkm.set (packOf g).ix (d.told (packOf g) c) := by
  have hrest := (told_spec d (packOf g) c).2.2 hm
  refine h.turns (B := fun e => e.pkm = d.pkm ∧ e.tst = d.tst)
    (A := fun e => e.pkm = d.pkm.set (packOf g).ix (d.told (packOf g) c))
    (fun t e _ hr hc ht => ⟨fun he => ?_, fun he => (deliver_pkm_other hr hc ht).trans he⟩)
    (fun t e hr hc ht he => ?_) ⟨rfl, rfl⟩ hq
  · exact ⟨(deliver_pkm_other hr hc ht).trans he.1, (deliver_works hr hc).tst.trans he.2⟩
  · rw [deliver_mon hr hc ht]
    rcases he with ⟨hp, htst⟩ | hp
    · rw [hp, told_congr (by rw [Dev.mon, hp]; rfl) htst]
    · have hmon : e.mon (packOf g) = d.told (packOf g) c := by rw [Dev.mon, hp, Pair.get_set_self]
      have hsame : e.told (packOf g) c = e.mon (packOf g) := by
        have hx : (e.mon (packOf g)).Rests := hmon ▸ hrest
        unfold Dev.told Dev.paused Dev.failed
        split <;> simp [hx.not_aborts, hx.discarded]
      rw [hsame, hmon, hp, Pair.set_set]

/-! ### The CHG's reader (R64) -/

theorem inputFailed_reader (d : Dev) : (inputFailed d).chg.reader = .idle ∧
    (inputFailed d).chg.inputFailures = min 3 (d.chg.inputFailures + 1) := by
  have hc := (Chg.core_eq_iff _ _).mp (allocateAndWrite_core (d.setChg { d.chg with
    inputFailures := min 3 (d.chg.inputFailures + 1), reader := .idle }))
  unfold inputFailed
  generalize (allocateAndWrite (d.setChg _)).chg = x at hc ⊢
  rw [hc]
  exact ⟨rfl, rfl⟩

/-- The input reads of a segment fail the sample under way once (R64). -/
theorem Dev.Completing.input (h : d.Completing g c q) :
    ((∃ t ∈ q, t.requester = .input) → d.chg.reader ≠ .idle → (deliverAll g c q d).chg.reader = .idle ∧
      (deliverAll g c q d).chg.inputFailures = min 3 (d.chg.inputFailures + 1)) ∧
    ((∀ t ∈ q, t.requester ≠ .input) ∨ d.chg.reader = .idle → (deliverAll g c q d).chg.reader = d.chg.reader ∧
      (deliverAll g c q d).chg.inputFailures = d.chg.inputFailures) ∧
    (deliverAll g c q d).chg.vIn = d.chg.vIn ∧ (deliverAll g c q d).chg.iSys = d.chg.iSys := by
  have other {P : InputReader → Nat → Prop} {t : Txn} {e : Dev} (hr : (e.seg g).state.refusal = some c)
      (hc : e.Calm g t) (ht : t.requester ≠ .input) (he : P e.chg.reader e.chg.inputFailures) :
      P (deliver g t c e).chg.reader (deliver g t c e).chg.inputFailures := by
    obtain ⟨h1, h2⟩ := deliver_reader_other hr hc ht
    rwa [h1, h2]
  refine ⟨fun hq hn => ?_, fun hq => ?_, ?_⟩
  · refine h.turns (B := fun e => e.chg.reader ≠ .idle ∧ e.chg.inputFailures = d.chg.inputFailures)
      (A := fun e => e.chg.reader = .idle ∧ e.chg.inputFailures = min 3 (d.chg.inputFailures + 1))
      (fun t e _ hr hc ht => ⟨other (P := fun r n => r ≠ .idle ∧ n = _) hr hc ht,
        other (P := fun r n => r = .idle ∧ n = _) hr hc ht⟩) (fun t e hr hc ht he => ?_) ⟨hn, rfl⟩ hq
    rw [deliver_input hr ht]
    rcases he with ⟨h1, h2⟩ | ⟨h1, h2⟩
    · rw [if_neg h1, ← h2]
      exact inputFailed_reader e
    · rw [if_pos h1]
      exact ⟨h1, h2⟩
  · refine h.keeps (P := fun e => e.chg.reader = d.chg.reader ∧ e.chg.inputFailures = d.chg.inputFailures)
      (fun t e hm hr hc he => ?_) ⟨rfl, rfl⟩
    by_cases ht : t.requester = .input
    · have hi : d.chg.reader = .idle := hq.resolve_left fun hx => hx t hm ht
      rw [deliver_input hr ht, if_pos (he.1.trans hi)]
      exact he
    · exact other (P := fun r n => r = _ ∧ n = _) hr hc ht he
  · refine h.keeps (P := fun e => e.chg.vIn = d.chg.vIn ∧ e.chg.iSys = d.chg.iSys) (fun t e _ hr hc he => ?_) ⟨rfl, rfl⟩
    obtain ⟨h1, h2⟩ := deliver_keeps_sample hr hc
    exact ⟨h1.trans he.1, h2.trans he.2⟩

end
end Sys2Proof.Machine

namespace Sys2Proof.Machine

/-! ## What an allocation, a pass and a stage change make of one pack (R65, R76, R78, R79) -/

theorem allocate_chp (d : Dev) (k : Pack) : (allocate d).chp k = { d.chp k with
    current := ((allocate d).chp k).current, voltage := ((allocate d).chp k).voltage } := by
  cases k <;> rfl

theorem startPass_chp_other {j k : Pack} (h : j ≠ k) (d : Dev) : (startPass j d).1.chp k = d.chp k := by
  have hs (t : Txn) (x : ChargePack) : ((submit (segOf j) t d).1.setChp j x).chp k = d.chp k := by
    rw [chp_setChp_if, if_neg h, submit_chp]
  unfold startPass issueWrite passDead setWriter setAgain
  dsimp only
  split
  · split
    · exact hs _ _
    · exact hs _ _
    · simp only [chp_setChp, setChp_setChp]
      exact hs _ _
  · rw [chp_setChp_if, if_neg h]

theorem stageChange_chp_other {j k : Pack} (h : j ≠ k) (new : Stage) (d : Dev) : (stageChange j new d).chp k =
    { d.chp k with current := ((stageChange j new d).chp k).current, voltage := ((stageChange j new d).chp k).voltage } := by
  have hc : (raise (.chargeStage j (d.chp j).stage new) (d.setChp j ((d.chp j).enter new))).chp k = d.chp k := by
    rw [raise_chp, chp_setChp_if, if_neg h]
  have ha := allocate_chp (raise (.chargeStage j (d.chp j).stage new) (d.setChp j ((d.chp j).enter new))) k
  rw [hc] at ha
  exact ha

theorem stageChange_raised (k : Pack) (new : Stage) (d : Dev) : (stageChange k new d).Raised 7 ∧
    ∀ c, d.Raised c → (stageChange k new d).Raised c :=
  ⟨raise_raised (.chargeStage k _ new) _ (Notice.cls_lt _), fun c h => raise_keeps_raised _ _ c h⟩

theorem startPass_raised (k : Pack) (d : Dev) (c : Nat) : (startPass k d).1.Raised c ↔ d.Raised c := by
  unfold Dev.Raised
  rw [(startPass_frame k d).2.2.2.2.2.2.2.2.2.2.1]

theorem startPass_refusal (k : Pack) (d : Dev) (g : Seg) :
    ((startPass k d).1.seg g).state.refusal = (d.seg g).state.refusal :=
  ((serves_handsOn d).startPass k (.refl d)).refusal g

/-! ## What a completion keeps of the CHG's packs -/

/-- A property of the CHG's packs that the segments, the records and the notices enter as refusals, pack states and
classes raised, and that allocations and write passes keep. -/
structure ChargeRule (Q : Dev → Prop) : Prop extends ChargeKeeps Q where
  same : ∀ d e : Dev, e.chg.packs = d.chg.packs → e.tfu.zone = d.tfu.zone →
    (∀ g, (e.seg g).state.refusal = (d.seg g).state.refusal) →
    (∀ k, (e.mon k).record.state = (d.mon k).record.state) → (∀ c, d.Raised c → e.Raised c) → Q d → Q e

/-- The same of the skin zone: it may be any, and zone 3 entered may take the commanded values away (R77). -/
structure ZoneRule (Q : Dev → Prop) : Prop where
  zone : ∀ z d, Q d → Q (d.setTfu { d.tfu with zone := z })
  dark : ∀ d, Q d → Q (zeroCommands d)

/-- The same of the packs' records: any may be, and a pack lost may take its commanded values away (R69). -/
structure LossRule (Q : Dev → Prop) : Prop where
  record : ∀ k m d, Q d → Q (d.setMon k m)
  gone : ∀ k d, Q d → Q (goneStage k false d)

section
variable {Q : Dev → Prop} {d : Dev} {g : Seg} {t : Txn} {c : Completion}

theorem ChargeRule.raise (h : ChargeRule Q) (n : Notice) (hd : Q d) : Q (raise n d) :=
  h.same d _ rfl rfl (fun _ => rfl) (fun _ => rfl) (fun c hc => raise_keeps_raised n d c hc) hd

theorem ChargeRule.inputFailed (h : ChargeRule Q) (hd : Q d) : Q (inputFailed d) :=
  h.toChargeKeeps.allocateAndWrite (h.same d _ rfl rfl (fun _ => rfl) (fun _ => rfl) (fun _ x => x) hd)

theorem ChargeRule.evalZone (h : ChargeRule Q) (hz : ZoneRule Q) (hd : Q d) : Q (evalZone d) := by
  unfold Machine.evalZone zoneChange
  dsimp only
  split
  · exact hd
  · refine h.raise _ (h.toChargeKeeps.startPasses 8 _ (h.allocate _ ?_))
    split
    · exact hz.dark _ (hz.zone _ d hd)
    · exact hz.zone _ d hd

theorem ChargeRule.skinFailed (h : ChargeRule Q) (hz : ZoneRule Q) (hp : d.ppu.power ≠ .sleep ∨ d.tfu.skinFailures ≠ 2)
    (hd : Q d) : Q (skinFailed d) := by
  rw [skinFailed_eq]
  split
  · have hl : Q d.skinLost := h.raise _ (h.same d _ rfl rfl (fun _ => rfl) (fun _ => rfl) (fun _ x => x) hd)
    have he := h.evalZone hz hl
    have hp : d.ppu.power ≠ .sleep := hp.resolve_right fun hn => hn ‹_›
    have hw := criticalWatch_awake (d := Machine.evalZone d.skinLost) (by
      rw [evalZone_same]
      exact hp)
    refine h.same _ _ ?_ ?_ ?_ ?_ (criticalWatch_orderly (.refl _)).raised he
    · rw [hw]
    · rw [hw]
    · exact fun k => by rw [hw]; rfl
    · exact fun k => by rw [hw]; rfl
  · exact h.same d _ rfl rfl (fun _ => rfl) (fun _ => rfl) (fun _ x => x) hd

theorem ChargeRule.enterCommLost (h : ChargeRule Q) (hl : LossRule Q) (k : Pack) (hp : d.ppu.power ≠ .sleep)
    (hd : Q d) : Q (enterCommLost k d) := by
  rw [enterCommLost_eq]
  generalize hx : d.setMon k { d.mon k with record := (d.mon k).record.lost } = x
  have hx' : Q x := hx ▸ hl.record k _ d hd
  have hg : Q (packGone k false x) := h.toChargeKeeps.startPasses 8 _ (hl.gone k x hx')
  have hgp : (packGone k false x).ppu.power ≠ .sleep := by
    rw [(packGone_apart k false x).ppu, ← hx]
    exact hp
  have hw := batteryWatch_only (d := packGone k false x) fun hs => absurd hs hgp
  refine h.raise _ (h.same _ _ ?_ ?_ ?_ ?_ (batteryWatch_orderly (.refl _)).raised hg)
  · rw [hw.chg]
  · rw [hw.same]
  · exact fun j => by rw [hw.same]; rfl
  · exact fun j => by rw [hw.same]; rfl

/-- A charger's write that completes keeps what the writer's end and the passes keep (R79). -/
theorem ChargeRule.chargerCompleted (h : ChargeRule Q) {k : Pack} (hr : (d.seg (segOf k)).state.refusal = some c)
    (hd : Q (setWriter k .idle false d)) : Q (chargerCompleted k c d) := by
  rcases refusal_cases hr with ⟨-, rfl⟩ | ⟨hs, rfl⟩
  · exact hd
  · rw [chargerCompleted_fault hs]
    have hp := h.pass k _ hd
    unfold settlePass
    split
    · rename_i hf
      exact h.toChargeKeeps.startPasses 8 _ (h.fault k _ (startPass_faults hf) hp)
    · exact hp

/-- What a completion keeps of the CHG's packs, each requester's own part being given. -/
theorem ChargeRule.deliver (h : ChargeRule Q) (hr : (d.seg g).state.refusal = some c) (hq : d.Calm g t)
    (skin : t.requester = .skin → ZoneRule Q) (pkm : t.requester = .pkm → LossRule Q)
    (charger : t.requester = .charger → Q (setWriter (packOf g) .idle false d)) (hd : Q d) : Q (deliver g t c d) := by
  cases ht : t.requester with
  | charger =>
    unfold Machine.deliver
    rw [ht]
    exact h.chargerCompleted (by rwa [segOf_packOf]) (charger ht)
  | input =>
    rw [deliver_input hr ht]
    split
    · exact hd
    · exact h.inputFailed hd
  | skin =>
    obtain ⟨he, hs⟩ := deliver_skin_same hr hq ht
    rw [he]
    exact h.skinFailed (skin ht) hs hd
  | hub =>
    have hs := deliver_works hr hq
    rw [deliver_hub ht] at hs ⊢
    exact h.same d _ (by simp) (by simp) hs.refusal (fun k => by simp [Dev.mon]) hs.raised hd
  | pkm =>
    have he : Machine.deliver g t c d = packCompleted (packOf g) c d := by
      unfold Machine.deliver
      rw [ht]
    rw [he]
    rcases packCompleted_cases (k := packOf g) (by rwa [segOf_packOf]) (hq.imp_right fun x => x.1 ht) with
      hm | ⟨rfl, ha, hl, hx⟩
    · rw [hm]
      exact (pkm ht).record _ _ d hd
    · have hs : (d.seg (segOf (packOf g))).state = .fault := by
        rw [segOf_packOf]
        exact refusal_eq_fault.mp hr
      rw [packCompleted_fault_loses hs ha hl]
      refine h.enterCommLost (pkm ht) _ (hq.resolve_right fun hn => hn.1 ht ha hl) ((pkm ht).record _ _ d hd)

end

end Sys2Proof.Machine

namespace Sys2Proof.Machine

/-! ## The writer of a pack on a segment in FAULT (R79) -/

/-- The segment of a pack is in FAULT and the pack's writer is done. -/
structure Dev.WriterDone (d : Dev) (k : Pack) : Prop where
  fault : (d.seg (segOf k)).state.refusal = some .segFault
  writer : (d.chp k).writer = .idle ∧ (d.chp k).retryUsed = false ∧ (d.chp k).again = false

theorem Dev.WriterDone.same {d e : Dev} {k : Pack} (h : d.WriterDone k)
    (hs : (e.seg (segOf k)).state.refusal = (d.seg (segOf k)).state.refusal)
    (hc : (e.chp k).writer = (d.chp k).writer ∧ (e.chp k).retryUsed = (d.chp k).retryUsed ∧
      (e.chp k).again = (d.chp k).again) : e.WriterDone k :=
  ⟨hs.trans h.fault, hc.1.trans h.writer.1, hc.2.1.trans h.writer.2.1, hc.2.2.trans h.writer.2.2⟩

theorem startPass_writerDone {k : Pack} {d : Dev} (hs : (d.seg (segOf k)).state.refusal = some .segFault)
    (hw : (d.chp k).writer = .idle) : (startPass k d).1.WriterDone k := by
  refine ⟨(startPass_refusal k d _).trans hs, ?_⟩
  rw [startPass, if_pos hw, issueWrite_fault _ _ (refusal_eq_fault.mp hs), passDead]
  simp [setAgain, setWriter]

theorem writerDone_rule (k : Pack) : ChargeRule fun d => d.WriterDone k where
  allocate d h := h.same rfl (by rw [allocate_chp]; exact ⟨rfl, rfl, rfl⟩)
  pass j d h := by
    by_cases hj : j = k
    · subst hj
      exact startPass_writerDone h.fault h.writer.1
    · exact h.same (startPass_refusal j d _) (by rw [startPass_chp_other hj]; exact ⟨rfl, rfl, rfl⟩)
  fault j d _ h := by
    by_cases hj : j = k
    · subst hj
      refine h.same rfl ?_
      rw [(stageChange_unfed (k := j) (new := .fault) d rfl).2]
      exact ⟨rfl, rfl, rfl⟩
    · exact h.same rfl (by rw [stageChange_chp_other hj]; exact ⟨rfl, rfl, rfl⟩)
  same d e hp _ hs _ _ h := h.same (hs _) (by simp [Dev.chp, hp])

theorem zeroCommands_chp (d : Dev) (k : Pack) : (zeroCommands d).chp k = (d.chp k).command 0 0 := by
  cases k <;> rfl

theorem writerDone_zone (k : Pack) : ZoneRule fun d => d.WriterDone k where
  zone _ _ h := h.same rfl ⟨rfl, rfl, rfl⟩
  dark d h := h.same rfl (by rw [zeroCommands_chp]; exact ⟨rfl, rfl, rfl⟩)

/-- A loss of contact keeps of a pack what its command, a stage that draws no current and an allocation keep. -/
theorem goneStage_keeps {Q : Dev → Prop} (command : ∀ k d, Q d → Q (d.setChp k ((d.chp k).command 0 0)))
    (stage : ∀ k new d, new.charging = false → Q d → Q (stageChange k new d)) (k : Pack) {d : Dev} (h : Q d) :
    Q (goneStage k false d) := by
  unfold goneStage
  split
  · exact command k d h
  · exact stage k _ d (gone_not_charging _ _) h

theorem writerDone_loss (k : Pack) : LossRule fun d => d.WriterDone k where
  record _ _ _ h := h.same rfl ⟨rfl, rfl, rfl⟩
  gone j d h := by
    refine goneStage_keeps (Q := fun d => d.WriterDone k) (fun j d h => h.same rfl ?_) (fun j new d hn h => h.same rfl ?_) j h
    · rw [chp_setChp_if]
      split
      · rename_i hj; rw [← hj]; exact ⟨rfl, rfl, rfl⟩
      · exact ⟨rfl, rfl, rfl⟩
    · by_cases hj : j = k
      · subst hj
        rw [(stageChange_unfed (k := j) d hn).2]
        exact ⟨rfl, rfl, rfl⟩
      · rw [stageChange_chp_other hj]
        exact ⟨rfl, rfl, rfl⟩

section
variable {g : Seg} {t : Txn} {d : Dev} {q : List Txn}

/-- Once one write has completed the writer is done (R79). -/
theorem Dev.Completing.writer (h : d.Completing g .segFault q) (hq : ∃ t ∈ q, t.requester = .charger) :
    (deliverAll g .segFault q d).WriterDone (packOf g) := by
  have hrule := writerDone_rule (packOf g)
  refine h.turns (B := fun _ => True) (A := fun e => e.WriterDone (packOf g))
    (fun t e _ hr hc ht => ⟨fun _ => trivial, fun he => hrule.deliver hr hc (fun _ => writerDone_zone _)
      (fun _ => writerDone_loss _) (fun hx => absurd hx ht) he⟩) (fun t e hr hc ht _ => ?_) trivial hq
  have hs : (e.seg (segOf (packOf g))).state.refusal = some .segFault := by rwa [segOf_packOf]
  have hp : (startPass (packOf g) (setWriter (packOf g) .idle false e)).1.WriterDone (packOf g) :=
    startPass_writerDone hs (by simp [setWriter])
  unfold deliver
  rw [ht]
  show (chargerCompleted (packOf g) .segFault e).WriterDone (packOf g)
  rw [chargerCompleted_fault (refusal_eq_fault.mp hs)]
  unfold settlePass
  split
  · exact hrule.toChargeKeeps.startPasses 8 _ (hrule.fault _ _ (startPass_faults ‹_›) hp)
  · exact hp

end

/-! ## The stage of a pack whose write fails (R65, R79) -/

theorem allocate_stage (d : Dev) (k : Pack) : ((allocate d).chp k).stage = (d.chp k).stage := by rw [allocate_chp]

/-- A READY pack has gone to FAULT after a failed retry. -/
structure Dev.Faulted (d : Dev) (k : Pack) : Prop where
  stage : (d.chp k).stage = .fault
  values : (d.chp k).current = 0 ∧ (d.chp k).voltage = 0 ∧ (d.chp k).termCount = 0 ∧ (d.chp k).elapsedUs = 0
  told : d.Raised 7

theorem Dev.Faulted.unfed {d : Dev} {k : Pack} (h : d.Faulted k) : d.Unfed k :=
  ⟨.inl (by rw [h.stage]; rfl), h.values.1, h.values.2.1⟩

theorem Dev.Faulted.same {d e : Dev} {k : Pack} (h : d.Faulted k) (hr : d.Raised 7 → e.Raised 7)
    (hc : (e.chp k).stage = (d.chp k).stage ∧ (e.chp k).current = (d.chp k).current ∧
      (e.chp k).voltage = (d.chp k).voltage ∧ (e.chp k).termCount = (d.chp k).termCount ∧
      (e.chp k).elapsedUs = (d.chp k).elapsedUs) : e.Faulted k := by
  obtain ⟨h1, ⟨h2, h3, h4, h5⟩, h6⟩ := h
  obtain ⟨c1, c2, c3, c4, c5⟩ := hc
  exact ⟨c1.trans h1, ⟨c2.trans h2, c3.trans h3, c4.trans h4, c5.trans h5⟩, hr h6⟩

theorem faultPack_faulted (k : Pack) (d : Dev) : (stageChange k .fault d).Faulted k := by
  refine ⟨?_, ?_, (stageChange_raised k .fault d).1⟩ <;>
    rw [(stageChange_unfed (k := k) (new := .fault) d rfl).2] <;>
    simp [ChargePack.enter, Stage.charging, Stage.timed]

theorem faulted_rule (k : Pack) : ChargeRule fun d => d.Faulted k where
  allocate d h := h.same id (by rw [h.unfed.allocate_chp]; exact ⟨rfl, rfl, rfl, rfl, rfl⟩)
  pass j d h := by
    refine h.same (startPass_raised j d 7).mpr ?_
    by_cases hj : j = k
    · rw [hj, startPass_chp]
      exact ⟨rfl, rfl, rfl, rfl, rfl⟩
    · rw [startPass_chp_other hj]
      exact ⟨rfl, rfl, rfl, rfl, rfl⟩
  fault j d _ h := by
    by_cases hj : j = k
    · rw [hj]
      exact faultPack_faulted k d
    · refine h.same ((stageChange_raised j .fault d).2 7) ?_
      rw [((h.unfed.leaves).stageChange hj .fault).chp]
      exact ⟨rfl, rfl, rfl, rfl, rfl⟩
  same d e hp _ _ _ hr h := h.same (hr 7) (by simp [Dev.chp, hp])

theorem faulted_zone (k : Pack) : ZoneRule fun d => d.Faulted k where
  zone _ _ h := h.same id ⟨rfl, rfl, rfl, rfl, rfl⟩
  dark d h := h.same id (by
    rw [zeroCommands_chp]
    exact ⟨rfl, h.values.1.symm, h.values.2.1.symm, rfl, rfl⟩)

/-- A READY pack whose segment is in FAULT: its stage is not FAULT yet, or the pack has faulted. -/
structure Dev.Faulting (d : Dev) (k : Pack) : Prop where
  ready : (d.mon k).record.state = .ready
  stage : (d.chp k).stage ≠ .fault ∨ d.Faulted k

theorem faulting_rule (k : Pack) : ChargeRule fun d => d.Faulting k where
  allocate d h := ⟨h.ready, h.stage.imp (fun hs => by rwa [allocate_stage]) ((faulted_rule k).allocate d)⟩
  pass j d h := by
    refine ⟨by rw [Dev.mon, (startPass_frame j d).2.2.2.2.2.1]; exact h.ready, h.stage.imp (fun hs => ?_) ((faulted_rule k).pass j d)⟩
    by_cases hj : j = k
    · rw [hj, startPass_chp]
      exact hs
    · rwa [startPass_chp_other hj]
  fault j d hf h := by
    refine ⟨h.ready, ?_⟩
    by_cases hj : j = k
    · rw [hj]
      exact .inr (faultPack_faulted k d)
    · exact h.stage.imp (fun hs => by rwa [stageChange_chp_other hj]) ((faulted_rule k).fault j d hf)
  same d e hp hz hs hm hr h := ⟨(hm k).trans h.ready, h.stage.imp (fun hs => by simpa [Dev.chp, hp] using hs)
    ((faulted_rule k).same d e hp hz hs hm hr)⟩

theorem faulting_zone (k : Pack) : ZoneRule fun d => d.Faulting k where
  zone z d h := ⟨h.ready, h.stage.imp id ((faulted_zone k).zone z d)⟩
  dark d h := ⟨h.ready, h.stage.imp (fun hs => by rw [zeroCommands_chp]; exact hs) ((faulted_zone k).dark d)⟩

/-- A pack that no failed write takes to FAULT, its record and its stage as given (R79). -/
structure Dev.Spared (d : Dev) (k : Pack) (r : PackState) (st : Stage) : Prop where
  record : (d.mon k).record.state = r
  stage : (d.chp k).stage = st

theorem spared_rule {r : PackState} {st : Stage} (k : Pack) (h : r ≠ .ready ∨ st = .fault) :
    ChargeRule fun d => d.Spared k r st where
  allocate d hd := ⟨hd.record, (allocate_stage d k).trans hd.stage⟩
  pass j d hd := by
    refine ⟨by rw [Dev.mon, (startPass_frame j d).2.2.2.2.2.1]; exact hd.record, ?_⟩
    by_cases hj : j = k
    · rw [hj, startPass_chp]
      exact hd.stage
    · rw [startPass_chp_other hj]
      exact hd.stage
  fault j d hf hd := by
    refine ⟨hd.record, ?_⟩
    by_cases hj : j = k
    · subst hj
      have : d.faultsPack j = false := by
        rcases h with h | h <;> simp [Dev.faultsPack, hd.record, hd.stage, h]
      rw [this] at hf
      cases hf
    · rw [stageChange_chp_other hj]
      exact hd.stage
  same d e hp _ _ hm _ hd := ⟨(hm k).trans hd.record, by simpa [Dev.chp, hp] using hd.stage⟩

theorem spared_zone (k : Pack) (r : PackState) (st : Stage) : ZoneRule fun d => d.Spared k r st where
  zone _ _ h := ⟨h.record, h.stage⟩
  dark d h := ⟨h.record, by rw [zeroCommands_chp]; exact h.stage⟩

section
variable {g : Seg} {d : Dev} {q : List Txn}

/-- A READY pack goes to FAULT as its write fails, where the PKM has no read that may fail (R79). -/
theorem Dev.Completing.faults (h : d.Completing g .segFault q) (hq : ∃ t ∈ q, t.requester = .charger)
    (hp : ∀ t ∈ q, t.requester ≠ .pkm) (hr : (d.mon (packOf g)).record.state = .ready)
    (hs : (d.chp (packOf g)).stage ≠ .fault) : (deliverAll g .segFault q d).Faulted (packOf g) := by
  have hrule := faulted_rule (packOf g)
  have hrule' := faulting_rule (packOf g)
  refine (h.turns (B := fun e => e.Faulting (packOf g)) (A := fun e => e.Faulting (packOf g) ∧ e.Faulted (packOf g))
    (fun t e ht hr hc hx => ⟨fun he => ?_, fun ⟨he, he'⟩ => ⟨?_, ?_⟩⟩) (fun t e hr hc ht he => ?_) ⟨hr, .inl hs⟩ hq).2
  · exact hrule'.deliver hr hc (fun _ => faulting_zone _) (fun hy => absurd hy (hp t ht)) (fun hy => absurd hy hx) he
  · exact hrule'.deliver hr hc (fun _ => faulting_zone _) (fun hy => absurd hy (hp t ht)) (fun hy => absurd hy hx) he
  · exact hrule.deliver hr hc (fun _ => faulted_zone _) (fun hy => absurd hy (hp t ht)) (fun hy => absurd hy hx) he'
  · have he : e.Faulting (packOf g) := he.elim id And.left
    have hs : (e.seg (segOf (packOf g))).state.refusal = some .segFault := by rwa [segOf_packOf]
    have hd : deliver g t .segFault e = chargerCompleted (packOf g) .segFault e := by
      unfold deliver
      rw [ht]
    rw [hd]
    generalize packOf g = k at *
    have hw : (setWriter k .idle false e).Faulting k :=
      ⟨he.ready, he.stage.imp (fun hx => by simpa [setWriter] using hx) fun hx =>
        hx.same id (by simp [setWriter])⟩
    refine ⟨hrule'.chargerCompleted hs hw, ?_⟩
    rw [chargerCompleted_fault (refusal_eq_fault.mp hs)]
    have hpass := hrule'.pass k _ hw
    unfold settlePass
    split
    · exact hrule.toChargeKeeps.startPasses 8 _ (faultPack_faulted k _)
    · rename_i hn
      refine hpass.stage.resolve_left fun hx => hn ?_
      have hdead : (startPass k (setWriter k .idle false e)).2 = (setWriter k .idle false e).faultsPack k := by
        rw [startPass, if_pos (by simp [setWriter]), issueWrite_fault _ _ (refusal_eq_fault.mp (by exact hs)), passDead]
      have hst : ((setWriter k .idle false e).chp k).stage ≠ .fault := by
        rw [startPass_chp] at hx
        exact hx
      rw [hdead]
      simp [Dev.faultsPack, hst, hw.ready]

/-- The stage of a pack that is not READY, or is in FAULT, stays where the PKM has no read that may fail (R79). -/
theorem Dev.Completing.spares (h : d.Completing g .segFault q) (hp : ∀ t ∈ q, t.requester ≠ .pkm)
    (hs : (d.mon (packOf g)).record.state ≠ .ready ∨ (d.chp (packOf g)).stage = .fault) :
    ((deliverAll g .segFault q d).chp (packOf g)).stage = (d.chp (packOf g)).stage := by
  refine (h.keeps (P := fun e => e.Spared (packOf g) (d.mon (packOf g)).record.state (d.chp (packOf g)).stage)
    (fun t e ht hr hc he => ?_) ⟨rfl, rfl⟩).stage
  refine (spared_rule _ hs).deliver hr hc (fun _ => spared_zone _ _ _) (fun hx => absurd hx (hp t ht)) (fun _ => ?_) he
  exact ⟨he.record, by simpa [setWriter] using he.stage⟩

end
end Sys2Proof.Machine

namespace Sys2Proof.Machine

/-! ## The skin read of a segment that refuses arrivals (R77, R92, R94 to R98) -/

theorem dark_rule : ChargeRule Dev.Dark where
  toChargeKeeps := dark_keeps
  same d e hp hz _ _ _ h := h.same hz fun k => by simp [Dev.chp, hp]

theorem dark_loss : LossRule Dev.Dark where
  record _ _ _ h := h.same rfl fun _ => ⟨rfl, rfl⟩
  gone k d h := by
    refine goneStage_keeps (fun j d h => Dev.Dark.iff.mpr ⟨h.zone, fun l => ?_⟩) (fun j new d hn h => ?_) k h
    · rw [chp_setChp_if]
      split
      · exact ⟨rfl, rfl⟩
      · exact ⟨(h.unfed l).current, (h.unfed l).voltage⟩
    · refine Dev.Dark.allocate (Dev.Dark.iff.mpr ⟨h.zone, fun l => ?_⟩)
      rw [raise_chp, chp_setChp_if]
      split
      · simp [ChargePack.enter, hn]
      · exact ⟨(h.unfed l).current, (h.unfed l).voltage⟩

/-- A skin read has failed, and zone 3 entered has left both packs dark. -/
structure Dev.SkinGone (d e : Dev) : Prop where
  fails : d.SkinFails e
  dark : d.tfu.skinFailures = 2 → e.tfu.zone ≠ d.tfu.zone → e.tfu.zone = 3 → e.Dark

theorem skinFailed_gone (d : Dev) : d.SkinGone (skinFailed d) := ⟨(skinFailed_fails d).1, (skinFailed_fails d).2⟩

/-- So between two moments too where the TFU and the power state have not moved before. -/
theorem Dev.SkinGone.of_before {d x e : Dev} (h : x.SkinGone e) (ht : x.tfu = d.tfu) (hp : x.ppu = d.ppu)
    (hw : x.wku = d.wku) (hs : x.tst = d.tst) (hn : x.pins.powerGood = d.pins.powerGood) : d.SkinGone e := by
  obtain ⟨⟨h1, h2, h3⟩, h4⟩ := h
  have hacts (ha : x.MarkActs e) : d.MarkActs e := ha.of_before (by rw [ht]) (by rw [ht]) (by rw [ht]) hp hw hs hn
  simp only [ht, hs] at h1 h2 h3 h4
  exact ⟨⟨h1, h2, fun h => ⟨(h3 h).1, (h3 h).2.1, (h3 h).2.2.1, (h3 h).2.2.2.1, hacts (h3 h).2.2.2.2⟩⟩, h4⟩

/-- So between two moments too where the TFU and the power state have not moved after. -/
theorem Dev.SkinGone.after {d e f : Dev} (h : d.SkinGone e) (ht : f.tfu = e.tfu) (hp : f.ppu = e.ppu)
    (hw : f.wku = e.wku) (hs : f.tst = e.tst) (hr : ∀ c, e.Raised c → f.Raised c) (hd : e.Dark → f.Dark) :
    d.SkinGone f := by
  obtain ⟨⟨h1, h2, h3⟩, h4⟩ := h
  refine ⟨⟨by rw [ht]; exact h1, by rw [ht]; exact h2, fun h => ?_⟩, fun h hz h3 => ?_⟩
  · obtain ⟨k1, k2, k3, k4, k5⟩ := h3 h
    refine ⟨by rw [ht]; exact k1, hr _ k2, by rw [ht]; exact k3, fun hz => ?_, k5.after ht hp hw hs hr⟩
    rw [ht] at hz ⊢
    refine ⟨hr _ (k4 hz).1, fun hz3 => ?_⟩
    have hf := hd (h4 h hz hz3)
    exact ⟨(hf.unfed .a).current, (hf.unfed .b).current⟩
  · rw [ht] at hz h3
    exact hd (h4 h hz h3)

section
variable {g : Seg} {t : Txn} {c : Completion} {d : Dev} {q : List Txn}

/-- A completion of another requester than the skin reader keeps both packs dark. -/
theorem deliver_dark (hr : (d.seg g).state.refusal = some c) (hq : d.Calm g t) (ht : t.requester ≠ .skin) (h : d.Dark) :
    (deliver g t c d).Dark :=
  dark_rule.deliver hr hq (fun hx => absurd hx ht) (fun _ => dark_loss)
    (fun _ => h.same rfl fun k => by
      unfold setWriter
      rw [chp_setChp_if]
      split
      · rename_i hk; rw [← hk]; exact ⟨rfl, rfl⟩
      · exact ⟨rfl, rfl⟩) h

theorem Dev.Completing.tfu_other (h : d.Completing g c q) (hq : ∀ t ∈ q, t.requester ≠ .skin) :
    (deliverAll g c q d).tfu = d.tfu :=
  h.keeps (P := fun e => e.tfu = d.tfu) (fun t _ ht hr hc he => (deliver_tfu_other hr hc (hq t ht)).trans he) rfl

/-- The one skin read of a segment fails (R92). -/
theorem Dev.Completing.skin (h : d.Completing g c q) (hq : (q.filter fun t => t.requester == .skin).length = 1) :
    d.SkinGone (deliverAll g c q d) := by
  refine h.turnsOnce (B := fun e => d.Works e ∧ e.tfu = d.tfu) (A := d.SkinGone)
    (fun t e hr hc ht => ⟨fun ⟨h1, h2⟩ => ⟨h1.trans (deliver_works hr hc), (deliver_tfu_other hr hc ht).trans h2⟩,
      fun he => ?_⟩) (fun t e hr hc ht he => ?_) ⟨⟨rfl, fun _ h => h, fun _ => rfl⟩, rfl⟩ hq
  · have hw := deliver_works hr hc
    exact he.after (deliver_tfu_other hr hc ht) hw.ppu hw.wku hw.tst hw.raised (deliver_dark hr hc ht)
  · obtain ⟨h1, h2⟩ := he
    rw [(deliver_skin_same hr hc ht).1]
    exact (skinFailed_gone e).of_before h2 h1.ppu h1.wku h1.tst (by rw [h1.same])

/-! ## The charger's writes on a segment in HELD (R79) -/

theorem commanded_of_zero {x : ChargePack} (hc : x.current = 0) (hv : x.voltage = 0) : x.command 0 0 = x := by
  cases x
  simp_all [ChargePack.command]

theorem Dev.LeavesUnfed.evalZone {d e : Dev} {k : Pack} (h : d.LeavesUnfed e k)
    (hs : (e.seg (segOf k)).state.refusal = some .segReset) : d.LeavesUnfed (evalZone e) k := by
  obtain ⟨hchp, hcause⟩ := h
  have hz (z : Nat) : d.LeavesUnfed (zeroCommands (e.setTfu { e.tfu with zone := z })) k ∧
      d.LeavesUnfed (e.setTfu { e.tfu with zone := z }) k := by
    have hcmd := commanded_of_zero hcause.current hcause.voltage
    refine ⟨⟨?_, ⟨.inr (.inl hs), ?_, ?_⟩⟩, ⟨hchp, ⟨.inr (.inl hs), hcause.current, hcause.voltage⟩⟩⟩ <;>
      rw [zeroCommands_chp]
    · exact hcmd.trans hchp
    · rfl
    · rfl
  have hkeep (x : Dev) (hx : d.LeavesUnfed x k) (n : Notice) : d.LeavesUnfed (raise n (writeChanged e (Machine.allocate x))) k := by
    have ha := hx.allocate
    exact (ha.startPasses 8 (not_mem_changedPacks (ha.chp.trans hchp.symm))).keep
  unfold Machine.evalZone zoneChange
  dsimp only
  split
  · exact ⟨hchp, hcause⟩
  · split
    · exact hkeep _ (hz _).1 _
    · exact hkeep _ (hz _).2 _

theorem Dev.LeavesUnfed.skinFailed {d e : Dev} {k : Pack} (h : d.LeavesUnfed e k)
    (hs : (e.seg (segOf k)).state.refusal = some .segReset) : d.LeavesUnfed (skinFailed e) k := by
  rw [skinFailed_eq]
  have hl : d.LeavesUnfed e.skinLost k := h.keep
  exact Dev.LeavesUnfed.ite (hl.evalZone hs).criticalWatch (h.keep)

/-- On a HELD segment a completion of another requester leaves the pack, which gets no current. -/
theorem deliver_leaves (hr : (d.seg g).state.refusal = some .segReset) (hq : d.Calm g t) (ht : t.requester ≠ .charger)
    (h : d.Unfed (packOf g)) : d.LeavesUnfed (deliver g t .segReset d) (packOf g) := by
  have hs := deliver_works hr hq
  cases hx : t.requester with
  | charger => exact absurd hx ht
  | input =>
    rw [deliver_input hr hx]
    exact Dev.LeavesUnfed.ite h.leaves (Dev.LeavesUnfed.allocateAndWrite (h.leaves.keep))
  | skin =>
    rw [(deliver_skin_same hr hq hx).1]
    exact h.leaves.skinFailed (by rwa [segOf_packOf])
  | hub =>
    rw [deliver_hub hx] at hs ⊢
    exact h.leaves.same (by simp [Dev.chp]) hs.refusal (by simp)
  | pkm =>
    rcases deliver_pkm_cases hr hq hx with he | ⟨hc, -⟩
    · rw [he]
      exact h.leaves.keep
    · cases hc

/-- The writes of a charger that gets no current end unwritten on a HELD segment (R79). -/
theorem Dev.Completing.charger_held (h : d.Completing g .segReset q) (hd : d.Unfed (packOf g)) :
    (deliverAll g .segReset q d).Unfed (packOf g) ∧
    ((∃ t ∈ q, t.requester = .charger) → (deliverAll g .segReset q d).chp (packOf g) =
      { d.chp (packOf g) with writer := .idle, retryUsed := false }) ∧
    ((∀ t ∈ q, t.requester ≠ .charger) → (deliverAll g .segReset q d).chp (packOf g) = d.chp (packOf g)) := by
  generalize hk : packOf g = k at hd ⊢
  have other {t : Txn} {e : Dev} (hr : (e.seg g).state.refusal = some .segReset) (hc : e.Calm g t)
      (ht : t.requester ≠ .charger) (he : e.Unfed k) : e.LeavesUnfed (deliver g t .segReset e) k :=
    hk ▸ deliver_leaves hr hc ht (hk ▸ he)
  have own {t : Txn} {e : Dev} (ht : t.requester = .charger) : deliver g t .segReset e = setWriter k .idle false e := by
    unfold deliver
    rw [ht, ← hk]
    rfl
  have written {e : Dev} (he : e.Unfed k) : (setWriter k .idle false e).Unfed k := by
    refine ⟨?_, by simpa [setWriter] using he.current, by simpa [setWriter] using he.voltage⟩
    have hcause := he.cause
    simpa [setWriter] using hcause
  refine ⟨h.keeps (P := fun e => e.Unfed k) (fun t e _ hr hc he => ?_) hd, fun hq => ?_, fun hq => ?_⟩
  · by_cases ht : t.requester = .charger
    · rw [own ht]
      exact written he
    · exact (other hr hc ht he).cause
  · refine (h.turns (B := fun e => e.Unfed k ∧ e.chp k = d.chp k)
      (A := fun e => e.Unfed k ∧ e.chp k = { d.chp k with writer := .idle, retryUsed := false })
      (fun t e _ hr hc ht => ⟨fun ⟨h1, h2⟩ => ?_, fun ⟨h1, h2⟩ => ?_⟩) (fun t e hr hc ht he => ?_) ⟨hd, rfl⟩ hq).2
    · have hl := other hr hc ht h1
      exact ⟨hl.cause, hl.chp.trans h2⟩
    · have hl := other hr hc ht h1
      exact ⟨hl.cause, hl.chp.trans h2⟩
    · rw [own ht]
      rcases he with ⟨h1, h2⟩ | ⟨h1, h2⟩ <;> exact ⟨written h1, by simp [setWriter, h2]⟩
  · refine (h.keeps (P := fun e => e.Unfed k ∧ e.chp k = d.chp k) (fun t e ht hr hc ⟨h1, h2⟩ => ?_) ⟨hd, rfl⟩).2
    have hl := other hr hc (hq t ht) h1
    exact ⟨hl.cause, hl.chp.trans h2⟩

end
end Sys2Proof.Machine

namespace Sys2Proof.Machine

/-! ## The answers of a segment that refuses arrivals (R151, R153, R158) -/

section
variable {d e : Dev} {j ch n : Nat} {tag : Byte} {r : Response} {L : Prop}

theorem Dev.Answers.arbitrate (h : e.Answers j ch n tag r) (g : Seg) : (arbitrate g e).Answers j ch n tag r := by
  unfold Machine.arbitrate
  split
  · refine Dev.Answers.of_pli (d := grantSequence g e) ?_ (takeTransaction_pli _ _)
    unfold grantSequence
    split
    · split
      · exact Dev.Answers.answerWith (d := e.setSeg g _) h _ _
      · exact h
    all_goals exact h
  · exact h

theorem answers_handsOn (j ch n : Nat) (tag : Byte) (r : Response) : HandsOn fun e => e.Answers j ch n tag r :=
  .of_arbiter (fun _ _ _ hp _ h => h.of_pli hp) (fun _ _ _ _ _ h => h) (fun g _ h => h.arbitrate g) fun _ _ _ h => h

theorem answers_keepsLow (j ch n : Nat) (tag : Byte) (r : Response) : KeepsLow fun e => e.Answers j ch n tag r :=
  fun _ _ h => h

/-- The status with which the drains of a segment are answered that refuses arrivals so (R158). -/
def Completion.drained : Completion → Status
  | .segFault => .segFault
  | _ => .ok

theorem drainStatus_of_refusal {g : Seg} {c : Completion} (hr : (e.seg g).state.refusal = some c) :
    drainStatus g e = c.drained := by
  unfold drainStatus
  rcases refusal_cases hr with ⟨hs, rfl⟩ | ⟨hs, rfl⟩ <;> rw [hs] <;> rfl

/-- A slot awaits one answer, and a drain that it waits for gives that one. -/
structure Dev.Waits (e : Dev) (g : Seg) (c : Completion) (j ch n : Nat) (tag : Byte) (r : Response) (L : Prop := True) :
    Prop where
  awaits : e.Awaits j ch n tag r L
  drains : ∀ x ∈ (e.seg g).drains, x.slot = j → c.drained.alone = r

section
variable {g : Seg} {c : Completion} {t : Txn}

/-- A drain that still stands was there, with these writes or more. -/
theorem hubCompleted_drains_mem {x : DrainEntry} (hx : x ∈ ((hubCompleted g t c e).seg g).drains) :
    ∃ y ∈ (e.seg g).drains, y.slot = x.slot := by
  rw [hubCompleted_drains] at hx
  split at hx
  · obtain ⟨y, hy, rfl⟩ := List.mem_map.mp (List.mem_of_mem_filter hx)
    exact ⟨y, hy, rfl⟩
  · exact ⟨x, hx, rfl⟩

theorem Dev.Awaits.ticks (h : e.Awaits j ch n tag r L) {x : Segment} (hx : (e.seg g).Ticks x) :
    (e.setSeg g x).Awaits j ch n tag r L :=
  h.setSeg fun ht hs => ⟨by rwa [Segment.Takes, ← hx.state], (hx.pending j).mp hs⟩

theorem Dev.Waits.hubCompleted (h : e.Waits g c j ch n tag r L) (hr : (e.seg g).state.refusal = some c)
    (hslot : t.slot = some j → c.response = r) : (hubCompleted g t c e).Waits g c j ch n tag r L := by
  refine ⟨hubCompleted_keeps (P := fun f => f.Awaits j ch n tag r L) (fun x f hx hf => hf.ticks hx)
    (fun i hi f hf => hf.answerWith fun hij => hslot (hij ▸ hi)) (fun x hx f hf => ?_) h.awaits, fun x hx hj => ?_⟩
  · rw [drainStatus_of_refusal hr]
    exact hf.answerWith fun hij => h.drains x hx hij
  · obtain ⟨y, hy, hs⟩ := hubCompleted_drains_mem hx
    exact h.drains y hy (hs.trans hj)

theorem Dev.Answers.hubCompleted (h : e.Answers j ch n tag r) : (hubCompleted g t c e).Answers j ch n tag r :=
  hubCompleted_keeps (P := fun f => f.Answers j ch n tag r) (fun _ _ _ hf => hf) (fun i _ _ hf => hf.answerWith i _)
    (fun x _ _ hf => hf.answerWith x.slot _) h

/-- The record whose slot it is answers it (R151). -/
theorem Dev.Waits.hub_answers (h : e.Waits g c j ch n tag r L) (ht : t.slot = some j) (hr : c.response = r) :
    (Machine.hubCompleted g t c e).Answers j ch n tag r := by
  have hsplit : Machine.hubCompleted g t c e = Machine.hubCompleted g { t with slot := none } c (answerWith j c.response e) := by
    unfold Machine.hubCompleted answerHub
    rw [ht]
  rw [hsplit, hr]
  exact h.awaits.answers.hubCompleted

theorem answerEach_answers {st : Status} {l : List DrainEntry} (h : e.Awaits j ch n tag st.alone L)
    (hl : ∃ x ∈ l, x.slot = j) : (answerEach st l e).Answers j ch n tag st.alone := by
  induction l generalizing e with
  | nil => simp at hl
  | cons x l ih =>
    by_cases hx : x.slot = j
    · subst hx
      exact answerEach_keeps (P := fun f => f.Answers x.slot ch n tag st.alone) (fun y _ _ hf => hf.answerWith y.slot _)
        (d := answer x.slot st e) h.answers
    · refine ih (h.answerWith fun _ => rfl) ?_
      obtain ⟨y, hy, hj⟩ := hl
      rcases List.mem_cons.mp hy with rfl | hy
      · exact absurd hj hx
      · exact ⟨y, hy, hj⟩

/-- The write that empties the set of the drain that it waits for answers it, and any other leaves the drain (R158). -/
theorem Dev.Waits.drain_answers (h : e.Waits g c j ch n tag c.drained.alone L)
    (hr : (e.seg g).state.refusal = some c) (hslot : t.slot = some j → c.response = c.drained.alone) {l : List Txn}
    {x : DrainEntry} (hx : x ∈ (e.seg g).drains) (hj : x.slot = j) (hc : CoveredBy (t :: l) x) :
    (Machine.hubCompleted g t c e).Answers j ch n tag c.drained.alone ∨
    ∃ y ∈ ((Machine.hubCompleted g t c e).seg g).drains, y.slot = j ∧ CoveredBy l y := by
  rw [hubCompleted_drains]
  cases hw : t.write with
  | false => exact .inr ⟨x, by simpa using hx, hj, hc.tail (.inr hw)⟩
  | true =>
    by_cases hne : x.writes.filter (· != t.order) = []
    · refine .inl ?_
      have ha : (answerHub t c e).Awaits j ch n tag c.drained.alone L ∧ (answerHub t c e).segs = e.segs := by
        unfold answerHub
        split
        · exact ⟨h.awaits, rfl⟩
        · rename_i i hi
          exact ⟨h.awaits.answerWith fun hij => hslot (hij ▸ hi), rfl⟩
      obtain ⟨ha, hsegs⟩ := ha
      have hseg : (answerHub t c e).seg g = e.seg g := by rw [Dev.seg, hsegs]; rfl
      have hd : (drainCompleted g t.order (answerHub t c e)).Answers j ch n tag c.drained.alone := by
        rw [drainCompleted_eq, drainStatus_of_refusal (by rw [hseg]; exact hr)]
        refine answerEach_answers (ha.setSeg fun ht hs => ⟨ht, hs⟩)
          ⟨{ x with writes := x.writes.filter (· != t.order) }, List.mem_filter.mpr ⟨?_, by simp [hne]⟩, hj⟩
        exact List.mem_map.mpr ⟨x, by rwa [hseg], rfl⟩
      unfold Machine.hubCompleted
      simp only [hw, if_true]
      split
      · rcases restartIdle_eq g (drainCompleted g t.order (answerHub t c e)) with hx | ⟨y, -, hx⟩ <;> rw [hx] <;> exact hd
      · exact hd
    · refine .inr ⟨{ x with writes := x.writes.filter (· != t.order) }, ?_, hj, hc.erase hne⟩
      simp only [if_true]
      exact List.mem_filter.mpr ⟨List.mem_map.mpr ⟨x, hx, rfl⟩, by simpa using hne⟩

end
end

/-! ### All the records of the segment -/

section
variable {g : Seg} {c : Completion} {t : Txn} {d : Dev} {q : List Txn} {j ch n : Nat} {tag : Byte} {r : Response} {L : Prop}

/-- Records that complete with the link as it is: outside SLEEP, with what `L` says, or the hub's alone. -/
def Dev.Linked (d : Dev) (q : List Txn) (L : Prop := True) : Prop :=
  (d.ppu.power ≠ .sleep ∧ L) ∨ ∀ t ∈ q, t.requester = .hub

theorem not_takes_of_refusal {sg : Segment} (h : sg.state.refusal = some c) : ¬ sg.Takes := by
  rw [takes_iff_refusal, h]
  simp

theorem Dev.Waits.own {e : Dev} (h : e.Waits g c j ch n tag r L) (hr : (e.seg g).state.refusal = some c)
    (ht : t.requester ≠ .hub) (hp : e.ppu.power ≠ .sleep ∧ L) : (deliver g t c e).Waits g c j ch n tag r L := by
  have hc := ne_ok_of_refusal hr
  obtain ⟨hp, hl⟩ := hp
  refine ⟨((awaits_handsOn j ch n tag r).deliver (awaits_keepsLow j ch n tag r) (fun hs => absurd hs hp) ht g hc
    (h.awaits.congr fun _ => hl)).congr fun _ => trivial, ?_⟩
  rw [deliver_own_still ht hc (not_takes_of_refusal hr) hp]
  exact h.drains

theorem Dev.Answers.deliver {e : Dev} (h : e.Answers j ch n tag r) (hr : (e.seg g).state.refusal = some c)
    (hp : t.requester = .hub ∨ e.ppu.power ≠ .sleep) : (deliver g t c e).Answers j ch n tag r := by
  by_cases ht : t.requester = .hub
  · rw [deliver_hub ht]
    exact h.hubCompleted
  · exact (answers_handsOn j ch n tag r).deliver (answers_keepsLow j ch n tag r)
      (fun hs => absurd hs (hp.resolve_left ht)) ht g (ne_ok_of_refusal hr) h

theorem Dev.Waits.deliver {e : Dev} (h : e.Waits g c j ch n tag r L) (hr : (e.seg g).state.refusal = some c)
    (hp : t.requester = .hub ∨ (e.ppu.power ≠ .sleep ∧ L)) (hslot : t.requester = .hub → t.slot = some j → c.response = r) :
    (deliver g t c e).Waits g c j ch n tag r L := by
  by_cases ht : t.requester = .hub
  · rw [deliver_hub ht]
    exact h.hubCompleted hr (hslot ht)
  · exact h.own hr ht (hp.resolve_left ht)

/-- What each completion with the link as it is turns on, the records still to go being given. -/
theorem Dev.Completing.linked {I : List Txn → Dev → Prop} (h : d.Completing g c q) (hl : d.Linked q L)
    (step : ∀ t l e, t ∈ q → (∀ u ∈ l, u ∈ q) → (e.seg g).state.refusal = some c →
      (t.requester = .hub ∨ (e.ppu.power ≠ .sleep ∧ L)) → I (t :: l) e → I l (deliver g t c e)) (hd : I q d) :
    I [] (deliverAll g c q d) := by
  induction q generalizing d with
  | nil => exact hd
  | cons t q ih =>
    have hw := deliver_works h.refuses h.calm_head
    refine ih h.step ?_ (fun u l e hu hm => step u l e (List.mem_cons_of_mem t hu) fun v hv => List.mem_cons_of_mem t (hm v hv))
      (step t q d List.mem_cons_self (fun u hu => List.mem_cons_of_mem t hu) h.refuses ?_ hd)
    · refine hl.imp (fun hp => ⟨by rw [hw.ppu]; exact hp.1, hp.2⟩) fun hn u hu => hn u (List.mem_cons_of_mem t hu)
    · exact hl.elim .inr fun hn => .inl (hn t List.mem_cons_self)

variable (h : d.Completing g c q) (hl : d.Linked q L)
include h hl

/-- The slot waits on where the hub's records for it give its one answer. -/
theorem Dev.Completing.waits (hslot : ∀ t ∈ q, t.requester = .hub → t.slot = some j → c.response = r)
    (hd : d.Waits g c j ch n tag r L) : (deliverAll g c q d).Waits g c j ch n tag r L :=
  h.linked hl (I := fun _ e => e.Waits g c j ch n tag r L)
    (fun t _ _ ht _ hr hp he => he.deliver hr hp (hslot t ht)) hd

/-- A slot that a hub's record waits for has its answer (R151). -/
theorem Dev.Completing.hub_answers (hd : d.Waits g c j ch n tag c.response L)
    (hq : ∃ t ∈ q, t.requester = .hub ∧ t.slot = some j) : (deliverAll g c q d).Answers j ch n tag c.response := by
  refine (h.linked hl (I := fun l e => e.Waits g c j ch n tag c.response L ∧
      (e.Answers j ch n tag c.response ∨ ∃ t ∈ l, t.requester = .hub ∧ t.slot = some j))
    (fun t l e _ _ hr hp ⟨hw, he⟩ => ⟨hw.deliver hr hp fun _ _ => rfl, ?_⟩) ⟨hd, .inr hq⟩).2.resolve_right (by simp)
  rcases he with he | ⟨u, hu, h1, h2⟩
  · exact .inl (he.deliver hr (hp.imp_right And.left))
  · rcases List.mem_cons.mp hu with rfl | hu
    · rw [deliver_hub h1]
      exact .inl (hw.hub_answers h2 rfl)
    · exact .inr ⟨u, hu, h1, h2⟩

/-- A slot that a drain waits for whose set the segment's writes make up has its answer (R158). -/
theorem Dev.Completing.drain_answers (hd : d.Waits g c j ch n tag c.drained.alone L)
    (hslot : ∀ t ∈ q, t.requester = .hub → t.slot = some j → c.response = c.drained.alone)
    (hq : ∃ x ∈ (d.seg g).drains, x.slot = j ∧ CoveredBy q x) :
    (deliverAll g c q d).Answers j ch n tag c.drained.alone := by
  refine (h.linked hl (I := fun l e => e.Waits g c j ch n tag c.drained.alone L ∧
      (e.Answers j ch n tag c.drained.alone ∨ ∃ x ∈ (e.seg g).drains, x.slot = j ∧ CoveredBy l x))
    (fun t l e ht _ hr hp ⟨hw, he⟩ => ⟨hw.deliver hr hp (hslot t ht), ?_⟩) ⟨hd, .inr hq⟩).2.resolve_right
      (by rintro ⟨x, -, -, hx⟩; exact not_coveredBy_nil x hx)
  rcases he with he | ⟨x, hx, hj, hc⟩
  · exact .inl (he.deliver hr (hp.imp_right And.left))
  · by_cases hub : t.requester = .hub
    · rw [deliver_hub hub]
      exact hw.drain_answers hr (hslot t ht hub) hx hj hc
    · rw [deliver_own_still hub (ne_ok_of_refusal hr) (not_takes_of_refusal hr) (hp.resolve_left hub).1]
      exact .inr ⟨x, hx, hj, hc.tail (.inl hub)⟩

/-- The sequence stays PENDING for whom it is (R153). -/
theorem Dev.Completing.pending : ((deliverAll g c q d).seg g).sequence = .pending j ↔ (d.seg g).sequence = .pending j :=
  h.linked hl (I := fun _ e => (e.seg g).sequence = .pending j ↔ (d.seg g).sequence = .pending j)
    (fun t _ e _ _ hr hp he => by
      by_cases hub : t.requester = .hub
      · rw [deliver_hub hub, ((hubCompleted_seg (g := g) (t := t) (c := c) (d := e)).1).pending]
        exact he
      · rwa [deliver_own_still hub (ne_ok_of_refusal hr) (not_takes_of_refusal hr) (hp.resolve_left hub).1]) Iff.rfl

end
end Sys2Proof.Machine

namespace Sys2Proof.Machine

/-! ## The sequence of a segment that is emptied (R153, R155) -/

section
variable {g : Seg} {st : Status} {d : Dev}

theorem stopSequence_same (g : Seg) (st : Status) (d : Dev) : stopSequence g st d = { d with
    segs := (stopSequence g st d).segs, pli := (stopSequence g st d).pli } := Dev.eq_of_blocks (by simp)

theorem endSequence_seg (hq : (d.seg g).queue = []) : (endSequence g d).seg g = { d.seg g with sequence := .noSeq } := by
  unfold endSequence
  rw [seg_setSeg, hq]
  simp [clearMembers, hq]

theorem stopSequence_seg (hq : (d.seg g).queue = []) :
    (stopSequence g st d).seg g = { d.seg g with sequence := .noSeq } ∧
    ∀ k, k ≠ g → (stopSequence g st d).seg k = d.seg k := by
  have hend : (endSequence g d).seg g = { d.seg g with sequence := .noSeq } ∧
      ∀ k, k ≠ g → (endSequence g d).seg k = d.seg k :=
    ⟨endSequence_seg hq, fun k hk => by rw [endSequence, seg_setSeg_if, if_neg (Ne.symm hk)]⟩
  unfold stopSequence
  split
  · exact hend
  · exact hend
  · rename_i hs
    exact ⟨by rw [← hs], fun _ _ => rfl⟩

theorem stopSequence_refusal (g : Seg) (st : Status) (d : Dev) (k : Seg) :
    ((stopSequence g st d).seg k).state.refusal = (d.seg k).state.refusal := by
  have hend : ((endSequence g d).seg k).state.refusal = (d.seg k).state.refusal := by
    rw [endSequence, seg_setSeg_if]
    split
    · rename_i hk; rw [← hk]
    · rfl
  unfold stopSequence
  split
  · exact hend
  · exact hend
  · rfl

variable {j ch n : Nat} {tag : Byte} {r : Response} {L : Prop}

theorem Dev.Answers.stopSequence (h : d.Answers j ch n tag r) (g : Seg) (st : Status) :
    (stopSequence g st d).Answers j ch n tag r := by
  unfold Machine.stopSequence
  split
  · exact Dev.Answers.answerWith (d := endSequence g d) h _ _
  all_goals exact h

theorem Dev.Awaits.endSequence (h : d.Awaits j ch n tag r L) : (endSequence g d).Awaits j ch n tag r L :=
  h.setSeg fun _ hs => by cases hs

theorem Dev.Awaits.stopSequence (h : d.Awaits j ch n tag r L) (hs : (d.seg g).sequence ≠ .pending j) :
    (stopSequence g st d).Awaits j ch n tag r L := by
  unfold Machine.stopSequence
  split
  · rename_i i hi
    exact h.endSequence.answerWith fun hij => absurd (hij ▸ hi) hs
  · exact h.endSequence
  · exact h

/-- The request of a PENDING sequence is answered as the segment is emptied (R153). -/
theorem Dev.Awaits.stopSequence_answers (h : d.Awaits j ch n tag st.alone L) (hs : (d.seg g).sequence = .pending j) :
    (Machine.stopSequence g st d).Answers j ch n tag st.alone := by
  unfold Machine.stopSequence
  rw [hs]
  exact h.endSequence.answers

end

/-! ## Entry to HELD (R57, R64, R79, R92, R156, R158) -/

theorem mem_inFlightFirst {q : List Txn} {t : Txn} : t ∈ inFlightFirst q ↔ t ∈ q :=
  (List.filter_append_perm (fun t : Txn => t.inFlight) q).mem_iff

theorem inFlightFirst_count (q : List Txn) (p : Txn → Bool) :
    ((inFlightFirst q).filter p).length = (q.filter p).length :=
  ((List.filter_append_perm (fun t : Txn => t.inFlight) q).filter p).length_eq

theorem coveredBy_inFlightFirst {q : List Txn} {x : DrainEntry} : CoveredBy (inFlightFirst q) x ↔ CoveredBy q x := by
  unfold CoveredBy
  simp only [mem_inFlightFirst]

/-- A segment emptied, before its records complete. -/
def Dev.emptied (d : Dev) (g : Seg) (st : SegState) : Dev := d.setSeg g ((d.seg g).emptied st)

theorem emptied_seg (d : Dev) (g : Seg) (st : SegState) : (d.emptied g st).seg g = (d.seg g).emptied st := seg_setSeg ..

/-- The records of a HELD segment have completed. -/
def Dev.withheld (d : Dev) (g : Seg) : Dev :=
  deliverAll g .segReset (inFlightFirst (d.seg g).queue) (d.emptied g .held)

theorem enterHeld_eq (g : Seg) (d : Dev) : enterHeld g d = allocateAndWrite (stopSequence g .segReset (d.withheld g)) := rfl

theorem emptied_emptying (d : Dev) (g : Seg) (st : SegState) : (d.emptied g st).Emptying g st :=
  ⟨by rw [emptied_seg]; rfl, by rw [emptied_seg]; rfl⟩

theorem withheld_empties (d : Dev) (g : Seg) : (d.withheld g).Emptying g .held ∧
    ((∀ x ∈ (d.seg g).drains, (d.seg g).Drains x) → ((d.withheld g).seg g).drains = []) := by
  obtain ⟨h1, h2⟩ := deliverAll_empties (g := g) (c := .segReset) (q := inFlightFirst (d.seg g).queue) (.inl rfl) (by simp)
    (emptied_emptying d g .held)
  refine ⟨h1, fun h => h2 fun x hx => ?_⟩
  rw [emptied_seg] at hx
  exact coveredBy_inFlightFirst.mpr (h x hx)

/-- Entry to HELD leaves the segment so, without records and sequence. -/
theorem enterHeld_seg (g : Seg) (d : Dev) :
    (enterHeld g d).seg g = { (d.withheld g).seg g with sequence := .noSeq } := by
  obtain ⟨⟨hs, hq⟩, -⟩ := withheld_empties d g
  obtain ⟨hz, -⟩ := stopSequence_seg (st := .segReset) hq
  have hn : ¬ ((stopSequence g .segReset (d.withheld g)).seg g).Takes := by
    rw [hz]
    simp [Segment.Takes, hs]
  rw [enterHeld_eq, ← hz]
  exact (still_handsOn hn).allocateAndWrite rfl

/-- Entry to HELD raises no SEGMENT_EVENT (R160). -/
theorem enterHeld_silent (g : Seg) (d : Dev) : d.Silent (enterHeld g d) := by
  have hy : d.Silent (d.withheld g) :=
    deliverAll_keeps (I := fun _ e => d.Silent e) (fun t _ e he => by
      by_cases ht : t.requester = .hub
      · rw [deliver_hub ht]
        exact he.of_nsu (by simp)
      · exact (silent_handsOn d).deliver (silent_movesLink d).low (fun _ => silent_movesLink d) ht g (by simp) he) id
  rw [enterHeld_eq]
  exact (silent_handsOn d).allocateAndWrite (hy.of_nsu (by simp))

theorem emptied_completing {d : Dev} {g : Seg} (h : d.ppu.power ≠ .sleep) (q : List Txn) :
    (d.emptied g .held).Completing g .segReset q :=
  ⟨by rw [emptied_seg]; rfl, .inl h⟩

/-- What completions keep that only its own requester's monitor of a pack moves. -/
theorem Dev.Completing.pkm_set {g : Seg} {c : Completion} {d : Dev} {q : List Txn} (h : d.Completing g c q) :
    (deliverAll g c q d).pkm = d.pkm.set (packOf g).ix ((deliverAll g c q d).mon (packOf g)) := by
  refine h.keeps (P := fun e => e.pkm = d.pkm.set (packOf g).ix (e.mon (packOf g))) (fun t e _ hr hc he => ?_)
    (by simp [Dev.mon])
  by_cases ht : t.requester = .pkm
  · have hm := deliver_mon hr hc ht
    rw [Dev.mon, hm, Pair.get_set_self, he, Pair.set_set]
  · have hm := deliver_pkm_other hr hc ht
    rw [Dev.mon, hm]
    exact he

/-- On a HELD segment no completion moves what the battery watch reads or wrote (R57). -/
theorem Dev.Completing.apart_held {g : Seg} {d : Dev} {q : List Txn} (h : d.Completing g .segReset q) :
    d.Apart (deliverAll g .segReset q d) := by
  refine h.keeps (P := d.Apart) (fun t e _ hr hc he => he.trans (deliver_apart hr hc fun ht => ?_))
    ⟨rfl, rfl, rfl, rfl, rfl, ⟨rfl, rfl⟩, .refl d⟩
  rcases deliver_pkm_cases hr hc ht with hx | ⟨hx, -⟩
  · exact hx
  · cases hx

/-- What ends the event of a segment emptied: the CHG, the segments and what they hand on alone move. -/
structure Dev.Closes (y f : Dev) (k : Pack) : Prop where
  same : f = { y with chg := f.chg, segs := f.segs, pli := f.pli, nsu := f.nsu }
  core : f.chg.core = y.chg.core
  raised : ∀ c, y.Raised c → f.Raised c
  dark : y.Dark → f.Dark
  unfed : y.Unfed k → f.chp k = y.chp k

theorem Dev.Closes.reader {y f : Dev} {k : Pack} (h : y.Closes f k) : f.chg.reader = y.chg.reader ∧
    f.chg.inputFailures = y.chg.inputFailures ∧ f.chg.vIn = y.chg.vIn ∧ f.chg.iSys = y.chg.iSys := by
  rw [(Chg.core_eq_iff _ _).mp h.core]
  exact ⟨rfl, rfl, rfl, rfl⟩

theorem seg_holds_iff (sg : Segment) (who : Requester) : sg.holds who = true ↔ ∃ t ∈ sg.queue, t.requester = who := by
  simp [Segment.holds]

theorem seg_not_holds_iff (sg : Segment) (who : Requester) : sg.holds who = false ↔ ∀ t ∈ sg.queue, t.requester ≠ who := by
  simp [Segment.holds]

/-- The reader's part once all records have completed (R64). -/
theorem Dev.Completing.inputFollows {d x f : Dev} {g : Seg} {c : Completion} {q : List Txn} {k : Pack}
    (h : x.Completing g c q) (hm : ∀ t, t ∈ q ↔ t ∈ (d.seg g).queue) (hx : x.chg = d.chg)
    (hf : (deliverAll g c q x).Closes f k) : d.InputFollows f g := by
  obtain ⟨h1, h2, h3⟩ := h.input
  obtain ⟨r1, r2, r3, r4⟩ := hf.reader
  rw [hx] at h1 h2 h3
  refine ⟨fun hq hn => ?_, fun hq => ?_, by rw [r3, r4]; exact h3⟩ <;> rw [r1, r2]
  · obtain ⟨t, ht, hr⟩ := (seg_holds_iff _ _).mp hq
    exact h1 ⟨t, (hm t).mpr ht, hr⟩ hn
  · exact h2 (hq.imp (fun hq t ht => (seg_not_holds_iff _ _).mp hq t ((hm t).mp ht)) id)

/-- What HOLD makes of the part's own requesters outside SLEEP, the event having ended. -/
theorem withheld_holds {d x f : Dev} {g : Seg} {q : List Txn} (hd : x = { d with segs := x.segs, pli := x.pli })
    (h : x.Completing g .segReset q) (hm : ∀ t, t ∈ q ↔ t ∈ (d.seg g).queue)
    (hcount : (q.filter fun t => t.requester == .skin).length = ((d.seg g).queue.filter fun t => t.requester == .skin).length)
    (hcur : (d.chp (packOf g)).current = 0) (hf : (deliverAll g .segReset q x).Closes f (packOf g)) :
    d.HoldsRequesters f g := by
  have hw := h.works
  have hpkm := h.pkm_set
  have hapart := h.apart_held
  have htold := h.pkm_told
  have hmx (k : Pack) : x.mon k = d.mon k := by rw [hd]; rfl
  have htx : x.tst = d.tst := by rw [hd]
  have hcx : x.chg = d.chg := by rw [hd]
  have hex : (∀ who, (d.seg g).holds who = true → ∃ t ∈ q, t.requester = who) ∧
      ∀ who, (d.seg g).holds who = false → ∀ t ∈ q, t.requester ≠ who :=
    ⟨fun who hh => by
      obtain ⟨t, ht, hr⟩ := (seg_holds_iff _ _).mp hh
      exact ⟨t, (hm t).mpr ht, hr⟩, fun who hh t ht => (seg_not_holds_iff _ _).mp hh t ((hm t).mp ht)⟩
  obtain ⟨hex, hno⟩ := hex
  have hmon (k : Pack) : f.mon k = (deliverAll g .segReset q x).mon k := by rw [hf.same]; rfl
  have hreads (hh : (d.seg g).holds .pkm = true)
      (hc : (d.mon (packOf g)).orphan = false ∨ (d.mon (packOf g)).cycle = none) :
      f.mon (packOf g) = x.paused (packOf g) := by
    rw [hmon, Dev.mon, htold (hex _ hh) (by rwa [hmx]), Pair.get_set_self]
    rfl
  refine ⟨fun hh => ?_, fun hh ho hc => ?_, fun hh ho hc => ?_, fun hinv => ?_, h.inputFollows hm hcx hf, fun hh => ?_,
    fun hone => ?_, ?_⟩
  · rw [hmon, Dev.mon, h.pkm_other (hno _ hh)]
    exact hmx _
  · rw [hreads hh (.inl ho)]
    simp [Dev.paused, Dev.discarded, PackMonitor.aborts, hmx, ho, hc, PackMonitor.endCycle, PackMonitor.met]
  · rw [hreads hh (.inr hc)]
    simp only [Dev.paused, Dev.discarded, PackMonitor.aborts, hmx, htx, ho, PackMonitor.endCycle, PackMonitor.met]
    by_cases hi : (d.mon (packOf g)).record.state = .identifying <;> simp [hi, hc]
  · obtain ⟨-, -, hv⟩ := hinv (packOf g)
    have hchp : x.chp (packOf g) = d.chp (packOf g) := by simp [Dev.chp, hcx]
    have hu : x.Unfed (packOf g) :=
      ⟨.inr (.inl (by rw [segOf_packOf]; exact h.refuses)), by rw [hchp, hcur], by rw [hchp]; exact hv hcur⟩
    obtain ⟨h1, h2, h3⟩ := h.charger_held hu
    rw [hf.unfed h1]
    split
    · rename_i hh
      rw [h2 (hex _ hh), hchp]
    · rename_i hh
      rw [h3 (hno _ (by simpa using hh)), hchp]
  · have ht : f.tfu = (deliverAll g .segReset q x).tfu := by rw [hf.same]
    rw [ht, h.tfu_other (hno _ hh), hd]
  · have hs := h.skin (hcount.trans hone)
    have hsame := hf.same
    refine ((hs.after ?_ ?_ ?_ ?_ hf.raised hf.dark).of_before ?_ ?_ ?_ ?_ ?_).fails
    · rw [hsame]
    · rw [hsame]
    · rw [hsame]
    · rw [hsame]
    all_goals rw [hd]
  · have hchg : f.chg = { d.chg with
        reader := f.chg.reader, inputFailures := f.chg.inputFailures, headroom := f.chg.headroom
        packs := f.chg.packs } := by
      have h1 := (Chg.core_eq_iff _ _).mp hf.core
      have h2 := hapart.chg
      rw [hcx] at h2
      generalize f.chg = a at h1
      generalize (deliverAll g .segReset q x).chg = b at h1 h2
      rw [h1, h2]
    have hsame := hf.same
    have hwsame := hw.same
    rw [← hchg, hmon]
    rw [show d.pkm = x.pkm by rw [hd], ← hpkm]
    generalize deliverAll g .segReset q x = y at hsame hwsame
    rw [hsame, hwsame, hd]

end Sys2Proof.Machine

namespace Sys2Proof.Machine

/-! ## SEGMENT_RESET settled (R156 to R158) -/

/-- The request has been answered and the event has ended, the records of the HELD segment having completed so. -/
def Dev.reallocated (y : Dev) (g : Seg) (i : Nat) : Dev := answer i .ok (allocateAndWrite (stopSequence g .segReset y))

theorem reallocated_closes (y : Dev) (g : Seg) (i : Nat) (k : Pack) : y.Closes (y.reallocated g i) k := by
  have hs := stopSequence_same g .segReset y
  have hr := stopSequence_refusal g .segReset y
  unfold Dev.reallocated
  generalize stopSequence g .segReset y = z at hs hr
  have hw := allocateAndWrite_eq z
  refine ⟨?_, ?_, fun c hc => ?_, fun hd => ?_, fun hu => ?_⟩
  · show ({ allocateAndWrite z with pli := _ } : Dev) = _
    generalize allocateAndWrite z = w at hw ⊢
    rw [hw, hs]
    rfl
  · show (allocateAndWrite z).chg.core = _
    rw [allocateAndWrite_core, hs]
  · refine (allocateAndWrite_orderly (.refl z)).raised c ?_
    rw [hs]
    exact hc
  · have hz : z.Dark := hd.same (by rw [hs]) fun k => by rw [hs]; exact ⟨rfl, rfl⟩
    exact (dark_keeps.allocateAndWrite hz).same rfl fun _ => ⟨rfl, rfl⟩
  · have hz : y.LeavesUnfed z k := hu.leaves.same (by rw [hs]; rfl) hr (by rw [hs])
    exact hz.allocateAndWrite.chp

section
variable {d : Dev} {g : Seg} {i j ch n : Nat} {tag : Byte} {r : Response}

/-- A slot that waits as HOLD is taken waits as the segment is emptied, where only it may have a sequence PENDING for
the slot. -/
theorem emptied_awaits {L : Prop} (h : L → ∀ k, k ≠ g → (d.seg k).sequence ≠ .pending j)
    (hw : d.pli.slots[j]? = some ⟨.waiting, ch, n, tag, none⟩) {st : SegState} (hs : st = .held ∨ st = .fault) :
    (d.emptied g st).Awaits j ch n tag r L := by
  refine ⟨fun hl k ht => ?_, .inl hw⟩
  by_cases hk : k = g
  · subst hk
    exact absurd ht ((emptied_emptying d k st).refuses hs)
  · rw [Dev.emptied, seg_setSeg_if, if_neg (Ne.symm hk)]
    exact h hl k hk

/-- What has its answer once the records have completed keeps it. -/
theorem Dev.Answers.reallocated (h : d.Answers j ch n tag r) (g : Seg) (i : Nat) :
    (d.reallocated g i).Answers j ch n tag r :=
  ((answers_handsOn j ch n tag r).allocateAndWrite (h.stopSequence g .segReset)).answerWith i _

/-- The slot that awaits the answer of HOLD has it at the end. -/
theorem Dev.Awaits.reallocated (h : d.Awaits i ch n tag Status.ok.alone) (hs : (d.seg g).sequence ≠ .pending i) :
    (d.reallocated g i).Answers i ch n tag Status.ok.alone :=
  ((awaits_handsOn i ch n tag Status.ok.alone).allocateAndWrite (h.stopSequence (st := .segReset) hs)).answers

end

/-- The request of SEGMENT_RESET as the part takes it (R195). -/
theorem segmentReset_ends {s : State} {i : Nat} {tag n a : Byte} {c : Instr} (ht : s.dev.TakesInto i)
    (hc : exec c s = control 13 tag [n, a] s) {d : Dev}
    (hd : reqSegmentReset [n, a] i (s.dev.waiting i 0 13 tag) = d) : Ends c s d :=
  control_ends ht (by simp) hc hd

theorem segOfNat_of_ge {n : Nat} (h : 2 ≤ n) : segOfNat n = none := by
  match n, h with
  | _ + 2, _ => rfl

/-- HOLD takes effect: the segment is HELD, and what waited is answered (R156, R158). -/
theorem hold_ends {g : Seg} {s : State} {i : Nat} (tag : Byte) (ht : s.dev.TakesInto i)
    (hcur : (s.dev.chp (packOf g)).current = 0) :
    let sg := s.dev.seg g
    let d := answer i .ok (enterHeld g (s.dev.waiting i 0 13 tag))
    (d.seg g).state = .held ∧ (d.seg g).queue = [] ∧
    (d.seg g).sequence = .noSeq ∧ d.tst = s.dev.tst ∧ d.chg.headroom = d.headroom ∧
    (d.Raised 14 → s.dev.Raised 14) ∧ (s.dev.ppu.power ≠ .sleep → s.dev.HoldsRequesters d g) ∧
    ((∀ x ∈ sg.drains, sg.Drains x) → (d.seg g).drains = []) ∧
    (∀ x ∈ sg.drains, sg.Drains x → s.dev.ppu.power = .on → s.dev.SlotClear x.slot →
      (∀ t ∈ sg.queue, t.slot ≠ some x.slot) →
      ∀ c m u, s.dev.pli.slots[x.slot]? = some ⟨.waiting, c, m, u, none⟩ →
        d.Answers x.slot c m u Status.ok.alone) ∧
    (sg.queue = [] → s.dev.SlotClear i → d.Answers i 0 13 tag Status.ok.alone ∧
      d = { s.dev with chg := d.chg, segs := d.segs, pli := d.pli, nsu := d.nsu }) ∧
    (s.dev.ppu.power = .on → s.dev.SlotClear i → (∀ e ∈ sg.drains, e.slot ≠ i) →
      (∀ t ∈ sg.queue, t.slot ≠ some i) → d.Answers i 0 13 tag Status.ok.alone) ∧
    (∀ j c m u, s.dev.ppu.power = .on → s.dev.pli.slots[j]? = some ⟨.waiting, c, m, u, none⟩ →
      (∀ e ∈ sg.drains, e.slot ≠ j) →
      (∀ t ∈ sg.queue, t.slot = some j → t.requester = .hub → s.dev.SlotClear j →
        d.Answers j c m u Status.segReset.alone) ∧
      (sg.sequence = .pending j → (∀ h, h ≠ g → (s.dev.seg h).sequence ≠ .pending j) →
        (∀ t ∈ sg.queue, t.slot ≠ some j) → d.Answers j c m u Status.segReset.alone)) := by
  intro sg d
  have hseg := enterHeld_seg g (s.dev.waiting i 0 13 tag)
  obtain ⟨⟨hstate, hqueue⟩, hdrains⟩ := withheld_empties (s.dev.waiting i 0 13 tag) g
  have hsilent := enterHeld_silent g (s.dev.waiting i 0 13 tag)
  have hd : d = ((s.dev.waiting i 0 13 tag).withheld g).reallocated g i := rfl
  have hdseg : d.seg g = (enterHeld g (s.dev.waiting i 0 13 tag)).seg g := rfl
  generalize hx : (s.dev.waiting i 0 13 tag).emptied g .held = x
  generalize hq : inFlightFirst sg.queue = q
  have hy : (s.dev.waiting i 0 13 tag).withheld g = deliverAll g .segReset q x := by rw [← hx, ← hq]; rfl
  have hm (t : Txn) : t ∈ q ↔ t ∈ sg.queue := by rw [← hq]; exact mem_inFlightFirst
  have hcomp (h : s.dev.ppu.power ≠ .sleep ∨ sg.queue = []) : x.Completing g .segReset q ∧ x.Linked q := by
    rcases h with h | h
    · rw [← hx]
      exact ⟨emptied_completing (d := s.dev.waiting i 0 13 tag) h q, .inl ⟨h, trivial⟩⟩
    · have hnil : q = [] := by rw [← hq, h]; rfl
      rw [hnil, ← hx]
      exact ⟨⟨by rw [emptied_seg]; rfl, .inr ⟨.inl (by simp), .inl (by simp)⟩⟩, .inr (by simp)⟩
  have hon (h : s.dev.ppu.power = .on) := hcomp (.inl (by rw [h]; simp))
  have hxd : (x.seg g).drains = sg.drains ∧ (x.seg g).sequence = sg.sequence := by
    rw [← hx, emptied_seg]
    exact ⟨rfl, rfl⟩
  obtain ⟨hxdrains, hxseq⟩ := hxd
  have hawaits {j ch m : Nat} {u : Byte} {r : Response} (ho : ∀ k, k ≠ g → (s.dev.seg k).sequence ≠ .pending j)
      (hw : s.dev.pli.slots[j]? = some ⟨.waiting, ch, m, u, none⟩) : x.Awaits j ch m u r := by
    rw [← hx]
    exact emptied_awaits (d := s.dev.waiting i 0 13 tag) (fun _ => ho) ((waiting_slot_other (ne_of_waiting ht hw) ..).trans hw) (.inl rfl)
  have hown (hcl : s.dev.SlotClear i) (hl : s.dev.ppu.power ≠ .sleep ∨ sg.queue = [])
      (hslot : ∀ t ∈ sg.queue, t.slot ≠ some i) : d.Answers i 0 13 tag Status.ok.alone := by
    obtain ⟨hc, hl⟩ := hcomp hl
    have hxi : x.Awaits i 0 13 tag Status.ok.alone := by
      rw [← hx]
      exact emptied_awaits (d := s.dev.waiting i 0 13 tag) (fun _ k _ => hcl k) (waiting_slot ht 0 13 tag) (.inl rfl)
    have hw := hc.waits hl (fun t ht' _ hi => absurd hi (hslot t ((hm t).mp ht'))) ⟨hxi, fun _ _ _ => rfl⟩
    rw [hd, hy]
    refine hw.awaits.reallocated fun hp => hcl g ?_
    rw [hc.pending hl, hxseq] at hp
    exact hp
  have hclose := reallocated_closes (deliverAll g .segReset q x) g i (packOf g)
  rw [← hy, ← hd] at hclose
  refine ⟨?_, ?_, ?_, ?_, ?_, hsilent, fun hp => ?_, fun hall => ?_, ?_, fun hnil hcl => ⟨?_, ?_⟩, fun hp hcl _ hslot => ?_, ?_⟩
  · rw [hdseg, hseg]
    exact hstate
  · rw [hdseg, hseg]
    exact hqueue
  · rw [hdseg, hseg]
  · show (enterHeld g _).tst = _
    simp [Dev.waiting]
  · have hh : d.headroom = (stopSequence g .segReset ((s.dev.waiting i 0 13 tag).withheld g)).headroom :=
      headroom_congr (allocateAndWrite_core _) (by simp [d, enterHeld, Dev.withheld, Dev.emptied])
    rw [hh]
    exact allocateAndWrite_headroom _
  · have hc := (hcomp (.inl hp)).1
    refine withheld_holds (x := x) (q := q) ?_ hc hm ?_ hcur (by rw [← hy]; exact hclose)
    · rw [← hx]
      rfl
    · rw [← hq]
      exact inFlightFirst_count ..
  · rw [hdseg, hseg]
    exact hdrains hall
  · intro x' hx' hdr hp hcl hslot c m u hw
    obtain ⟨hc, hl⟩ := hon hp
    rw [hd, hy]
    refine (hc.drain_answers hl ⟨hawaits (fun k _ => hcl k) hw, fun _ _ _ => rfl⟩
      (fun t ht' _ hj => absurd hj (hslot t ((hm t).mp ht'))) ⟨x', by rw [hxdrains]; exact hx', rfl, ?_⟩).reallocated g i
    rw [← hq]
    exact coveredBy_inFlightFirst.mpr hdr
  · exact hown hcl (.inr hnil) (by rw [hnil]; simp)
  · have hsame := hclose.same
    have hxs : (s.dev.waiting i 0 13 tag).withheld g = x := by
      rw [hy, ← hq, hnil]
      rfl
    rw [hxs] at hsame
    generalize d = e at hsame ⊢
    rw [hsame, ← hx]
    rfl
  · exact hown hcl (.inl (by rw [hp]; simp)) hslot
  · intro j c m u hp hw hdr
    obtain ⟨hc, hl⟩ := hon hp
    have hno : ∀ y ∈ (x.seg g).drains, y.slot = j → (Completion.segReset).drained.alone = Status.segReset.alone :=
      fun y hy' hj => absurd hj (hdr y (by rwa [hxdrains] at hy'))
    rw [hd, hy]
    refine ⟨fun t ht' hs hr hcl => ?_, fun hpend ho hslot => ?_⟩
    · exact (hc.hub_answers hl ⟨hawaits (fun k _ => hcl k) hw, hno⟩ ⟨t, (hm t).mpr ht', hr, hs⟩).reallocated g i
    · have hwy := hc.waits hl (fun t ht' _ hj => absurd hj (hslot t ((hm t).mp ht'))) ⟨hawaits ho hw, hno⟩
      have hpy : ((deliverAll g .segReset q x).seg g).sequence = .pending j := by
        rw [hc.pending hl, hxseq]
        exact hpend
      exact ((answers_handsOn j c m u _).allocateAndWrite (hwy.awaits.stopSequence_answers hpy)).answerWith i _

/-- Settles O44, by the two actions and the segment's state. -/
theorem segmentResetHoldsAndReleases : Obligations.SegmentResetHoldsAndReleases := by
  intro g s i tag n ht hn sg pack
  have hg : segOfNat n.toNat = some g := by
    rw [hn]
    cases g <;> rfl
  have hpack : packOf g = pack := by cases g <;> rfl
  have hold {d : Dev} (hd : holdSegment g i (s.dev.waiting i 0 13 tag) = d) : Ends (.segmentResetHold tag n) s d := by
    refine segmentReset_ends ht rfl ?_
    rw [← hd]
    unfold reqSegmentReset
    simp only [hg]
    rfl
  have release {d : Dev} (hd : releaseSegment g i (s.dev.waiting i 0 13 tag) = d) :
      Ends (.segmentResetRelease tag n) s d := by
    refine segmentReset_ends ht rfl ?_
    rw [← hd]
    unfold reqSegmentReset
    simp only [hg]
    rfl
  have hcur : ((s.dev.waiting i 0 13 tag).chp (packOf g)).current = (s.dev.chp pack).current := by rw [hpack]; rfl
  have hst : ((s.dev.waiting i 0 13 tag).seg g).state = sg.state := rfl
  refine ⟨fun hc => ?_, fun hc hh => ?_, fun hc hh => ?_, fun hh hcl => ?_, fun hh => ?_, fun hh => ?_, fun m hm => ?_⟩
  · refine hold ?_
    rw [holdSegment, if_pos (by rwa [hcur])]
    exact answerWith_waiting _ ht
  · refine hold ?_
    rw [holdSegment, if_neg (by rw [hcur]; exact not_not_intro hc), if_pos (hst.trans hh)]
    exact answerWith_waiting _ ht
  · refine ⟨_, hold ?_, hold_ends tag ht (by rw [hpack]; exact hc)⟩
    rw [holdSegment, if_neg (by rw [hcur]; exact not_not_intro hc), if_neg (by rwa [hst])]
  · have hr := leaveHeld_releases g (s.dev.waiting i 0 13 tag)
    have hrel : releaseSegment g i (s.dev.waiting i 0 13 tag) = answer i .ok (leaveHeld g (s.dev.waiting i 0 13 tag)) := by
      unfold releaseSegment
      rw [hst, hh]
    refine ⟨_, release hrel, hr.state, fun hq => hr.tidy hq, hr.sequence, ?_, ?_, ?_, hr.silent, ?_⟩
    · refine Dev.OpenTold.tells fun j c m u hs hw ho => ?_
      have hij := ne_of_waiting ht hw
      exact (hr.opens j c m u hs ((waiting_slot_other hij ..).trans hw) ho).answerWith hij _
    · exact hr.headroom
    · exact (hr.awaits i 0 13 tag Status.ok.alone hcl (waiting_slot ht 0 13 tag)).answers
    · have hsame := hr.same
      show ({ leaveHeld g (s.dev.waiting i 0 13 tag) with pli := _ } : Dev) = _
      generalize leaveHeld g (s.dev.waiting i 0 13 tag) = e at hsame ⊢
      rw [hsame]
      rfl
  · refine release ?_
    unfold releaseSegment
    rw [hst, hh]
    exact answerWith_of_waiting _ ht rfl
  · refine release ?_
    unfold releaseSegment
    rw [hst]
    rcases hh with hh | hh | hh <;> rw [hh] <;> exact answerWith_waiting _ ht
  · have hbad (a : Byte) : reqSegmentReset [m, a] i (s.dev.waiting i 0 13 tag) =
        answer i .badRequest (s.dev.waiting i 0 13 tag) := by
      unfold reqSegmentReset
      simp only [segOfNat_of_ge hm]
      rfl
    exact ⟨segmentReset_ends ht rfl ((hbad 0).trans (answerWith_waiting _ ht)),
      segmentReset_ends ht rfl ((hbad 1).trans (answerWith_waiting _ ht))⟩

end Sys2Proof.Machine

namespace Sys2Proof.Machine

/-! ## A recovery that ends with the data line high (R146, R148, R153, R157, R160) -/

/-- The part as a recovery has ended well, before the arbiter acts. -/
def Dev.cured (d : Dev) (g : Seg) : Dev :=
  let x := (recoveryLines g true d).setSeg g { d.seg g with fromFault := false }
  let y := if (d.seg g).fromFault then raise (.segmentEvent g .recovered) x else x
  y.setSeg g { d.seg g with fromFault := false, state := .idle }

theorem recoveryEvent_high {g : Seg} {d : Dev} (h : (d.seg g).state = .recovering) :
    recoveryEvent g true d = arbitrate g (d.cured g) := by
  have hs (f : Dev → Dev) (hf : ∀ e, (f e).segs = e.segs) :
      becomeIdle g (f ((recoveryLines g true d).setSeg g { d.seg g with fromFault := false })) = arbitrate g
        ((f ((recoveryLines g true d).setSeg g { d.seg g with fromFault := false })).setSeg g
          { d.seg g with fromFault := false, state := .idle }) := by
    unfold becomeIdle
    rw [show (f ((recoveryLines g true d).setSeg g { d.seg g with fromFault := false })).seg g =
      { d.seg g with fromFault := false } by rw [Dev.seg, hf]; exact seg_setSeg ..]
  unfold recoveryEvent
  rw [if_pos h, if_pos rfl]
  unfold recovered Dev.cured
  dsimp only
  rw [show (recoveryLines g true d).seg g = d.seg g from rfl]
  split
  · exact hs (raise (.segmentEvent g .recovered)) fun _ => rfl
  · exact hs id fun _ => rfl

section
variable (d : Dev) (g : Seg)

theorem cured_seg : (d.cured g).seg g = { d.seg g with fromFault := false, state := .idle } := seg_setSeg ..

theorem cured_nsu : (d.cured g).nsu = if (d.seg g).fromFault then
    d.nsu.raise d.tst.settings.noticeMask (.segmentEvent g .recovered) else d.nsu := by
  unfold Dev.cured
  dsimp only
  split <;> rfl

theorem cured_same : d.cured g = { d with pins := (d.cured g).pins, segs := (d.cured g).segs, nsu := (d.cured g).nsu } := by
  unfold Dev.cured
  dsimp only
  split <;> rfl

theorem cured_other {k : Seg} (hk : k ≠ g) : (d.cured g).seg k = d.seg k := by
  unfold Dev.cured
  dsimp only
  rw [seg_setSeg_if, if_neg (Ne.symm hk)]
  split
  all_goals
    show ((recoveryLines g true d).setSeg g _).seg k = _
    rw [seg_setSeg_if, if_neg (Ne.symm hk)]
    rfl

theorem cured_moves : d.MovesSeg (d.cured g) g :=
  ⟨fun _ hj => cured_other d g hj, fun hs => ⟨by rw [cured_same], by rw [cured_seg]; exact hs⟩⟩

end

theorem landed_orders (q : List Txn) : (q.map Txn.landed).map Txn.order = q.map Txn.order := by
  rw [List.map_map]
  rfl

/-- With the data line high the segment is IDLE and the arbiter acts. -/
theorem recoveryEnd_high (g : Seg) (s : State) :
    let sg := s.dev.seg g
    let mask := s.dev.tst.settings.noticeMask
    let d := arbitrate g (s.dev.cured g)
    ((d.seg g).state = .idle ∨ (d.seg g).state = .busy) ∧ (d.seg g).fromFault = false ∧
    (d.seg g).queue.map Txn.order = sg.queue.map Txn.order ∧
    (Wait sg.queue → (d.seg g).TookFirst sg.queue) ∧
    (d.seg g).sequence = sg.sequence.arbitrated sg.queue ∧ s.dev.TellsOpen d g ∧
    s.dev.SegmentMoved d g ∧
    d = { s.dev with pins := d.pins, segs := d.segs, pli := d.pli, nsu := d.nsu } ∧
    (sg.fromFault = true → d.Raised 14 ∧
      (mask.getLsbD 14 = true → Notice.segmentEvent g .recovered ∈ d.nsu.queue) ∧
      d.nsu = s.dev.nsu.raise mask (.segmentEvent g .recovered)) ∧
    (sg.fromFault = false → d.nsu = s.dev.nsu) := by
  intro sg mask d
  have hseg := cured_seg s.dev g
  have hsame := cured_same s.dev g
  have hmoves := cured_moves s.dev g
  have hnsu : d.nsu = if sg.fromFault then s.dev.nsu.raise mask (.segmentEvent g .recovered) else s.dev.nsu := by
    rw [← cured_nsu]
    show (arbitrate g (s.dev.cured g)).nsu = _
    simp
  have hidle : ((s.dev.cured g).seg g).state = .idle := by rw [hseg]
  refine ⟨?_, ?_, ?_, fun hw => ?_, ?_, ?_, hmoves.arbitrate.moved, ?_, fun hf => ?_, fun hf => ?_⟩
  · rcases arbitrate_state g g (s.dev.cured g) with hs | hs
    · exact .inl (hs.trans hidle)
    · exact .inr hs
  · rw [(arbitrate_counts g (s.dev.cured g)).2, hseg]
  · rw [← landed_orders, arbitrate_queue, landed_orders, hseg]
  · have hq : sg.queue = ((s.dev.cured g).seg g).queue := by rw [hseg]
    rw [hq] at hw ⊢
    exact arbitrate_tookFirst hidle hw
  · rw [arbitrate_sequence, if_pos hidle, hseg]
  · intro j c n tag hs hw _ _ _
    have hpli : (s.dev.cured g).pli = s.dev.pli := by rw [hsame]
    have := arbitrate_tellsOpen (d := s.dev.cured g) (g := g) (by rw [hseg]; exact hs) (by rw [hpli]; exact hw)
    rwa [hpli] at this
  · have ha : d = { s.dev.cured g with segs := d.segs, pli := d.pli } := Dev.eq_of_blocks (by simp [d])
    generalize d = e at ha ⊢
    rw [ha, hsame]
  · rw [hf, if_pos rfl] at hnsu
    have hr := raise_raised (.segmentEvent g .recovered) s.dev (Notice.cls_lt _)
    have hq := raise_queues (.segmentEvent g .recovered) s.dev
    refine ⟨?_, fun hm => ?_, hnsu⟩
    · unfold Dev.Raised
      rw [hnsu]
      exact hr
    · rw [hnsu]
      exact hq hm
  · rw [hnsu, hf]
    rfl

end Sys2Proof.Machine

namespace Sys2Proof.Machine

/-! ## A pack that loses contact as its segment enters FAULT (R55, R56, R69, R82, R148) -/

theorem Dev.Spent.same {d e : Dev} {k : Pack} (h : d.Spent k) (hc : (e.chp k).stage = (d.chp k).stage ∧
    (e.chp k).current = (d.chp k).current ∧ (e.chp k).voltage = (d.chp k).voltage) : e.Spent k :=
  ⟨by rw [hc.1]; exact h.stage, hc.2.1.trans h.current, hc.2.2.trans h.voltage⟩

theorem spent_rule (k : Pack) : ChargeRule fun d => d.Spent k where
  allocate d h := h.same (by rw [h.unfed.allocate_chp]; exact ⟨rfl, rfl, rfl⟩)
  pass j d h := by
    refine h.same ?_
    by_cases hj : j = k
    · rw [hj, startPass_chp]
      exact ⟨rfl, rfl, rfl⟩
    · rw [startPass_chp_other hj]
      exact ⟨rfl, rfl, rfl⟩
  fault j d _ h := by
    by_cases hj : j = k
    · have hf := faultPack_faulted j d
      rw [hj] at hf ⊢
      exact ⟨by rw [hf.stage]; rfl, hf.values.1, hf.values.2.1⟩
    · exact h.same (by rw [((h.unfed.leaves).stageChange hj .fault).chp]; exact ⟨rfl, rfl, rfl⟩)
  same d e hp _ _ _ _ h := h.same (by simp [Dev.chp, hp])

theorem spent_zone (k : Pack) : ZoneRule fun d => d.Spent k where
  zone _ _ h := h.same ⟨rfl, rfl, rfl⟩
  dark d h := h.same (by
    rw [zeroCommands_chp]
    exact ⟨rfl, h.current.symm, h.voltage.symm⟩)

/-- A pack has lost contact between two moments, with nothing under way for it. -/
structure Dev.Lost (d e : Dev) (k : Pack) : Prop where
  was : (d.mon k).record.state ≠ .commLost
  state : (e.mon k).record.state = .commLost
  rests : (e.mon k).Rests
  spent : e.Spent k
  told : e.Raised 6
  watch : d.WatchActs e

/-- A pack has kept its state between two moments, and what the battery watch reads and wrote stands. -/
structure Dev.Kept (d e : Dev) (k : Pack) : Prop where
  apart : d.Apart e
  state : (e.mon k).record.state = (d.mon k).record.state

theorem PackRecord.Loses.not_commLost {r : PackRecord} (h : r.Loses) : r.state ≠ .commLost := by
  rcases h.2 with h | h <;> simp [h]

theorem aborted_keeps_state {r : PackRecord} (h : ¬ r.Loses) : r.aborted.state = r.state := by
  rw [aborted_of_keeps h]

section
variable {g : Seg} {t : Txn} {d x : Dev} {q : List Txn}

/-- On a segment in FAULT a read of a pack moves its monitor alone, or loses contact. -/
theorem deliver_pkm_fault (hr : (d.seg g).state.refusal = some .segFault) (hq : d.Calm g t) (ht : t.requester = .pkm) :
    (((d.mon (packOf g)).aborts = true → ¬ (d.mon (packOf g)).record.Loses) ∧
      deliver g t .segFault d = d.setMon (packOf g) (d.failed (packOf g))) ∨
    ((d.mon (packOf g)).aborts = true ∧ (d.mon (packOf g)).record.Loses ∧
      d.Loses (deliver g t .segFault d) (packOf g) (d.failed (packOf g))) := by
  have he : deliver g t .segFault d = packCompleted (packOf g) .segFault d := by
    unfold deliver
    rw [ht]
  have hs : (d.seg (segOf (packOf g))).state = .fault := by
    rw [segOf_packOf]
    exact refusal_eq_fault.mp hr
  rw [he]
  by_cases hl : (d.mon (packOf g)).aborts = true ∧ (d.mon (packOf g)).record.Loses
  · exact .inr ⟨hl.1, hl.2, packCompleted_fault_awake hs hl.1 hl.2 (hq.resolve_right fun hn => hn.1 ht hl.1 hl.2)⟩
  · have hl : (d.mon (packOf g)).aborts = true → ¬ (d.mon (packOf g)).record.Loses := fun ha hx => hl ⟨ha, hx⟩
    exact .inl ⟨hl, packCompleted_fault_keeps hs hl⟩

/-- A lost pack stays so as another record completes. -/
theorem Dev.Lost.deliver (h : x.Lost d (packOf g)) (hr : (d.seg g).state.refusal = some .segFault) (hq : d.Calm g t) :
    x.Lost (deliver g t .segFault d) (packOf g) := by
  by_cases ht : t.requester = .pkm
  · have he : Machine.deliver g t .segFault d = d := by
      unfold Machine.deliver
      rw [ht]
      exact packCompleted_of_rests h.rests _
    rwa [he]
  · have hm (k : Pack) : (Machine.deliver g t .segFault d).mon k = d.mon k := by
      rw [Dev.mon, deliver_pkm_other hr hq ht]
      rfl
    refine ⟨h.was, by rw [hm]; exact h.state, by rw [hm]; exact h.rests, ?_, (deliver_works hr hq).raised 6 h.told,
      h.watch.after (deliver_apart hr hq fun hx => absurd hx ht) fun k => by rw [hm]; exact ⟨rfl, rfl⟩⟩
    refine (spent_rule _).deliver hr hq (fun _ => spent_zone _) (fun hx => absurd hx ht) (fun _ => ?_) h.spent
    exact h.spent.same (by simp [setWriter])

/-- A pack that has kept its state keeps it as a record completes, or is lost. -/
theorem Dev.Kept.deliver (h : x.Kept d (packOf g)) (hr : (d.seg g).state.refusal = some .segFault) (hq : d.Calm g t) :
    x.Kept (deliver g t .segFault d) (packOf g) ∨ x.Lost (deliver g t .segFault d) (packOf g) := by
  by_cases ht : t.requester = .pkm
  · obtain ⟨-, hrest, -⟩ := told_spec d (packOf g) .segFault
    rcases deliver_pkm_fault hr hq ht with ⟨hl, he⟩ | ⟨ha, hl, hloses⟩
    · refine .inl ⟨h.apart.trans (deliver_apart hr hq fun _ => he), ?_⟩
      rw [he, mon_setMon, ← h.state]
      unfold Dev.failed
      split
      · rename_i ha
        exact aborted_keeps_state (hl ha)
      · rw [discarded_record]
    · refine .inr ?_
      have hm : (Machine.deliver g t .segFault d).mon (packOf g) = d.failed (packOf g) := by
        rw [Dev.mon, hloses.same, Pair.get_set_self]
      refine ⟨by rw [← h.state]; exact hl.not_commLost, ?_, by rw [hm]; exact hrest ha, hloses.spent, hloses.told,
        hloses.watch.of_before h.apart⟩
      rw [hm, Dev.failed, if_pos ha]
      show (d.mon (packOf g)).record.aborted.state = _
      rw [aborted_of_loses hl]
  · refine .inl ⟨h.apart.trans (deliver_apart hr hq fun hx => absurd hx ht), ?_⟩
    rw [← h.state, Dev.mon, deliver_pkm_other hr hq ht]
    rfl

/-- As the records of a segment in FAULT complete, its pack keeps its state or is lost (R56). -/
theorem Dev.Completing.keeps_or_loses (h : d.Completing g .segFault q) :
    d.Kept (deliverAll g .segFault q d) (packOf g) ∨ d.Lost (deliverAll g .segFault q d) (packOf g) :=
  h.keeps (P := fun e => d.Kept e (packOf g) ∨ d.Lost e (packOf g))
    (fun _ _ _ hr hc he => he.elim (fun hk => hk.deliver hr hc) fun hl => .inr (hl.deliver hr hc))
    (.inl ⟨⟨rfl, rfl, rfl, rfl, rfl, ⟨rfl, rfl⟩, .refl d⟩, rfl⟩)

end

/-! ## Entry to FAULT outside SLEEP, or with no pack and no skin to be lost (R148) -/

/-- The event of an entry to FAULT has ended, the records of the segment having completed so. -/
def Dev.brokenOff (y : Dev) (g : Seg) : Dev := raise (.segmentEvent g .fault) (stopSequence g .segFault y)

theorem enterFault_eq (g : Seg) (d : Dev) :
    enterFault g d = (deliverAll g .segFault (d.seg g).queue (d.emptied g .fault)).brokenOff g := rfl

section
variable (y : Dev) (g : Seg)

theorem brokenOff_same : y.brokenOff g = { y with
    segs := (y.brokenOff g).segs, pli := (y.brokenOff g).pli, nsu := (y.brokenOff g).nsu } := by
  have hs := stopSequence_same g .segFault y
  unfold Dev.brokenOff
  generalize stopSequence g .segFault y = z at hs
  rw [hs]
  rfl

theorem endSequence_tells : y.Tells (endSequence g y) := setSeg_tells ..

theorem stopSequence_tells (st : Status) : y.Tells (stopSequence g st y) := by
  unfold stopSequence
  split
  · exact (endSequence_tells y g).trans (answerWith_tells _ _ _)
  · exact endSequence_tells y g
  · exact .refl y

theorem brokenOff_apart : y.Apart (y.brokenOff g) := by
  refine Dev.Apart.trans (e := stopSequence g .segFault y) ?_ (raise_apart (by simp [Notice.cls]) (by simp [Notice.cls]) _)
  have hs := stopSequence_same g .segFault y
  have ht := stopSequence_tells y g .segFault
  generalize stopSequence g .segFault y = z at hs ht
  rw [hs] at ht ⊢
  exact ⟨rfl, rfl, rfl, rfl, rfl, ⟨rfl, rfl⟩, ht⟩

theorem brokenOff_closes (k : Pack) : y.Closes (y.brokenOff g) k := by
  have hs := brokenOff_same y g
  have ha := brokenOff_apart y g
  refine ⟨by rw [hs], by rw [hs], ha.told.raised, fun h => h.same (by rw [hs]) fun _ => by rw [hs]; exact ⟨rfl, rfl⟩,
    fun _ => by rw [hs]; rfl⟩

end

/-- What entry to FAULT makes of the part's own requesters, the event having ended. -/
theorem brokenOff_fails {d x : Dev} {g : Seg} {q : List Txn}
    (hd : x = { d with pins := x.pins, segs := x.segs, pli := x.pli }) (hp : x.pins.powerGood = d.pins.powerGood ∧
      x.pins.platformReset = d.pins.platformReset) (ht : d.Tells x)
    (h : x.Completing g .segFault q) (hm : ∀ t, t ∈ q ↔ t ∈ (d.seg g).queue)
    (hcount : (q.filter fun t => t.requester == .skin).length = ((d.seg g).queue.filter fun t => t.requester == .skin).length) :
    d.FailsRequesters ((deliverAll g .segFault q x).brokenOff g) g := by
  have hf := brokenOff_closes (deliverAll g .segFault q x) g (packOf g)
  have hsame := brokenOff_same (deliverAll g .segFault q x) g
  have happ := brokenOff_apart (deliverAll g .segFault q x) g
  generalize (deliverAll g .segFault q x).brokenOff g = f at hf hsame happ ⊢
  have hmx (k : Pack) : x.mon k = d.mon k := by rw [hd]; rfl
  have htx : x.tst = d.tst := by rw [hd]
  have hcx : x.chg = d.chg := by rw [hd]
  have hchx : x.chp (packOf g) = d.chp (packOf g) := by simp [Dev.chp, hcx]
  have hax : d.Apart x := by
    rw [hd] at ht hp ⊢
    exact ⟨rfl, rfl, rfl, rfl, rfl, hp, ht⟩
  have hex (who : Requester) (hh : (d.seg g).holds who = true) : ∃ t ∈ q, t.requester = who := by
    obtain ⟨t, ht, hr⟩ := (seg_holds_iff _ _).mp hh
    exact ⟨t, (hm t).mpr ht, hr⟩
  have hno (who : Requester) (hh : (d.seg g).holds who = false) (t : Txn) (ht : t ∈ q) : t.requester ≠ who :=
    (seg_not_holds_iff _ _).mp hh t ((hm t).mp ht)
  have hmon (k : Pack) : f.mon k = (deliverAll g .segFault q x).mon k := by rw [hsame]; rfl
  have hchp : f.chp (packOf g) = (deliverAll g .segFault q x).chp (packOf g) := by rw [hsame]; rfl
  have hreads (hh : (d.seg g).holds .pkm = true)
      (hc : (d.mon (packOf g)).orphan = false ∨ (d.mon (packOf g)).cycle = none) :
      f.mon (packOf g) = x.failed (packOf g) := by
    rw [hmon, Dev.mon, h.pkm_told (hex _ hh) (by rwa [hmx]), Pair.get_set_self]
    rfl
  have hway := h.keeps_or_loses
  refine ⟨fun hh => ?_, fun hh ho hc => ?_, fun hh ho hc => ?_, fun hn hl => ?_, fun hh => ?_, fun hh hn hr hs => ?_,
    fun hh hs => ?_, h.inputFollows hm hcx hf, fun hh => ?_, fun hone => ?_, ?_, fun hst => ?_⟩
  · rw [hmon, Dev.mon, h.pkm_other (hno _ hh)]
    exact hmx _
  · rw [hreads hh (.inl ho)]
    simp [Dev.failed, Dev.discarded, PackMonitor.aborts, hmx, ho, hc, PackMonitor.met]
  · rw [hreads hh (.inr hc)]
    simp only [Dev.failed, Dev.discarded, PackMonitor.aborts, hmx, htx, ho, PackMonitor.met]
    by_cases hi : (d.mon (packOf g)).record.state = .identifying <;> simp [hi, hc]
  · rcases hway with hk | hx
    · rw [hmon, hk.state, hmx] at hl
      exact absurd hl hn
    · rw [hchp]
      exact ⟨hf.raised 6 hx.told, hx.spent.current, hx.spent.voltage,
        (hx.watch.of_before hax).after happ fun k => by rw [hmon]; exact ⟨rfl, rfl⟩⟩
  · rw [hchp]
    exact (h.writer (hex _ hh)).writer
  · have hx := h.faults (hex _ hh) (hno _ hn) (by rwa [hmx]) (by rwa [hchx])
    rw [hchp]
    exact ⟨hx.stage, hx.values.1, hx.values.2.1, hx.values.2.2.1, hx.values.2.2.2, hf.raised 7 hx.told⟩
  · rw [hchp, h.spares (hno _ hh) (by rwa [hmx, hchx]), hchx]
  · have hy : f.tfu = (deliverAll g .segFault q x).tfu := by rw [hsame]
    rw [hy, h.tfu_other (hno _ hh), hd]
  · refine (((h.skin (hcount.trans hone)).after ?_ ?_ ?_ ?_ hf.raised hf.dark).of_before ?_ ?_ ?_ ?_ hp.1).fails
    · rw [hsame]
    · rw [hsame]
    · rw [hsame]
    · rw [hsame]
    all_goals rw [hd]
  · have hpkm := h.pkm_set
    have hwsame := h.works.same
    rw [hmon, show d.pkm = x.pkm by rw [hd], ← hpkm]
    generalize deliverAll g .segFault q x = y at hsame hwsame
    rw [hsame, hwsame, hd]
  · rcases hway with hk | hx
    · have hc := (hax.trans (hk.apart.trans happ)).chg
      generalize f.chg = c at hc ⊢
      exact hc
    · rw [hmon, hx.state, ← hmx] at hst
      exact absurd hst.symm hx.was

end Sys2Proof.Machine

namespace Sys2Proof.Machine

/-! ## Entry to FAULT in any power state (R148, R151, R153, R158) -/

section
variable (d : Dev) (g : Seg)

/-- Entry to FAULT leaves the segment so, without records and sequence (R148). -/
theorem enterFault_seg : ((enterFault g d).seg g).state = .fault ∧ ((enterFault g d).seg g).queue = [] ∧
    ((enterFault g d).seg g).sequence = .noSeq ∧
    ((∀ x ∈ (d.seg g).drains, (d.seg g).Drains x) → ((enterFault g d).seg g).drains = []) := by
  obtain ⟨⟨hs, hq⟩, hdr⟩ := deliverAll_empties (g := g) (c := .segFault) (q := (d.seg g).queue) (.inr rfl) (by simp)
    (emptied_emptying d g .fault)
  have hseg : (enterFault g d).seg g =
      { (deliverAll g .segFault (d.seg g).queue (d.emptied g .fault)).seg g with sequence := .noSeq } :=
    (stopSequence_seg (st := .segFault) hq).1
  rw [hseg]
  refine ⟨hs, hq, rfl, fun h => hdr fun x hx => ?_⟩
  rw [emptied_seg] at hx
  exact (drains_iff_coveredBy _ _).mp (h x hx)

/-- Entry to FAULT is told (R160). -/
theorem enterFault_told : (enterFault g d).Raised 14 ∧ (d.tst.settings.noticeMask.getLsbD 14 = true →
    Notice.segmentEvent g .fault ∈ (enterFault g d).nsu.queue) := by
  rw [enterFault_eq]
  refine ⟨raise_raised (.segmentEvent g .fault) _ (Notice.cls_lt _), fun hm => raise_queues (.segmentEvent g .fault) _ ?_⟩
  have ht : (stopSequence g .segFault (deliverAll g .segFault (d.seg g).queue (d.emptied g .fault))).tst = d.tst := by
    rw [stopSequence_same]
    simp [Dev.emptied]
  rw [ht]
  exact hm

end

/-! ### What the hub's records move -/

/-- Between two moments records of the hub alone have completed: one segment has ticked, and the hub has been told. -/
structure Dev.Hubbed (d e : Dev) (g : Seg) : Prop where
  same : e = { d with segs := e.segs, pli := e.pli }
  ticks : (d.seg g).Ticks (e.seg g)
  other : ∀ k, k ≠ g → e.seg k = d.seg k
  told : d.Tells e

theorem Dev.Hubbed.refl (d : Dev) (g : Seg) : d.Hubbed d g := ⟨rfl, ⟨rfl, rfl, fun _ => Iff.rfl⟩, fun _ _ => rfl, .refl d⟩

theorem hubCompleted_tells (g : Seg) (t : Txn) (c : Completion) (d : Dev) : d.Tells (hubCompleted g t c d) :=
  hubCompleted_keeps (P := d.Tells) (fun y _ _ he => he.trans (setSeg_tells g y _))
    (fun i _ _ he => he.trans (answerWith_tells i _ _)) (fun y _ _ he => he.trans (answerWith_tells y.slot _ _)) (.refl d)

theorem hubCompleted_hubbed (g : Seg) (t : Txn) (c : Completion) (d : Dev) : d.Hubbed (hubCompleted g t c d) g :=
  ⟨hubCompleted_same, hubCompleted_seg.1, hubCompleted_seg.2, hubCompleted_tells g t c d⟩

section
variable {d e f : Dev} {g : Seg}

theorem Dev.Hubbed.trans (h : d.Hubbed e g) (k : e.Hubbed f g) : d.Hubbed f g :=
  ⟨by rw [k.same, h.same], ⟨k.ticks.state.trans h.ticks.state, k.ticks.queue.trans h.ticks.queue, fun j =>
    (k.ticks.pending j).trans (h.ticks.pending j)⟩, fun j hj => (k.other j hj).trans (h.other j hj), h.told.trans k.told⟩

theorem Dev.Hubbed.deliver (h : d.Hubbed e g) {t : Txn} (ht : t.requester = .hub) (c : Completion) :
    d.Hubbed (deliver g t c e) g := by
  rw [deliver_hub ht]
  exact h.trans (hubCompleted_hubbed g t c e)

theorem Dev.Hubbed.apart (h : d.Hubbed e g) : d.Apart e := by
  obtain ⟨hs, -, -, ht⟩ := h
  rw [hs] at ht ⊢
  exact ⟨rfl, rfl, rfl, rfl, rfl, ⟨rfl, rfl⟩, ht⟩

/-- The segments after one of them has moved. -/
theorem segs_of_other (h : ∀ k, k ≠ g → e.seg k = d.seg k) : e.segs = d.segs.set g.ix (e.seg g) := by
  have h0 := h .seg0
  have h1 := h .seg1
  cases g
  · have hs : e.segs.two = d.segs.two := h1 (by simp)
    show e.segs = ⟨e.segs.one, d.segs.two⟩
    rw [← hs]
  · have hs : e.segs.one = d.segs.one := h0 (by simp)
    show e.segs = ⟨d.segs.one, e.segs.two⟩
    rw [← hs]

/-- A pack that was lost stays so as the hub's records complete. -/
theorem Dev.LosesPack.hubbed {k : Pack} (h : d.LosesPack e k) (hx : e.Hubbed f g) : d.LosesPack f k := by
  refine h.after ?_ hx.apart fun j cls who write address command data ⟨t, ht, his⟩ => ⟨t, ?_, his⟩
  · have hs := hx.same
    generalize f = y at hs ⊢
    rw [hs]
  · by_cases hj : j = g
    · subst hj
      rwa [hx.ticks.queue]
    · rwa [hx.other j hj]

/-- What the one completion of a requester, or each of them, turns from `B` into `A`, among the hub's records. -/
theorem deliverAll_turns {c : Completion} {who : Requester} {B A : Dev → Prop} {q : List Txn} {d : Dev}
    (hub : ∀ t e, t.requester = .hub → (B e → B (deliver g t c e)) ∧ (A e → A (deliver g t c e)))
    (own : ∀ t e, t.requester = who → B e → A (deliver g t c e))
    (again : (q.filter fun t => t.requester == who).length = 1 ∨ ∀ t e, t.requester = who → A e → A (deliver g t c e))
    (hq : ∀ t ∈ q, t.requester = who ∨ t.requester = .hub) (hex : ∃ t ∈ q, t.requester = who) (hd : B d) :
    A (deliverAll g c q d) := by
  have keeps {p : List Txn} {e : Dev} (hp : ∀ t ∈ p, t.requester = .hub ∨ ∀ e, A e → A (deliver g t c e)) (he : A e) :
      A (deliverAll g c p e) := by
    induction p generalizing e with
    | nil => exact he
    | cons t p ih =>
      refine ih (fun u hu => hp u (List.mem_cons_of_mem t hu)) ?_
      exact (hp t List.mem_cons_self).elim (fun ht => (hub t e ht).2 he) fun ht => ht e he
  induction q generalizing d with
  | nil => simp at hex
  | cons t q ih =>
    have hq' (u : Txn) (hu : u ∈ q) := hq u (List.mem_cons_of_mem t hu)
    by_cases ht : t.requester = who
    · rw [deliverAll_cons]
      refine keeps (fun u hu => ?_) (own t d ht hd)
      rcases again with hone | hall
      · rw [List.filter_cons_of_pos (by simp [ht]), List.length_cons, Nat.add_eq_right, List.length_eq_zero_iff,
          List.filter_eq_nil_iff] at hone
        exact .inl ((hq' u hu).resolve_left fun hx => hone u hu (by simp [hx]))
      · exact (hq' u hu).symm.imp_right fun hx e => hall u e hx
    · refine ih (again.imp_left fun hone => ?_) hq' ?_ ((hub t d ((hq t List.mem_cons_self).resolve_left ht)).1 hd)
      · rwa [List.filter_cons_of_neg (by simp [ht])] at hone
      · obtain ⟨u, hu, hx⟩ := hex
        rcases List.mem_cons.mp hu with rfl | hu
        · exact absurd hx ht
        · exact ⟨u, hu, hx⟩

end

/-! ### A pack lost, and the skin, in any power state -/

/-- A loss of contact leaves an orphan of the pack as it is. -/
theorem enterCommLost_orphan (k : Pack) (d : Dev) (h : (d.mon k).orphan = false) :
    ((enterCommLost k d).mon k).orphan = false := by
  rw [enterCommLost_eq]
  show ((batteryWatch _).mon k).orphan = false
  refine batteryWatch_mon (Q := fun m => m.orphan = false) (fun ms m hm => ?_) ?_
  · unfold PackMonitor.retime
    split
    · exact hm
    · split <;> exact hm
  · have hp (y : Dev) : (packGone k false y).mon k = y.mon k := by simp [Dev.mon]
    rw [hp, mon_setMon]
    exact h

section
variable {d e : Dev} {g : Seg} {t : Txn}

/-- A read whose failure is the third in a row loses its pack (R55, R56). -/
theorem deliver_losesPack (he : e = { d with pins := e.pins, segs := e.segs, pli := e.pli }) (ha : d.Apart e)
    (hd : (d.seg g).state = .fault) (hs : (e.seg g).state = .fault) (ht : t.requester = .pkm)
    (hab : (d.mon (packOf g)).aborts = true) (hl : (d.mon (packOf g)).record.Loses) :
    d.LosesPack (deliver g t .segFault e) (packOf g) ∧ ((deliver g t .segFault e).mon (packOf g)).Rests := by
  have hm : e.mon (packOf g) = d.mon (packOf g) := by rw [he]; rfl
  have hdl : deliver g t .segFault e =
      enterCommLost (packOf g) (e.setMon (packOf g) (e.discarded (packOf g)).aborted) := by
    have hx : deliver g t .segFault e = packCompleted (packOf g) .segFault e := by
      unfold deliver
      rw [ht]
    rw [hx, packCompleted_fault_loses (by rwa [segOf_packOf]) (by rwa [hm]) (by rwa [hm])]
  have hx : (e.discarded (packOf g)).outstanding = false ∧ (e.discarded (packOf g)).orphan = false := by
    unfold Dev.discarded
    split <;> exact ⟨rfl, rfl⟩
  have hrec : (e.discarded (packOf g)).record = (d.mon (packOf g)).record := by rw [discarded_record, hm]
  have h3 : (e.discarded (packOf g)).aborted = { e.discarded (packOf g) with
      cycle := none, staged := [], record := { (e.discarded (packOf g)).record with failures := 3 } } :=
    PackMonitor.aborted_of_loses (by rwa [hrec])
  rw [hdl, h3]
  generalize e.discarded (packOf g) = m at hx hrec
  have hdoom : d.Doomed (e.setMon (packOf g) { m with
      cycle := none, staged := [], record := { m.record with failures := 3 } }) (packOf g) := by
    refine ⟨by rw [mon_setMon, hrec], by rw [mon_setMon]; exact ⟨rfl, rfl, hx.1⟩, ?_,
      ha.trans ⟨rfl, rfl, rfl, rfl, rfl, ⟨rfl, rfl⟩, .of_same rfl rfl⟩, ?_⟩
    · rw [he]
      simp [Dev.setMon, Dev.setPkm, Dev.mon]
    · show (e.seg _).Takes ↔ _
      rw [segOf_packOf]
      simp [Segment.Takes, hd, hs]
  have hloses := hdoom.loses
  exact ⟨hloses, enterCommLost_orphan _ _ (by rw [mon_setMon]; exact hx.2), hloses.cycle.1, hloses.cycle.2.2⟩

variable {q : List Txn}

/-- The reads of a pack among the hub's records lose it (R55, R56). -/
theorem deliverAll_losesPack {x : Dev} (hx : x = { d with pins := x.pins, segs := x.segs, pli := x.pli })
    (ha : d.Apart x) (hd : (d.seg g).state = .fault) (hs : (x.seg g).state = .fault)
    (hab : (d.mon (packOf g)).aborts = true) (hl : (d.mon (packOf g)).record.Loses)
    (hq : ∀ t ∈ q, t.requester = .pkm ∨ t.requester = .hub) (hex : ∃ t ∈ q, t.requester = .pkm) :
    d.LosesPack (deliverAll g .segFault q x) (packOf g) := by
  refine (deliverAll_turns (who := .pkm) (B := fun e => x.Hubbed e g)
    (A := fun e => d.LosesPack e (packOf g) ∧ (e.mon (packOf g)).Rests) (fun t e ht => ⟨fun hb => hb.deliver ht _, fun ⟨h1, h2⟩ => ?_⟩)
    (fun t e ht hb => ?_) (.inr fun t e ht ⟨h1, h2⟩ => ?_) hq hex (.refl x g)).1
  · have hb := (Dev.Hubbed.refl e g).deliver ht .segFault
    refine ⟨h1.hubbed hb, ?_⟩
    have hm : (deliver g t .segFault e).mon (packOf g) = e.mon (packOf g) := by rw [hb.same]; rfl
    rwa [hm]
  · refine deliver_losesPack ?_ (ha.trans hb.apart) hd (hb.ticks.state.trans hs) ht hab hl
    rw [hb.same, hx]
  · have he : deliver g t .segFault e = e := by
      unfold deliver
      rw [ht]
      exact packCompleted_of_rests h2 _
    rw [he]
    exact ⟨h1, h2⟩

/-- The one skin read among the hub's records fails (R92). -/
theorem deliverAll_skinGone {x : Dev} (hq : ∀ t ∈ q, t.requester = .skin ∨ t.requester = .hub)
    (hone : (q.filter fun t => t.requester == .skin).length = 1) : x.SkinGone (deliverAll g .segFault q x) := by
  refine deliverAll_turns (who := .skin) (B := fun e => x.Hubbed e g) (A := x.SkinGone)
    (fun t e ht => ⟨fun hb => hb.deliver ht _, fun he => ?_⟩) (fun t e ht hb => ?_) (.inl hone) hq ?_ (.refl x g)
  · have hb := (Dev.Hubbed.refl e g).deliver ht .segFault
    have hs := hb.same
    refine he.after ?_ ?_ ?_ ?_ hb.told.raised fun hdark => hdark.same ?_ fun k => ?_ <;> rw [hs]
    exact ⟨rfl, rfl⟩
  · have he : deliver g t .segFault e = skinFailed e := by
      unfold deliver
      rw [ht]
      exact skinCompleted_fails (by simp) e
    rw [he]
    exact (skinFailed_gone e).of_before (by rw [hb.same]) (by rw [hb.same]) (by rw [hb.same]) (by rw [hb.same])
      (by rw [hb.same])
  · obtain ⟨t, ht⟩ := List.exists_mem_of_length_pos (by rw [hone]; decide)
    exact ⟨t, (List.mem_filter.mp ht).1, by simpa using (List.mem_filter.mp ht).2⟩

end

end Sys2Proof.Machine

namespace Sys2Proof.Machine

/-! ## A recovery that ends with the data line low (R148, R151, R153, R158) -/

section
variable {d y : Dev} {g : Seg}

theorem brokenOff_seg (hq : (y.seg g).queue = []) : (y.brokenOff g).seg g = { y.seg g with sequence := .noSeq } ∧
    ∀ k, k ≠ g → (y.brokenOff g).seg k = y.seg k := stopSequence_seg (st := .segFault) hq

/-- A pack that was lost stays so as the event ends. -/
theorem Dev.LosesPack.brokenOff {k : Pack} (h : d.LosesPack y k) (hq : (y.seg g).queue = []) :
    d.LosesPack (y.brokenOff g) k := by
  obtain ⟨hg, ho⟩ := brokenOff_seg hq
  refine h.after ?_ (brokenOff_apart y g) fun j cls who write address command data ⟨t, ht, his⟩ => ⟨t, ?_, his⟩
  · have hs := brokenOff_same y g
    generalize y.brokenOff g = f at hs ⊢
    rw [hs]
  · by_cases hj : j = g
    · rw [hj, hq] at ht
      cases ht
    · rwa [ho j hj]

theorem Dev.Answers.brokenOff {j ch n : Nat} {tag : Byte} {r : Response} (h : y.Answers j ch n tag r) (g : Seg) :
    (y.brokenOff g).Answers j ch n tag r := h.stopSequence g .segFault

/-- With the hub's records alone a FAULT entered moves the segment, answers and tells. -/
theorem enterFault_hubOnly (h : ∀ t ∈ (d.seg g).queue, t.requester = .hub) : enterFault g d = { d with
    segs := d.segs.set g.ix ((enterFault g d).seg g), pli := (enterFault g d).pli
    nsu := d.nsu.raise d.tst.settings.noticeMask (.segmentEvent g .fault) } := by
  have hb : (d.emptied g .fault).Hubbed (deliverAll g .segFault (d.seg g).queue (d.emptied g .fault)) g :=
    (deliverAll_keeps (I := fun l e => (∀ t ∈ l, t.requester = .hub) ∧ (d.emptied g .fault).Hubbed e g)
      (fun t l e he => ⟨fun u hu => he.1 u (List.mem_cons_of_mem t hu), he.2.deliver (he.1 t List.mem_cons_self) _⟩)
      ⟨h, .refl _ g⟩).2
  rw [enterFault_eq]
  generalize deliverAll g .segFault (d.seg g).queue (d.emptied g .fault) = y at hb
  have hq : (y.seg g).queue = [] := hb.ticks.queue.trans (emptied_emptying d g .fault).queue
  have hother (k : Seg) (hk : k ≠ g) : (y.brokenOff g).seg k = d.seg k := by
    rw [(brokenOff_seg hq).2 k hk, hb.other k hk, Dev.emptied, seg_setSeg_if, if_neg (Ne.symm hk)]
  have hnsu : (y.brokenOff g).nsu = y.nsu.raise y.tst.settings.noticeMask (.segmentEvent g .fault) := by
    have hs := stopSequence_same g .segFault y
    unfold Dev.brokenOff
    generalize stopSequence g .segFault y = z at hs
    rw [hs]
    rfl
  have hsame := brokenOff_same y g
  have hy := hb.same
  have hyn : y.nsu = d.nsu := by rw [hy]; rfl
  have hyt : y.tst = d.tst := by rw [hy]; rfl
  rw [hyn, hyt] at hnsu
  rw [← segs_of_other hother]
  generalize y.brokenOff g = f at hsame hnsu
  refine hsame.trans ?_
  rw [hnsu, hy]
  rfl

/-- The records of a segment that enters FAULT complete with the power state as it is. -/
theorem emptied_calm (h : d.ppu.power ≠ .sleep ∨ (¬ (d.mon (packOf g)).record.Loses ∧
    ((d.seg g).holds .skin = false ∨ ((d.seg g).OneSkinRead ∧ d.tfu.skinFailures ≠ 2)))) :
    (d.emptied g .fault).Completing g .segFault (d.seg g).queue := by
  refine ⟨by rw [emptied_seg]; rfl, h.imp id fun ⟨hl, hs⟩ => ⟨.inr fun hx => absurd hx hl, hs.imp (fun hn => ?_) id⟩⟩
  exact (seg_not_holds_iff _ _).mp hn

/-- What waited is answered SEG_FAULT: a hub's record, the request of a PENDING sequence, and a drain that the queue's
writes make up (R151, R153, R158). -/
theorem enterFault_answers {j ch n : Nat} {tag : Byte} (hw : d.pli.slots[j]? = some ⟨.waiting, ch, n, tag, none⟩)
    (hl : (∀ t ∈ (d.seg g).queue, t.requester = .hub) ∨
      (d.ppu.power ≠ .sleep ∧ ∀ h, h ≠ g → (d.seg h).sequence ≠ .pending j))
    (hcause : (∃ t ∈ (d.seg g).queue, t.requester = .hub ∧ t.slot = some j) ∨ (d.seg g).sequence = .pending j ∨
      (∃ x ∈ (d.seg g).drains, x.slot = j ∧ (d.seg g).Drains x)) :
    (enterFault g d).Answers j ch n tag Status.segFault.alone := by
  have hlinked : (d.emptied g .fault).Linked (d.seg g).queue (∀ h, h ≠ g → (d.seg h).sequence ≠ .pending j) := hl.symm
  have hcomp : (d.emptied g .fault).Completing g .segFault (d.seg g).queue := by
    refine ⟨by rw [emptied_seg]; rfl, hl.symm.imp And.left fun hq => ⟨.inl fun t ht => ?_, .inl fun t ht => ?_⟩⟩ <;>
      rw [hq t ht] <;> simp
  have hwaits : (d.emptied g .fault).Waits g .segFault j ch n tag Status.segFault.alone
      (∀ h, h ≠ g → (d.seg h).sequence ≠ .pending j) :=
    ⟨emptied_awaits id hw (.inr rfl), fun _ _ _ => rfl⟩
  have hseg := emptied_seg d g .fault
  rw [enterFault_eq]
  rcases hcause with hq | hs | hx
  · exact (hcomp.hub_answers hlinked hwaits hq).brokenOff g
  · have hp := (hcomp.pending (j := j) hlinked).mpr (by rw [hseg]; exact hs)
    exact (hcomp.waits hlinked (fun _ _ _ _ => rfl) hwaits).awaits.stopSequence_answers hp
  · exact (hcomp.drain_answers hlinked hwaits (fun _ _ _ _ => rfl) (by rw [hseg]; exact hx)).brokenOff g

end

/-- A pack that a read of it aborts (R46, R55). -/
theorem aborts_of_cycle_or_waiting {m : PackMonitor} (h : (m.orphan = false ∧ m.cycle.isSome) ∨
    (m.orphan = true ∧ m.cycle = none ∧ m.record.state = .identifying)) : m.aborts = true := by
  rcases h with ⟨ho, hc⟩ | ⟨ho, -, hi⟩
  · simpa [PackMonitor.aborts, ho] using hc
  · simp [PackMonitor.aborts, ho, hi]

/-- With the data line low the segment enters FAULT. -/
theorem recoveryEnd_low (g : Seg) (s : State) :
    let sg := s.dev.seg g
    let mask := s.dev.tst.settings.noticeMask
    let d := enterFault g (recoveryLines g false s.dev)
    (d.seg g).state = .fault ∧ (d.seg g).queue = [] ∧ (d.seg g).sequence = .noSeq ∧
    d.Raised 14 ∧ (mask.getLsbD 14 = true → Notice.segmentEvent g .fault ∈ d.nsu.queue) ∧
    let hubOnly := ∀ t ∈ sg.queue, t.requester = .hub
    let k := packOf g
    let m := s.dev.mon k
    let loses := 2 ≤ m.record.failures ∧ (m.record.state = .identifying ∨ m.record.state = .ready)
    (hubOnly → d = { s.dev with
      pins := d.pins, segs := s.dev.segs.set g.ix (d.seg g), pli := d.pli
      nsu := s.dev.nsu.raise mask (.segmentEvent g .fault) }) ∧
    ((∀ x ∈ sg.drains, sg.Drains x) → (d.seg g).drains = []) ∧
    (∀ j c n tag, s.dev.pli.slots[j]? = some ⟨.waiting, c, n, tag, none⟩ →
      hubOnly ∨ (s.dev.ppu.power ≠ .sleep ∧ ∀ h, h ≠ g → (s.dev.seg h).sequence ≠ .pending j) →
      (∃ t ∈ sg.queue, t.requester = .hub ∧ t.slot = some j) ∨ sg.sequence = .pending j ∨
        (∃ x ∈ sg.drains, x.slot = j ∧ sg.Drains x) →
      d.Answers j c n tag Status.segFault.alone) ∧
    (s.dev.ppu.power ≠ .sleep ∨ (¬ loses ∧
        (sg.holds .skin = false ∨ (sg.OneSkinRead ∧ s.dev.tfu.skinFailures ≠ 2))) →
      s.dev.FailsRequesters d g) ∧
    (sg.OnlyWith .pkm → sg.holds .pkm = true → loses →
      (m.orphan = false ∧ m.cycle.isSome) ∨
        (m.orphan = true ∧ m.cycle = none ∧ m.record.state = .identifying) →
      Dev.LosesPack { s.dev with segs := s.dev.segs.set g.ix { sg with state := .fault } } d k) ∧
    (sg.OnlyWith .skin → sg.OneSkinRead → s.dev.SkinFails d) := by
  intro sg mask
  generalize hx : recoveryLines g false s.dev = x
  intro d
  have hxd : x = { s.dev with pins := x.pins } := by rw [← hx]; rfl
  have hxp : x.pins.powerGood = s.dev.pins.powerGood ∧ x.pins.platformReset = s.dev.pins.platformReset := by
    rw [← hx]
    exact ⟨rfl, rfl⟩
  have hseg : x.seg g = sg := by rw [hxd]; rfl
  obtain ⟨hstate, hqueue, hsequence, hdrains⟩ := enterFault_seg x g
  obtain ⟨htold, hnotice⟩ := enterFault_told x g
  have hd : d = (deliverAll g .segFault sg.queue (x.emptied g .fault)).brokenOff g := by rw [← hseg]; rfl
  have hempty : ((deliverAll g .segFault sg.queue (x.emptied g .fault)).seg g).queue = [] :=
    (deliverAll_empties (.inr rfl) (by simp) (emptied_emptying x g .fault)).1.queue
  refine ⟨hstate, hqueue, hsequence, htold, fun hm => hnotice (by rw [hxd]; exact hm), ?_⟩
  intro hubOnly k m loses
  refine ⟨fun hh => ?_, fun hh => hdrains (by rw [hseg]; exact hh), fun j c n tag hw hl hcause => ?_, fun hh => ?_,
    fun honly hh hl hc => ?_, fun honly hone => ?_⟩
  · have hf := enterFault_hubOnly (d := x) (g := g) (by rw [hseg]; exact hh)
    change d = { x with segs := x.segs.set g.ix (d.seg g), pli := d.pli, nsu := _ } at hf
    generalize d = e at hf ⊢
    have hpins : e.pins = x.pins := by rw [hf]
    rw [hpins]
    refine hf.trans ?_
    rw [hxd]
  · refine enterFault_answers (d := x) ?_ ?_ ?_ <;> rw [hxd]
    · exact hw
    · exact hl
    · exact hcause
  · have hc : (x.emptied g .fault).Completing g .segFault sg.queue := by
      rw [← hseg]
      refine emptied_calm ?_
      rw [hxd]
      exact hh
    rw [hd]
    refine brokenOff_fails ?_ hxp (.of_same ?_ ?_) hc (fun _ => Iff.rfl) rfl <;> rw [hxd] <;> rfl
  · rw [hd]
    refine Dev.LosesPack.brokenOff (deliverAll_losesPack ?_ ?_ ?_ (emptied_emptying x g .fault).state ?_ ?_ honly
      ((seg_holds_iff _ _).mp hh)) hempty
    · rw [hxd]; rfl
    · rw [hxd] at hxp ⊢
      exact ⟨rfl, rfl, rfl, rfl, rfl, hxp, .of_same rfl rfl⟩
    · simp [Dev.seg]
    · exact aborts_of_cycle_or_waiting hc
    · exact hl
  · rw [hd]
    have hf := deliverAll_skinGone (g := g) (x := x.emptied g .fault) honly hone
    have hs := brokenOff_same (deliverAll g .segFault sg.queue (x.emptied g .fault)) g
    have hcl := brokenOff_closes (deliverAll g .segFault sg.queue (x.emptied g .fault)) g k
    refine ((hf.after ?_ ?_ ?_ ?_ hcl.raised hcl.dark).of_before ?_ ?_ ?_ ?_ hxp.1).fails
    · rw [hs]
    · rw [hs]
    · rw [hs]
    · rw [hs]
    all_goals
      rw [hxd]
      rfl

/-- Settles O40, by what the data line reads. -/
theorem recoveryEndsInIdleOrFault : Obligations.RecoveryEndsInIdleOrFault := by
  intro g s hs sg mask
  have hlow : recoveryEvent g false s.dev = enterFault g (recoveryLines g false s.dev) := by
    unfold recoveryEvent
    rw [if_pos hs, if_neg (by simp)]
  exact ⟨⟨_, ends_of_run (f := recoveryEvent g true) rfl (recoveryEvent_high hs), recoveryEnd_high g s⟩,
    ⟨_, ends_of_run (f := recoveryEvent g false) rfl hlow, recoveryEnd_low g s⟩⟩

end Sys2Proof.Machine
